-- ==== Sys2Proof/Word.lean ====
section
/-! DEFINITION. The words of the Desk Link and the codes of cards and items. -/

namespace Sys2Proof

/-- One byte of a serial line (R1, R182). -/
abbrev Byte := BitVec 8
/-- A two-byte number of a frame's payload (R198). -/
abbrev Half := BitVec 16
/-- A four-byte number of a frame's payload (R198). -/
abbrev Word := BitVec 32
/-- A code field: 16 packed decimal places in 8 bytes (R198). -/
abbrev CodeField := BitVec 64
/-- A decimal digit. -/
abbrev Digit := Fin 10
/-- A code: its digits, leftmost first (00_scope.md, Conventions). Two codes are equal when they have the same
length and the same digits in the same places, which is equality of the lists. -/
abbrev Code := List Digit

end Sys2Proof
end

