-- ==== Sys2Proof/Syntax.lean ====
section
/-! DEFINITION. The commands of the part: one constructor for each row of spec/opcode_table.json, with its operands.
A request of the server carries its tag and the fields of its payload as R198 lays them out; a station or printer that is
a connection of the part (00_scope.md, Connections) is named, one that a payload names by number is a byte. -/

namespace Sys2Proof

/-- The four station ports, numbered 0 to 3. -/
inductive StationId
  | st0 | st1 | st2 | st3
  deriving DecidableEq, Repr

/-- The two printer lines, P0 and P1. -/
inductive PrinterId
  | p0 | p1
  deriving DecidableEq, Repr

/-- The three link rate straps (R182): true is closed. -/
structure Straps where
  third : Bool
  second : Bool
  first : Bool
  deriving DecidableEq, Repr

/-- A prefix entry on the link (R198, 15 bytes). `lead` is the prefix. -/
structure PrefixWire where
  slot : Byte
  lead : CodeField
  minLength : Byte
  maxLength : Byte
  cls : Byte
  check : Byte
  hasDefault : Byte
  default : Byte
  deriving DecidableEq, Repr

/-- A weekly hours entry on the link (R198, 7 bytes). -/
structure WeeklyWire where
  weekday : Byte
  closed : Byte
  hasHours : Byte
  opening : Half
  closing : Half
  deriving DecidableEq, Repr

/-- An exception entry on the link (R198, 8 bytes). -/
structure ExceptionWire where
  day : Half
  closed : Byte
  hasHours : Byte
  opening : Half
  closing : Half
  deriving DecidableEq, Repr

/-- A borrower entry on the link (R198, 16 bytes). -/
structure BorrowerWire where
  card : CodeField
  category : Byte
  loansHeld : Byte
  holdsReady : Byte
  flags : Byte
  finesOwed : Half
  expiryDay : Half
  deriving DecidableEq, Repr

/-- The key of a block entry on the link (R198, 10 bytes). -/
structure BlockKeyWire where
  pattern : CodeField
  k : Byte
  cardLength : Byte
  deriving DecidableEq, Repr

/-- A block entry on the link (R198, 15 bytes). -/
structure BlockWire where
  key : BlockKeyWire
  action : Byte
  reason : Byte
  hasExpiry : Byte
  expiryDay : Half
  deriving DecidableEq, Repr

/-- An item entry on the link (R198, 34 bytes). -/
structure ItemWire where
  code : CodeField
  status : Byte
  presence : Byte
  itemClass : Byte
  renewalsUsed : Byte
  holder : CodeField
  dueDay : Half
  dueMinute : Half
  holdBorrower : CodeField
  pickupDay : Half
  deriving DecidableEq, Repr

/-- A loan rule entry on the link (R198, 14 bytes). -/
structure RuleWire where
  category : Byte
  itemClass : Byte
  kind : Byte
  presence : Byte
  period : Half
  classLimit : Byte
  renewalsAllowed : Byte
  grace : Byte
  fineRate : Half
  fineCap : Half
  deriving DecidableEq, Repr

/-- A category entry on the link (R198, 7 bytes). -/
structure CategoryWire where
  category : Byte
  maxLoans : Byte
  finesLimit : Half
  expiryGrace : Byte
  offlineCap : Byte
  shelfDays : Byte
  deriving DecidableEq, Repr

/-- The commands. A received character or byte is `none` when it came with a framing error (R1, R182). -/
inductive Instr
  -- Scan acceptance (chapter 1)
  | wandCharacter (st : StationId) (c : Option Byte)
  | characterGapExpiry (st : StationId)
  | pairingTimerExpiry (st : StationId)
  | suppressionTimerExpiry (st : StationId)
  -- Command cards, as the Circulation Engine takes them (chapter 5)
  | loanMode (st : StationId)
  | returnMode (st : StationId)
  | renewMode (st : StationId)
  | endCard (st : StationId)
  | cancelLast (st : StationId)
  | overrideCard (st : StationId)
  | clearCard (st : StationId)
  | reprint (st : StationId)
  | skipSlip (st : StationId)
  -- Timers of the engine
  | padPulseExpiry (st : StationId)
  | idleTimeout (st : StationId)
  | overrideArmExpiry (st : StationId)
  | closingGraceExpiry
  | lookupTimeout (st : StationId)
  -- Clock and sweep
  | secondComplete
  | sweepStep
  -- Requests of the server
  | timeMark (tag : Byte) (day minute : Half) (second : Byte)
  | clockSet (tag : Byte) (day minute : Half) (second : Byte)
  | deskModeOpen (tag : Byte)
  | deskModeClose (tag : Byte)
  | statusRead (tag : Byte)
  | stationStatus (tag station : Byte)
  | alarmRead (tag : Byte)
  | alarmClear (tag alarm count : Byte)
  | promptClear (tag station source : Byte)
  | lookupReplyFound (tag : Byte) (card : CodeField) (category loansHeld holdsReady : Byte) (finesOwed expiryDay : Half)
  | lookupReplyNotFound (tag : Byte) (card : CodeField)
  | uploadStart (tag : Byte)
  | uploadTaken (tag : Byte) (first : Word) (count : Byte)
  | uploadResume (tag : Byte)
  | uploadAbort (tag : Byte)
  | takenTimeout
  | reset (tag : Byte)
  | linkReset
  -- The link itself
  | badKindFrame (tag kind : Byte)
  | linkBadFrame
  | receiveGapExpiry
  | livenessExpiry
  | frameSent
  -- Station outputs
  | displayTimerExpiry (st : StationId)
  | displayRecordSent (st : StationId)
  | tonePatternEnd (st : StationId)
  -- Printers
  | printerLineSent (p : PrinterId)
  | printerReadyAnswer (p : PrinterId)
  | printerPaperOutAnswer (p : PrinterId)
  | printerFaultAnswer (p : PrinterId) (c : Option Byte)
  | lineTimeout (p : PrinterId)
  -- Power
  | mainPowerFail
  | batteryGoodFall
  | warmStart (straps : Straps)
  | coldStart (straps : Straps)
  -- Settings. A desk-wide setting's index is not judged (R198), so its row carries none.
  | configRead (tag setting index : Byte)
  | configWriteReadsRequired (tag index : Byte) (value : Word)
  | configWritePairingWindow (tag index : Byte) (value : Word)
  | configWriteSuppressionWindow (tag index : Byte) (value : Word)
  | configWriteTimeSource (tag : Byte) (value : Word)
  | configWriteStepLimit (tag : Byte) (value : Word)
  | configWriteMarkAgeLimit (tag : Byte) (value : Word)
  | configWriteLookupTimeout (tag : Byte) (value : Word)
  | configWriteStationEnabled (tag index : Byte) (value : Word)
  | configWriteIdleTimeout (tag index : Byte) (value : Word)
  | configWriteSlipPrinting (tag index : Byte) (value : Word)
  | configWritePadPulse (tag index : Byte) (value : Word)
  | configWriteClosingGrace (tag : Byte) (value : Word)
  | configWriteReturnsWhenClosed (tag : Byte) (value : Word)
  | configWriteMinimumRemaining (tag : Byte) (value : Word)
  | configWritePrecedenceList (tag : Byte) (value : Word)
  | configWriteLevelMasks (tag index : Byte) (value : Word)
  | configWriteDisplayTime (tag : Byte) (value : Word)
  | configWritePrinterAssignment (tag index : Byte) (value : Word)
  | configWriteFailover (tag index : Byte) (value : Word)
  | configWriteLineTimeout (tag index : Byte) (value : Word)
  | configWriteReturnReserve (tag : Byte) (value : Word)
  | configWriteHighWaterPercentage (tag : Byte) (value : Word)
  | configWriteUploadMinute (tag : Byte) (value : Word)
  | configWriteTakenTimeout (tag : Byte) (value : Word)
  | configWriteLinkTimeout (tag : Byte) (value : Word)
  | configWriteNoticeRouting (tag index : Byte) (value : Word)
  -- Table writes
  | tableWritePrefixPut (tag : Byte) (e : PrefixWire)
  | tableWritePrefixDelete (tag slot : Byte)
  | tableWritePrefixClearAll (tag : Byte)
  | tableWriteWeeklyHoursPut (tag : Byte) (e : WeeklyWire)
  | tableWriteWeeklyHoursDelete (tag weekday : Byte)
  | tableWriteWeeklyHoursClearAll (tag : Byte)
  | tableWriteExceptionPut (tag : Byte) (e : ExceptionWire)
  | tableWriteExceptionDelete (tag : Byte) (day : Half)
  | tableWriteExceptionClearAll (tag : Byte)
  | tableWriteBorrowerPut (tag : Byte) (e : BorrowerWire)
  | tableWriteBorrowerDelete (tag : Byte) (card : CodeField)
  | tableWriteBorrowerClearAll (tag : Byte)
  | tableWriteBlockPut (tag : Byte) (e : BlockWire)
  | tableWriteBlockDelete (tag : Byte) (key : BlockKeyWire)
  | tableWriteBlockClearAll (tag : Byte)
  | tableWriteItemPut (tag : Byte) (e : ItemWire)
  | tableWriteItemDelete (tag : Byte) (code : CodeField)
  | tableWriteItemClearAll (tag : Byte)
  | tableWriteLoanRulePut (tag : Byte) (e : RuleWire)
  | tableWriteLoanRuleDelete (tag category itemClass : Byte)
  | tableWriteLoanRuleClearAll (tag : Byte)
  | tableWriteCategoryPut (tag : Byte) (e : CategoryWire)
  | tableWriteCategoryDelete (tag category : Byte)
  | tableWriteCategoryClearAll (tag : Byte)
  -- Table reads
  | tableReadPrefixKey (tag slot : Byte)
  | tableReadPrefixNext (tag slot : Byte)
  | tableReadWeeklyHoursKey (tag weekday : Byte)
  | tableReadWeeklyHoursNext (tag weekday : Byte)
  | tableReadExceptionKey (tag : Byte) (day : Half)
  | tableReadExceptionNext (tag : Byte) (day : Half)
  | tableReadBorrowerKey (tag : Byte) (card : CodeField)
  | tableReadBorrowerNext (tag : Byte) (card : CodeField)
  | tableReadBlockKey (tag : Byte) (key : BlockKeyWire)
  | tableReadBlockNext (tag : Byte) (key : BlockKeyWire)
  | tableReadItemKey (tag : Byte) (code : CodeField)
  | tableReadItemNext (tag : Byte) (code : CodeField)
  | tableReadLoanRuleKey (tag category itemClass : Byte)
  | tableReadLoanRuleNext (tag category itemClass : Byte)
  | tableReadCategoryKey (tag category : Byte)
  | tableReadCategoryNext (tag category : Byte)
  -- The receive framer
  | linkByteReceived (b : Option Byte)
  deriving DecidableEq, Repr

end Sys2Proof
end

