-- ==== Sys2Proof/Decode.lean ====
section
/-! DEFINITION. The command that a word of spec/opcode_table.json's bits spells. No row of the table gives bits: the part's
commands are events, and its requests are frames (R183, R198), which the model decodes in Sys2Proof/Machine/Link.lean. -/

namespace Sys2Proof

def decodeTableWord (_nbits _w : Nat) : Option Instr := none

end Sys2Proof
end

