-- ==== Sys2Proof/Config.lean ====
section
/-! DEFINITION. The free values: what the spec leaves open and the part nevertheless has a value for. -/

namespace Sys2Proof

/-- The renewals used of an item that is renewed, by override of RENEW_LIMIT, when its count already stands at 9: R96 says
the count "rises by 1", and section 4.1 gives the field the range 0 to 9. No value is stated, so none is known here
(DESIGN CHOICE, log 12). The argument is State's counter of free values used so far. -/
opaque Config.freeRenewalsUsed : Nat → Nat

/-- The one-byte count of frames in the upload send list of a STATUS_READ reply, when more than 255 frames wait: R197 gives the
number and R198 one byte, and no rule says what that byte then holds (DESIGN CHOICE, log 26). The argument is as above. -/
opaque Config.freeUploadFrames : Nat → Byte

end Sys2Proof
end

