-- ==== Sys2Proof/Machine/State.lean ====
section
/-! DEFINITION. The state of the part, as plain data, and its value right after reset. Each unit of the manual (00_scope.md,
The units) has its own structure. `Desk` holds every unit but the Desk Link Controller's serial line, `LinkLine` holds that
line, and `State` adds the queue of commands that wait. -/

namespace Sys2Proof.Machine

/-- The part stops on no command: the spec answers, drops or counts whatever it cannot take. So there is no fault. -/
inductive Fault
  deriving DecidableEq, Repr

/-- Why the model has no meaning for a command. -/
inductive Refusal
  /-- Raised by an arm of `exec` whose command has no meaning yet; safe (nothing can be proved about what it does). -/
  | notModelled (mnemonic : String)
  deriving DecidableEq, Repr

/-! ## Four stations, two printers -/

/-- One value for each station. -/
structure PerStation (α : Type) where
  st0 : α
  st1 : α
  st2 : α
  st3 : α
  deriving DecidableEq, Repr

def PerStation.get {α : Type} (v : PerStation α) : StationId → α
  | .st0 => v.st0
  | .st1 => v.st1
  | .st2 => v.st2
  | .st3 => v.st3

def PerStation.set {α : Type} (v : PerStation α) (st : StationId) (a : α) : PerStation α :=
  match st with
  | .st0 => { v with st0 := a }
  | .st1 => { v with st1 := a }
  | .st2 => { v with st2 := a }
  | .st3 => { v with st3 := a }

def PerStation.all {α : Type} (a : α) : PerStation α := ⟨a, a, a, a⟩

/-- One value for each printer. -/
structure PerPrinter (α : Type) where
  p0 : α
  p1 : α
  deriving DecidableEq, Repr

def PerPrinter.get {α : Type} (v : PerPrinter α) : PrinterId → α
  | .p0 => v.p0
  | .p1 => v.p1

def PerPrinter.set {α : Type} (v : PerPrinter α) (p : PrinterId) (a : α) : PerPrinter α :=
  match p with
  | .p0 => { v with p0 := a }
  | .p1 => { v with p1 := a }

/-- A timer: stopped, or running with the duration it was started with, in the unit its rule gives (log 4). -/
abbrev Timer := Option Nat

/-! ## Power (R196) and the link rate (R182) -/

structure Power where
  /-- Main power is present. -/
  on : Bool
  /-- The latch of the battery-good input: it fell while main power was absent. -/
  batteryFell : Bool
  deriving DecidableEq, Repr

inductive LinkRate
  | r19200 | r28800 | r38400 | r57600 | r76800 | r115200 | r230400 | r460800
  deriving DecidableEq, Repr

/-! ## Desk Clock (chapter 2) -/

structure PendingMark where
  day : Nat
  minute : Nat
  second : Nat
  elapsed : Nat
  deriving DecidableEq, Repr

structure Clock where
  day : Nat
  minute : Nat
  second : Nat
  prescaler : Nat
  markAge : Nat
  pendingMark : Option PendingMark
  deriving DecidableEq, Repr

inductive TimeSource
  | marks | localTime
  deriving DecidableEq, Repr

inductive SyncState
  | synced | unsynced | localTime
  deriving DecidableEq, Repr

/-! ## Tables (chapters 1 to 4) -/

inductive CheckMethod
  | none | weighted10
  deriving DecidableEq, Repr

/-- The class of a prefix entry, with the default that its class carries (1.4). -/
inductive CodeClass
  | borrower (category : Nat)
  | item (itemClass : Nat)
  | command
  | ignore
  deriving DecidableEq, Repr

structure PrefixEntry where
  slot : Nat
  /-- The prefix: 1 to 6 digits. -/
  lead : Code
  minLength : Nat
  maxLength : Nat
  cls : CodeClass
  check : CheckMethod
  deriving DecidableEq, Repr

/-- Opening and closing minute of a day. -/
structure Hours where
  opening : Nat
  closing : Nat
  deriving DecidableEq, Repr

/-- A weekday that has hours; a weekday with no entry is closed (R32). -/
structure WeekdayHours where
  weekday : Nat
  hours : Hours
  deriving DecidableEq, Repr

inductive ExceptionKind
  | closed
  | openWith (hours : Option Hours)
  deriving DecidableEq, Repr

structure ExceptionEntry where
  day : Nat
  kind : ExceptionKind
  deriving DecidableEq, Repr

structure Borrower where
  card : Code
  category : Nat
  loansHeld : Nat
  holdsReady : Nat
  finesOwed : Nat
  expiryDay : Nat
  provisional : Bool
  deriving DecidableEq, Repr

inductive BlockAction
  | refuse | refer | watch
  deriving DecidableEq, Repr

structure BlockKey where
  cardLength : Nat
  k : Nat
  pattern : Code
  deriving DecidableEq, Repr

structure BlockEntry where
  key : BlockKey
  action : BlockAction
  reason : Nat
  expiryDay : Option Nat
  deriving DecidableEq, Repr

/-- A due: a day and, for an hourly loan, a minute of it (00_scope.md, Conventions). -/
structure Due where
  day : Nat
  minute : Option Nat
  deriving DecidableEq, Repr

/-- The status of an item entry, carrying exactly the fields R61 gives each status. -/
inductive ItemStatus
  | onLoan (holder : Code) (due : Due) (renewalsUsed : Nat) (holdBorrower : Option Code)
  | holdPending (holdBorrower : Code)
  | onHoldShelf (holdBorrower : Code) (pickupDay : Nat)
  | reference
  | missing (holdBorrower : Option Code)
  | withdrawn
  deriving DecidableEq, Repr

structure ItemEntry where
  code : Code
  itemClass : Option Nat
  status : ItemStatus
  deriving DecidableEq, Repr

inductive LoanKind
  | days | hours
  deriving DecidableEq, Repr

/-- A rule of kind DAYS or HOURS. A place of the matrix with no entry holds a rule of kind NONE (R67). -/
structure LoanRule where
  category : Nat
  itemClass : Nat
  kind : LoanKind
  period : Nat
  classLimit : Nat
  renewalsAllowed : Nat
  grace : Nat
  fineRate : Nat
  fineCap : Nat
  deriving DecidableEq, Repr

/-- A category entry. A category with no entry listed stands at the cold-start values (R69). -/
structure CategoryEntry where
  category : Nat
  maxLoans : Nat
  finesLimit : Nat
  expiryGrace : Nat
  offlineCap : Nat
  shelfDays : Nat
  deriving DecidableEq, Repr

/-- The tables of the part, each sorted strictly by its key. -/
structure Tables where
  prefixes : List PrefixEntry
  weekly : List WeekdayHours
  exceptions : List ExceptionEntry
  borrowers : List Borrower
  blocks : List BlockEntry
  items : List ItemEntry
  rules : List LoanRule
  categories : List CategoryEntry
  deriving DecidableEq, Repr

/-- The phase of the sweep with its position: what was examined last, or none at the phase's start (R70). -/
inductive SweepPhase
  | items (position : Option Code)
  | blocks (position : Option BlockKey)
  deriving DecidableEq, Repr

structure Sweep where
  day : Nat
  phase : SweepPhase
  deriving DecidableEq, Repr

/-! ## Scan Acceptance Unit (chapter 1) -/

inductive WandState
  | hunting
  | inFrame (digits : Code)
  deriving DecidableEq, Repr

/-- The commands of the command cards (R15). -/
inductive Command
  | loanMode | returnMode | renewMode | endSession | cancelLast | overrideCard | clear | reprint | skipSlip
  deriving DecidableEq, Repr

/-- A classified code in a scan queue, with what its class carries (1.6). -/
inductive QueueEntry
  | borrower (code : Code) (category : Nat)
  | item (code : Code) (itemClass : Nat)
  | command (code : Code) (command : Command)
  deriving DecidableEq, Repr

structure Candidate where
  code : Code
  count : Nat
  deriving DecidableEq, Repr

structure ScanStation where
  wand : WandState
  gapTimer : Timer
  readErrors : Nat
  candidate : Option Candidate
  pairingTimer : Timer
  suppression : Option Code
  suppressionTimer : Timer
  queue : List QueueEntry
  deriving DecidableEq, Repr

/-! ## Circulation Engine (chapter 5) -/

inductive DeskMode
  | closed | opened | closing
  deriving DecidableEq, Repr

inductive StationMode
  | loan | ret | renew
  deriving DecidableEq, Repr

/-- One entry of a session's item list (R81). -/
inductive ListEntry
  | lent (code : Code) (due : Due) (seq : Nat) (prior : Option ItemEntry)
  | renewed (code : Code) (due : Due)
  | returned (code : Code)
  deriving DecidableEq, Repr

/-- The session context of an OPEN station (R81). The override arm is set while its 60 s timer runs (R89); the idle timer
always runs (R82), so its duration alone is held. -/
structure Session where
  borrower : Code
  provisional : Bool
  items : List ListEntry
  arm : Timer
  idleTimer : Nat
  deriving DecidableEq, Repr

/-- The lookup record of a station in LOOKUP (R46, R81). The lookup timer runs throughout. -/
structure Lookup where
  card : Code
  category : Nat
  timer : Nat
  deriving DecidableEq, Repr

/-- The state of a station (R80) with what its context then holds. -/
inductive Context
  | idle
  | opened (session : Session)
  | lookup (record : Lookup)
  | disabled
  deriving DecidableEq, Repr

/-- The security pad's state (R102) with the duration in ms of the pulse that runs. -/
inductive Pad
  | quiet
  | desensitising (pulse : Nat)
  | resensitising (pulse : Nat)
  deriving DecidableEq, Repr

structure EngineStation where
  context : Context
  mode : StationMode
  pad : Pad
  deriving DecidableEq, Repr

/-! ## Prompt Arbiter (chapter 7) -/

inductive Level
  | urgent | refusal | action | info
  deriving DecidableEq, Repr

inductive ClearKind
  | transient | staff | condition
  deriving DecidableEq, Repr

/-- The sixteen prompt sources, in their numbers' order (7.1). -/
inductive Source
  | borrowerBlocked | journalFull | deskClosed | loanRefused | scanInvalid | queueOverflow | unknownBorrower | holdFor
  | refer | slipWaiting | lookupWait | lent | returned | renewed | sessionOpen | sessionEnd
  deriving DecidableEq, Repr

/-- The refusal reasons, in their numbers' order (R121). -/
inductive RefusalReason
  | sessionFull | alreadyInSession | inUse | journalFull | blocked | refer | expired | notLendable | statusCheck
  | onLoanOther | alreadyOnLoan | heldForOther | loanLimit | classLimit | finesLimit | offlineCap | tableFull
  | notOnLoanToBorrower | renewLimit | nothingToCancel | borrowerElsewhere | noSession
  deriving DecidableEq, Repr

/-- A pending entry: its source with the parameters of the source's latest post (R121, R122). -/
inductive Prompt
  | borrowerBlocked (reason : Nat)
  | journalFull
  | deskClosed
  | loanRefused (reason : RefusalReason) (blockReason : Option Nat)
  | scanInvalid
  | queueOverflow
  | unknownBorrower
  | holdFor (shortNumber : Code) (pickupDay : Nat)
  | refer (reason : Nat)
  | slipWaiting (printer : PrinterId)
  | lookupWait
  | lent (due : Due)
  | returned (fine : Nat)
  | renewed (due : Due)
  | sessionOpen (shortNumber : Code) (loansHeld holdsReady finesOwed : Nat)
  | sessionEnd (count : Nat)
  deriving DecidableEq, Repr

inductive DisplayRecord
  | blank
  | prompt (p : Prompt)
  deriving DecidableEq, Repr

inductive DisplayOutput
  | idle
  | sending (record : DisplayRecord) (waiting : Option DisplayRecord)
  deriving DecidableEq, Repr

inductive Lamp
  | off | red | amber | green
  deriving DecidableEq, Repr

/-- The pitches of the tones (R135). -/
inductive Pitch
  | high | low
  deriving DecidableEq, Repr

/-- A part of a tone pattern, with its length in ms (R135): a tone at a pitch, or a gap. -/
inductive ToneSegment
  | tone (pitch : Pitch) (ms : Nat)
  | gap (ms : Nat)
  deriving DecidableEq, Repr

/-- The tone output (R135). A level's pattern is `Level.pattern`; how far it has played is time, and its end is a command
(log 4). -/
inductive Tone
  | quiet
  | playing (pattern : Level)
  deriving DecidableEq, Repr

structure Arbiter where
  /-- The pending set, sorted by source number. -/
  pending : List Prompt
  shown : Option Source
  lamp : Lamp
  displayTimer : Timer
  display : DisplayOutput
  tone : Tone
  deriving DecidableEq, Repr

structure LevelMasks where
  urgent : Bool
  refusal : Bool
  action : Bool
  info : Bool
  deriving DecidableEq, Repr

/-! ## Slip Printer Controller (chapter 8) -/

structure CivilDate where
  year : Nat
  month : Nat
  day : Nat
  deriving DecidableEq, Repr

/-- A line record (R137). The time of an ITEM line is its due minute. -/
inductive LineRecord
  | header
  | borrower (shortNumber : Code)
  | item (digits : Code) (date : Option CivilDate) (time : Option Nat)
  | hold (shortNumber : Code) (date : CivilDate)
  | total (count : Nat)
  | reprint
  | footer
  deriving DecidableEq, Repr

/-- The kind of a slip job; a HOLD job carries the item routed to the hold shelf (8.1). -/
inductive SlipKind
  | loan
  | hold (item : Code)
  deriving DecidableEq, Repr

structure SlipJob where
  kind : SlipKind
  reprint : Bool
  station : StationId
  borrower : Code
  lines : List LineRecord
  deriving DecidableEq, Repr

inductive PrinterStatus
  | ready | busy | paperOut | offline
  deriving DecidableEq, Repr

structure Printer where
  status : PrinterStatus
  queue : List SlipJob
  /-- The line position: how many lines of the head job were answered READY in this attempt, so the next line's place. -/
  position : Nat
  /-- The line record on the printer's transmit output, until it has been sent. -/
  sending : Option LineRecord
  lineTimer : Timer
  deriving DecidableEq, Repr

structure Slips where
  printers : PerPrinter Printer
  /-- The deferred slips in the order they were deferred; each is the deferred slip of its own station (R143). -/
  deferrals : List SlipJob
  lastSlips : PerStation (Option SlipJob)
  deriving DecidableEq, Repr

inductive Failover
  | automatic | manual
  deriving DecidableEq, Repr

/-! ## Journal (chapter 9) -/

inductive RefusedAct
  | loan | renew
  deriving DecidableEq, Repr

inductive SlipCause
  | skipped | deferredHeld | queueFull
  deriving DecidableEq, Repr

inductive ClockCause
  | mark | pendingMark | set
  deriving DecidableEq, Repr

inductive RestartKind
  | warm | cold | link
  deriving DecidableEq, Repr

/-- What a RETURN of an ON_LOAN entry carries besides the item (R93, R154). -/
structure ReturnedLoan where
  holder : Code
  due : Due
  fine : Nat
  lateUnits : Nat
  deriving DecidableEq, Repr

/-- The kind of a record with exactly the fields R154 gives it. -/
inductive RecordBody
  | loan (borrower item : Code) (due : Due)
  | ret (item : Code) (loan : Option ReturnedLoan)
  | renew (borrower item : Code) (due : Due)
  | refusal (borrower item : Code) (reason : RefusalReason) (act : RefusedAct)
  | cancel (borrower item : Code) (loanSeq : Nat)
  | holdRouted (borrower item : Code) (pickupDay : Nat)
  | holdLapsed (borrower item : Code) (pickupDay : Nat)
  | slipDiscarded (borrower : Code) (item : Option Code) (cause : SlipCause)
  | deskMode (mode : DeskMode)
  | clockChange (cause : ClockCause)
  | restart (kind : RestartKind)
  deriving DecidableEq, Repr

structure RecordFlags where
  offline : Bool
  unsynced : Bool
  overridden : Bool
  provisional : Bool
  found : Bool
  noOpenDay : Bool
  deriving DecidableEq, Repr

/-- A journal record; station none is NONE. -/
structure JournalRecord where
  seq : Nat
  day : Nat
  minute : Nat
  station : Option StationId
  flags : RecordFlags
  body : RecordBody
  deriving DecidableEq, Repr

structure Journal where
  /-- The held records, from released + 1 to newest. -/
  held : List JournalRecord
  newest : Nat
  released : Nat
  deriving DecidableEq, Repr

/-! ## Upload Engine (chapter 10) -/

inductive UploadState
  | idle | sending | stalled
  deriving DecidableEq, Repr

structure BlockInFlight where
  first : Nat
  count : Nat
  deriving DecidableEq, Repr

structure Upload where
  state : UploadState
  cut : Nat
  sent : Nat
  block : Option BlockInFlight
  takenTimer : Timer
  /-- Upload-waiting: set with its waiting day, or clear. -/
  waiting : Option Nat
  deriving DecidableEq, Repr

/-! ## Desk Link Controller (chapter 11) -/

/-- The eleven alarms, in their numbers' order (11.6). -/
inductive AlarmId
  | journalHigh | journalFull | printer0Fault | printer1Fault | clockUnsynced | uploadStalled | clockDispute | tableFull
  | linkOverrun | powerRestored | coldStart
  deriving DecidableEq, Repr

structure AlarmState where
  active : Bool
  count : Nat
  /-- Whether the condition holds; never set for an event alarm. -/
  holds : Bool
  deriving DecidableEq, Repr

structure AlarmSet where
  journalHigh : AlarmState
  journalFull : AlarmState
  printer0Fault : AlarmState
  printer1Fault : AlarmState
  clockUnsynced : AlarmState
  uploadStalled : AlarmState
  clockDispute : AlarmState
  tableFull : AlarmState
  linkOverrun : AlarmState
  powerRestored : AlarmState
  coldStart : AlarmState
  deriving DecidableEq, Repr

/-- The seven notice kinds, in their numbers' order (11.7). -/
inductive NoticeKind
  | watchHit | blockHit | overrideUsed | holdRouted | provisionalOpened | borrowerUnknown | alarm
  deriving DecidableEq, Repr

/-- A notice's kind with its details (11.7). -/
inductive NoticeBody
  | watchHit (st : StationId) (card : Code) (reason : Nat)
  | blockHit (st : StationId) (card : Code) (action : BlockAction) (reason : Nat)
  | overrideUsed (st : StationId) (card item : Code) (reason : RefusalReason)
  | holdRouted (st : StationId) (item holdBorrower : Code)
  | provisionalOpened (st : StationId) (card : Code)
  | borrowerUnknown (st : Option StationId) (card : Code)
  | alarm (a : AlarmId) (state : AlarmState)
  deriving DecidableEq, Repr

structure Notice where
  body : NoticeBody
  coalesced : Nat
  deriving DecidableEq, Repr

/-- The routing of each notice kind: true is ON (R193). -/
structure Routing where
  watchHit : Bool
  blockHit : Bool
  overrideUsed : Bool
  holdRouted : Bool
  provisionalOpened : Bool
  borrowerUnknown : Bool
  alarm : Bool
  deriving DecidableEq, Repr

/-- The link state; the liveness timer runs, with its seconds, while it is ONLINE (R190). -/
inductive LinkState
  | offline
  | online (liveness : Nat)
  deriving DecidableEq, Repr

/-- A LOOKUP frame in the lookup send list (R46). -/
structure LookupFrame where
  station : StationId
  card : Code
  deriving DecidableEq, Repr

/-- A frame of the upload send list (R173, R175). -/
inductive UploadFrame
  | block (first count cut : Nat) (records : List JournalRecord)
  | finish (cut newest : Nat)
  deriving DecidableEq, Repr

/-- The reply statuses (R198). -/
inductive Status
  | ok | notFound | full | duplicate | inUse | badArg | badState | badKind | stale | stillActive | clamped
  deriving DecidableEq, Repr

/-- A reply: the request's tag, the status, and the bytes that follow the status byte. `resets` marks the reply to a RESET,
whose sending in full lets the link reset take effect (R195). -/
structure Reply where
  tag : Byte
  status : Status
  data : List Byte
  resets : Bool
  deriving DecidableEq, Repr

/-- A frame on the transmit line. -/
inductive TxFrame
  | reply (r : Reply)
  | lookup (f : LookupFrame)
  | notice (n : Notice)
  | upload (f : UploadFrame)
  deriving DecidableEq, Repr

/-- The receive framer with the bytes it has kept (R183). -/
inductive Framer
  | hunting
  /-- The kind, the tag and the length bytes kept so far: fewer than 4. -/
  | header (kept : List Byte)
  | payload (kind tag : Byte) (length : Nat) (kept : List Byte)
  /-- The first check byte, once it has come. -/
  | check (kind tag : Byte) (payload : List Byte) (first : Option Byte)
  deriving DecidableEq, Repr

/-- The serial line of the Desk Link Controller. -/
structure LinkLine where
  rate : LinkRate
  framer : Framer
  gapTimer : Timer
  badFrames : Nat
  overruns : Nat
  replies : List Reply
  /-- The frame being sent, or none when the line is free. -/
  transmitting : Option TxFrame
  /-- A RESET request waits to take effect (R185, R195). -/
  resetWaiting : Bool
  deriving DecidableEq, Repr

/-! ## Settings -/

/-- The settings of one station. -/
structure StationSettings where
  readsRequired : Nat
  pairingWindow : Nat
  suppressionWindow : Nat
  enabled : Bool
  idleTimeout : Nat
  slipPrinting : Bool
  padPulse : Nat
  masks : LevelMasks
  printer : PrinterId
  failover : Failover
  deriving DecidableEq, Repr

/-- The settings of the desk and of the printers. -/
structure Settings where
  timeSource : TimeSource
  stepLimit : Nat
  markAgeLimit : Nat
  lookupTimeout : Nat
  closingGrace : Nat
  returnsWhenClosed : Bool
  minimumRemaining : Nat
  precedence : List Level
  displayTime : Nat
  lineTimeout : PerPrinter Nat
  returnReserve : Nat
  highWater : Nat
  uploadMinute : Option Nat
  takenTimeout : Nat
  linkTimeout : Nat
  routing : Routing
  deriving DecidableEq, Repr

/-! ## The state -/

structure Desk where
  power : Power
  clock : Clock
  tables : Tables
  sweep : Option Sweep
  settings : Settings
  stationSettings : PerStation StationSettings
  scan : PerStation ScanStation
  mode : DeskMode
  closingTimer : Timer
  stations : PerStation EngineStation
  arbiters : PerStation Arbiter
  slips : Slips
  journal : Journal
  upload : Upload
  link : LinkState
  alarms : AlarmSet
  /-- The notice pending set, sorted by kind number and then by station or alarm. -/
  notices : List Notice
  lookupList : List LookupFrame
  uploadList : List UploadFrame
  /-- How many free values have been used: the model's own (logs 12 and 26). -/
  freeIndex : Nat
  deriving DecidableEq, Repr

structure State where
  desk : Desk
  line : LinkLine
  /-- The commands that wait, the next one first: the model's own (log 2). -/
  pending : List Instr
  deriving DecidableEq, Repr

/-! ## Reset: the state right after a cold start (R196, log 1) -/

/-- R19. -/
def ScanStation.restart : ScanStation :=
  { wand := .hunting, gapTimer := none, readErrors := 0, candidate := none, pairingTimer := none, suppression := none,
    suppressionTimer := none, queue := [] }

/-- R136. -/
def Arbiter.restart : Arbiter :=
  { pending := [], shown := none, lamp := .off, displayTimer := none, display := .sending .blank none, tone := .quiet }

/-- R152. -/
def Printer.restart : Printer :=
  { status := .ready, queue := [], position := 0, sending := none, lineTimer := none }

/-- The defaults of R7, R9, R76, R124 and R141, with the station's default printer. -/
def StationSettings.default (p : PrinterId) : StationSettings :=
  { readsRequired := 2, pairingWindow := 400, suppressionWindow := 2, enabled := true, idleTimeout := 90,
    slipPrinting := true, padPulse := 300, masks := ⟨false, false, false, false⟩, printer := p, failover := .automatic }

/-- The defaults of R23, R30, R46, R76, R106, R123, R128, R141, R162, R169, R190 and R193. -/
def Settings.default : Settings :=
  { timeSource := .marks, stepLimit := 5, markAgeLimit := 26, lookupTimeout := 8, closingGrace := 120,
    returnsWhenClosed := false, minimumRemaining := 30, precedence := [.urgent, .refusal, .action, .info],
    displayTime := 3, lineTimeout := ⟨3, 3⟩, returnReserve := 64, highWater := 90, uploadMinute := none,
    takenTimeout := 30, linkTimeout := 60, routing := ⟨true, true, true, true, true, true, true⟩ }

def AlarmState.clear : AlarmState := ⟨false, 0, false⟩

/-- The alarms after a cold start: POWER_RESTORED and COLD_START raised to 1 (R196), CLOCK_UNSYNCED begun (R31). -/
def AlarmSet.reset : AlarmSet :=
  { journalHigh := .clear, journalFull := .clear, printer0Fault := .clear, printer1Fault := .clear,
    clockUnsynced := ⟨true, 1, true⟩, uploadStalled := .clear, clockDispute := .clear, tableFull := .clear,
    linkOverrun := .clear, powerRestored := ⟨true, 1, false⟩, coldStart := ⟨true, 1, false⟩ }

/-- The RESTART record with aux COLD (R167). -/
def JournalRecord.cold : JournalRecord :=
  { seq := 1, day := 0, minute := 0, station := none, flags := ⟨true, true, false, false, false, false⟩,
    body := .restart .cold }

def Desk.reset : Desk :=
  { power := ⟨true, false⟩
    clock := { day := 0, minute := 0, second := 0, prescaler := 0, markAge := 172801, pendingMark := none }
    tables := ⟨[], [], [], [], [], [], [], []⟩
    sweep := none
    settings := .default
    stationSettings := ⟨.default .p0, .default .p0, .default .p1, .default .p1⟩
    scan := .all .restart
    mode := .closed
    closingTimer := none
    stations := .all ⟨.idle, .loan, .quiet⟩
    arbiters := .all .restart
    slips := { printers := ⟨.restart, .restart⟩, deferrals := [], lastSlips := .all none }
    journal := { held := [.cold], newest := 1, released := 0 }
    upload := { state := .idle, cut := 0, sent := 0, block := none, takenTimer := none, waiting := none }
    link := .offline
    alarms := .reset
    notices := [⟨.alarm .clockUnsynced ⟨true, 1, true⟩, 0⟩, ⟨.alarm .powerRestored ⟨true, 1, false⟩, 0⟩,
      ⟨.alarm .coldStart ⟨true, 1, false⟩, 0⟩]
    lookupList := []
    uploadList := []
    freeIndex := 0 }

def LinkLine.reset (rate : LinkRate) : LinkLine :=
  { rate := rate, framer := .hunting, gapTimer := none, badFrames := 0, overruns := 0, replies := [],
    transmitting := none, resetWaiting := false }

/-- The part right after a cold start with all three straps open. -/
def State.reset : State := { desk := .reset, line := .reset .r19200, pending := [] }

end Sys2Proof.Machine
end

