-- ==== Sys2Proof/Machine/Ops.lean ====
section
/-! DEFINITION. The shared operations on the state: sorted tables, codes, stations and printers by number, and the changes
of the borrower counts (R41). -/

namespace Sys2Proof

/-! ## Numbers of stations and printers -/

def StationId.list : List StationId := [.st0, .st1, .st2, .st3]

def StationId.number : StationId → Nat
  | .st0 => 0
  | .st1 => 1
  | .st2 => 2
  | .st3 => 3

def StationId.ofNumber : Nat → Option StationId
  | 0 => some .st0
  | 1 => some .st1
  | 2 => some .st2
  | 3 => some .st3
  | _ => none

def PrinterId.other : PrinterId → PrinterId
  | .p0 => .p1
  | .p1 => .p0

def PrinterId.number : PrinterId → Nat
  | .p0 => 0
  | .p1 => 1

def PrinterId.ofNumber : Nat → Option PrinterId
  | 0 => some .p0
  | 1 => some .p1
  | _ => none

namespace Machine

/-! ## Tables: lists sorted strictly by a key, with no two entries of one key -/

/-- The canonical form of a table. -/
abbrev Table.Sorted {α : Type} (key : α → Nat) (t : List α) : Prop := t.Pairwise fun a b => key a < key b

def Table.find {α : Type} (key : α → Nat) (k : Nat) (t : List α) : Option α := t.find? fun e => key e == k

/-- Insert an entry at its place, or replace the entry with the same key. -/
def Table.put {α : Type} (key : α → Nat) (e : α) : List α → List α
  | [] => [e]
  | x :: xs => if key e < key x then e :: x :: xs else if key e = key x then e :: xs else x :: Table.put key e xs

def Table.erase {α : Type} (key : α → Nat) (k : Nat) (t : List α) : List α := t.filter fun e => key e != k

/-- The entry with the least key above k: the "next entry after a key" of every TABLE_READ. -/
def Table.next {α : Type} (key : α → Nat) (k : Nat) (t : List α) : Option α := t.find? fun e => decide (k < key e)

/-! ## Codes (00_scope.md, Conventions) -/

/-- The digits read as a number. -/
def Code.value (c : Code) : Nat := c.foldl (fun n d => 10 * n + d.val) 0

/-- The order of R40 and R60 as one number: by length, shorter first, and at equal length by the digits read as a number. -/
def Code.rank (c : Code) : Nat := 10 ^ c.length + Code.value c

/-- The last n digits, or all of them when there are fewer. -/
def Code.lastDigits (n : Nat) (c : Code) : Code := c.drop (c.length - n)

/-- The short number of a card: its last four digits (00_scope.md, Terms). -/
def Code.shortNumber (c : Code) : Code := Code.lastDigits 4 c

/-- A code is a string of 6 to 16 digits. -/
def Code.valid (c : Code) : Bool := 6 ≤ c.length && c.length ≤ 16

/-! ## Keys of the tables -/

def PrefixEntry.key (e : PrefixEntry) : Nat := e.slot
def WeekdayHours.key (e : WeekdayHours) : Nat := e.weekday
def ExceptionEntry.key (e : ExceptionEntry) : Nat := e.day
def Borrower.key (e : Borrower) : Nat := Code.rank e.card
def ItemEntry.key (e : ItemEntry) : Nat := Code.rank e.code
def CategoryEntry.key (e : CategoryEntry) : Nat := e.category

/-- The order of R55: card length, then k, then the pattern's digits read as a number. The bounds leave each part its room:
k is below 256 and a pattern has at most 16 digits. Keys of one card length and one k have patterns of one length (R54), so
that `Code.rank` puts those in the order of their numbers. -/
def BlockKey.rank (b : BlockKey) : Nat := (b.cardLength * 256 + b.k) * 10 ^ 17 + Code.rank b.pattern

def BlockEntry.rank (e : BlockEntry) : Nat := BlockKey.rank e.key

/-- The order of R67: category, then item class. -/
def ruleKey (category itemClass : Nat) : Nat := category * 32 + itemClass

def LoanRule.key (e : LoanRule) : Nat := ruleKey e.category e.itemClass

/-- The most entries of each table (R33, R40, R54, R60) and the places of the journal (R157). -/
def exceptionCapacity : Nat := 96
def borrowerCapacity : Nat := 65536
def blockCapacity : Nat := 1024
def itemCapacity : Nat := 131072
def journalPlaces : Nat := 16384

/-- The highest day number. -/
def lastDay : Nat := 65535

/-! ## Parts of the desk -/

def Desk.onScan (d : Desk) (st : StationId) (f : ScanStation → ScanStation) : Desk :=
  { d with scan := d.scan.set st (f (d.scan.get st)) }

def Desk.onStation (d : Desk) (st : StationId) (f : EngineStation → EngineStation) : Desk :=
  { d with stations := d.stations.set st (f (d.stations.get st)) }

def Desk.onArbiter (d : Desk) (st : StationId) (f : Arbiter → Arbiter) : Desk :=
  { d with arbiters := d.arbiters.set st (f (d.arbiters.get st)) }

def Desk.onPrinter (d : Desk) (p : PrinterId) (f : Printer → Printer) : Desk :=
  { d with slips := { d.slips with printers := d.slips.printers.set p (f (d.slips.printers.get p)) } }

def Desk.onStationSettings (d : Desk) (st : StationId) (f : StationSettings → StationSettings) : Desk :=
  { d with stationSettings := d.stationSettings.set st (f (d.stationSettings.get st)) }

def Desk.onTables (d : Desk) (f : Tables → Tables) : Desk := { d with tables := f d.tables }

/-- Apply a change at each station, in the order 0 to 3 (log 10). -/
def Desk.eachStation (d : Desk) (f : Desk → StationId → Desk) : Desk := StationId.list.foldl f d

def Desk.context (d : Desk) (st : StationId) : Context := (d.stations.get st).context

def Desk.printer (d : Desk) (p : PrinterId) : Printer := d.slips.printers.get p

def Context.session : Context → Option Session
  | .opened x => some x
  | _ => none

/-- The station is OPEN or in LOOKUP: it serves, or is about to serve, a borrower. -/
def Context.serving : Context → Bool
  | .opened _ => true
  | .lookup _ => true
  | _ => false

/-- The card the station serves or asks about. -/
def Context.card : Context → Option Code
  | .opened x => some x.borrower
  | .lookup r => some r.card
  | _ => none

def Context.isOpen : Context → Bool
  | .opened _ => true
  | _ => false

def Desk.anyServing (d : Desk) : Bool := StationId.list.any fun st => (d.context st).serving

/-- The card is the borrower of a station in state OPEN or LOOKUP (R42). -/
def Desk.cardInUse (d : Desk) (card : Code) : Bool := StationId.list.any fun st => (d.context st).card == some card

def ListEntry.code : ListEntry → Code
  | .lent c _ _ _ => c
  | .renewed c _ => c
  | .returned c => c

def ListEntry.isLent : ListEntry → Bool
  | .lent .. => true
  | _ => false

def ListEntry.isRenewed : ListEntry → Bool
  | .renewed .. => true
  | _ => false

def ListEntry.isReturned : ListEntry → Bool
  | .returned .. => true
  | _ => false

/-- The item stands in the item list of the station's open session. -/
def Context.lists (c : Context) (item : Code) : Bool :=
  match c with
  | .opened x => x.items.any fun e => e.code == item
  | _ => false

/-- The item stands in the item list of some station in OPEN (R63). -/
def Desk.itemListed (d : Desk) (item : Code) : Bool := StationId.list.any fun st => (d.context st).lists item

/-! ## Table entries -/

def Desk.borrower (d : Desk) (card : Code) : Option Borrower := Table.find Borrower.key (Code.rank card) d.tables.borrowers

def Desk.putBorrower (d : Desk) (b : Borrower) : Desk :=
  d.onTables fun t => { t with borrowers := Table.put Borrower.key b t.borrowers }

def Desk.item (d : Desk) (code : Code) : Option ItemEntry := Table.find ItemEntry.key (Code.rank code) d.tables.items

def Desk.putItem (d : Desk) (e : ItemEntry) : Desk :=
  d.onTables fun t => { t with items := Table.put ItemEntry.key e t.items }

def Desk.eraseItem (d : Desk) (code : Code) : Desk :=
  d.onTables fun t => { t with items := Table.erase ItemEntry.key (Code.rank code) t.items }

/-- The rule of a place of the matrix; none is a rule of kind NONE (R67). -/
def Desk.rule (d : Desk) (category itemClass : Nat) : Option LoanRule :=
  Table.find LoanRule.key (ruleKey category itemClass) d.tables.rules

/-- The cold-start values of a category (4.3). -/
def CategoryEntry.cold (category : Nat) : CategoryEntry :=
  { category := category, maxLoans := 0, finesLimit := 0, expiryGrace := 0, offlineCap := 0, shelfDays := 7 }

def Desk.category (d : Desk) (category : Nat) : CategoryEntry :=
  (Table.find CategoryEntry.key category d.tables.categories).getD (.cold category)

/-- Every entry change of R41 is applied to the card's entry, and skipped when the card has none. -/
def Desk.changeBorrower (d : Desk) (card : Code) (f : Borrower → Borrower) : Desk :=
  match d.borrower card with
  | some b => d.putBorrower (f b)
  | none => d

/-- R41: loans held up by 1, at most 99. -/
def Borrower.lendOne (b : Borrower) : Borrower := { b with loansHeld := min (b.loansHeld + 1) 99 }
/-- R41: loans held down by 1, at least 0. -/
def Borrower.returnOne (b : Borrower) : Borrower := { b with loansHeld := b.loansHeld - 1 }
/-- R41: fines owed up by a fine, at most 65,535. -/
def Borrower.fine (n : Nat) (b : Borrower) : Borrower := { b with finesOwed := min (b.finesOwed + n) 65535 }
/-- R41: holds ready up by 1, at most 15. -/
def Borrower.holdUp (b : Borrower) : Borrower := { b with holdsReady := min (b.holdsReady + 1) 15 }
/-- R41: holds ready down by 1, at least 0. -/
def Borrower.holdDown (b : Borrower) : Borrower := { b with holdsReady := b.holdsReady - 1 }

/-- A free value that has been used is not used again. -/
def Desk.spendFree (d : Desk) (used : Bool) : Desk := if used then { d with freeIndex := d.freeIndex + 1 } else d

/-- A count that saturates at 65,535 (R2, R184, R185). -/
def saturate16 (n : Nat) : Nat := min n 65535

end Machine

end Sys2Proof
end

