-- ==== Sys2Proof/Machine/Operands.lean ====
section
/-! DEFINITION. The operands: numbers and code fields as bytes, and the entries of the tables as they travel on the link
(R198), read with the checks of the rules that refuse a write with BAD_ARG. -/

namespace Sys2Proof

/-! ## Numbers and code fields as bytes (R198: most significant byte first) -/

/-- The n low bytes of a number, most significant first. -/
def bytesOf : Nat → Nat → List Byte
  | 0, _ => []
  | n + 1, v => bytesOf n (v / 256) ++ [BitVec.ofNat 8 v]

/-- The number that bytes spell, most significant first. -/
def numberOf (bs : List Byte) : Nat := bs.foldl (fun n b => 256 * n + b.toNat) 0

/-- The number in `size` bytes from an offset of a payload. -/
def fieldAt (bs : List Byte) (offset size : Nat) : Nat := numberOf ((bs.drop offset).take size)

def byteAt (bs : List Byte) (offset : Nat) : Byte := BitVec.ofNat 8 (fieldAt bs offset 1)
def halfAt (bs : List Byte) (offset : Nat) : Half := BitVec.ofNat 16 (fieldAt bs offset 2)
def wordAt (bs : List Byte) (offset : Nat) : Word := BitVec.ofNat 32 (fieldAt bs offset 4)
def codeAt (bs : List Byte) (offset : Nat) : CodeField := BitVec.ofNat 64 (fieldAt bs offset 8)

def boolByte (b : Bool) : Byte := if b then 1 else 0

/-- A byte laid out as 0 or 1. -/
def boolOf (b : Byte) : Option Bool := if b = 0 then some false else if b = 1 then some true else none

/-- The low n places of four bits of a number, the highest first. -/
def placesOf : Nat → Nat → List Nat
  | 0, _ => []
  | n + 1, v => placesOf n (v / 16) ++ [v % 16]

def digitOf (n : Nat) : Option Digit := if h : n < 10 then some ⟨n, h⟩ else none

/-- A code field of sixteen Fh places: no code is present. -/
def CodeField.absent : CodeField := BitVec.allOnes 64

/-- The code field of a digit string of at most 16 digits: placed at the right, the leading places Fh. -/
def CodeField.ofCode (c : Code) : CodeField := BitVec.ofNat 64 (c.foldl (fun n d => 16 * n + d.val) (2 ^ 64 - 1))

/-- The digits of a code field with at least `least` of them: leading Fh places, then digits only. -/
def CodeField.digits (least : Nat) (f : CodeField) : Option (List Digit) :=
  match ((placesOf 16 f.toNat).dropWhile (· == 15)).mapM digitOf with
  | some ds => if least ≤ ds.length then some ds else none
  | none => none

/-- A code: 6 to 16 digits. -/
def CodeField.code (f : CodeField) : Option Code := CodeField.digits 6 f

/-- A code field that must carry no code. -/
def CodeField.isAbsent (f : CodeField) : Bool := f == CodeField.absent

def codeBytes (f : CodeField) : List Byte := bytesOf 8 f.toNat

def optionCode : Option Code → CodeField
  | some c => CodeField.ofCode c
  | none => CodeField.absent

/-! ## Entries as bytes (R198) -/

def PrefixWire.bytes (w : PrefixWire) : List Byte :=
  [w.slot] ++ codeBytes w.lead ++ [w.minLength, w.maxLength, w.cls, w.check, w.hasDefault, w.default]

def PrefixWire.ofBytes (bs : List Byte) : PrefixWire :=
  { slot := byteAt bs 0, lead := codeAt bs 1, minLength := byteAt bs 9, maxLength := byteAt bs 10, cls := byteAt bs 11,
    check := byteAt bs 12, hasDefault := byteAt bs 13, default := byteAt bs 14 }

def WeeklyWire.bytes (w : WeeklyWire) : List Byte :=
  [w.weekday, w.closed, w.hasHours] ++ bytesOf 2 w.opening.toNat ++ bytesOf 2 w.closing.toNat

def WeeklyWire.ofBytes (bs : List Byte) : WeeklyWire :=
  { weekday := byteAt bs 0, closed := byteAt bs 1, hasHours := byteAt bs 2, opening := halfAt bs 3, closing := halfAt bs 5 }

def ExceptionWire.bytes (w : ExceptionWire) : List Byte :=
  bytesOf 2 w.day.toNat ++ [w.closed, w.hasHours] ++ bytesOf 2 w.opening.toNat ++ bytesOf 2 w.closing.toNat

def ExceptionWire.ofBytes (bs : List Byte) : ExceptionWire :=
  { day := halfAt bs 0, closed := byteAt bs 2, hasHours := byteAt bs 3, opening := halfAt bs 4, closing := halfAt bs 6 }

def BorrowerWire.bytes (w : BorrowerWire) : List Byte :=
  codeBytes w.card ++ [w.category, w.loansHeld, w.holdsReady, w.flags] ++ bytesOf 2 w.finesOwed.toNat ++
    bytesOf 2 w.expiryDay.toNat

def BorrowerWire.ofBytes (bs : List Byte) : BorrowerWire :=
  { card := codeAt bs 0, category := byteAt bs 8, loansHeld := byteAt bs 9, holdsReady := byteAt bs 10, flags := byteAt bs 11,
    finesOwed := halfAt bs 12, expiryDay := halfAt bs 14 }

def BlockKeyWire.bytes (w : BlockKeyWire) : List Byte := codeBytes w.pattern ++ [w.k, w.cardLength]

def BlockKeyWire.ofBytes (bs : List Byte) : BlockKeyWire :=
  { pattern := codeAt bs 0, k := byteAt bs 8, cardLength := byteAt bs 9 }

def BlockWire.bytes (w : BlockWire) : List Byte :=
  w.key.bytes ++ [w.action, w.reason, w.hasExpiry] ++ bytesOf 2 w.expiryDay.toNat

def BlockWire.ofBytes (bs : List Byte) : BlockWire :=
  { key := .ofBytes bs, action := byteAt bs 10, reason := byteAt bs 11, hasExpiry := byteAt bs 12, expiryDay := halfAt bs 13 }

def ItemWire.bytes (w : ItemWire) : List Byte :=
  codeBytes w.code ++ [w.status, w.presence, w.itemClass, w.renewalsUsed] ++ codeBytes w.holder ++ bytesOf 2 w.dueDay.toNat ++
    bytesOf 2 w.dueMinute.toNat ++ codeBytes w.holdBorrower ++ bytesOf 2 w.pickupDay.toNat

def ItemWire.ofBytes (bs : List Byte) : ItemWire :=
  { code := codeAt bs 0, status := byteAt bs 8, presence := byteAt bs 9, itemClass := byteAt bs 10,
    renewalsUsed := byteAt bs 11, holder := codeAt bs 12, dueDay := halfAt bs 20, dueMinute := halfAt bs 22,
    holdBorrower := codeAt bs 24, pickupDay := halfAt bs 32 }

/-- The fields of a loan rule entry that R198 lists: 13 bytes. -/
def RuleWire.fieldBytes (w : RuleWire) : List Byte :=
  [w.category, w.itemClass, w.kind, w.presence] ++ bytesOf 2 w.period.toNat ++ [w.classLimit, w.renewalsAllowed, w.grace] ++
    bytesOf 2 w.fineRate.toNat ++ bytesOf 2 w.fineCap.toNat

/-- A loan rule entry as a read sends it: R198 gives the entry 14 bytes and its fields 13, and the byte it does not name stands
last and is sent as 0 (log 24). -/
def RuleWire.bytes (w : RuleWire) : List Byte := w.fieldBytes ++ [0]

/-- A loan rule entry of a PUT: the last of its 14 bytes is not judged (log 24). -/
def RuleWire.ofBytes (bs : List Byte) : RuleWire :=
  { category := byteAt bs 0, itemClass := byteAt bs 1, kind := byteAt bs 2, presence := byteAt bs 3, period := halfAt bs 4,
    classLimit := byteAt bs 6, renewalsAllowed := byteAt bs 7, grace := byteAt bs 8, fineRate := halfAt bs 9,
    fineCap := halfAt bs 11 }

def CategoryWire.bytes (w : CategoryWire) : List Byte :=
  [w.category, w.maxLoans] ++ bytesOf 2 w.finesLimit.toNat ++ [w.expiryGrace, w.offlineCap, w.shelfDays]

def CategoryWire.ofBytes (bs : List Byte) : CategoryWire :=
  { category := byteAt bs 0, maxLoans := byteAt bs 1, finesLimit := halfAt bs 2, expiryGrace := byteAt bs 4,
    offlineCap := byteAt bs 5, shelfDays := byteAt bs 6 }

namespace Machine

def natByte (n : Nat) : Byte := BitVec.ofNat 8 n
def natHalf (n : Nat) : Half := BitVec.ofNat 16 n

def inRange (low high n : Nat) : Bool := low ≤ n && n ≤ high

/-! ## Prefix entries (R10) -/

def CodeClass.number : CodeClass → Nat
  | .borrower _ => 1
  | .item _ => 2
  | .command => 3
  | .ignore => 4

/-- The class with its default, as R10 pairs them: a default for BORROWER and ITEM alone, within its range. -/
def PrefixWire.codeClass (w : PrefixWire) : Option CodeClass :=
  match boolOf w.hasDefault, w.cls.toNat with
  | some true, 1 => if w.default.toNat ≤ 15 then some (.borrower w.default.toNat) else none
  | some true, 2 => if w.default.toNat ≤ 31 then some (.item w.default.toNat) else none
  | some false, 3 => if w.default = 0 then some .command else none
  | some false, 4 => if w.default = 0 then some .ignore else none
  | _, _ => none

def CheckMethod.ofNumber : Nat → Option CheckMethod
  | 1 => some .none
  | 2 => some .weighted10
  | _ => Option.none

def CheckMethod.number : CheckMethod → Nat
  | .none => 1
  | .weighted10 => 2

/-- The entry of a PUT to the prefix table, or none where R10 refuses it with BAD_ARG. -/
def PrefixWire.entry (w : PrefixWire) : Option PrefixEntry :=
  match CodeField.digits 1 w.lead, codeClass w, CheckMethod.ofNumber w.check.toNat with
  | some lead, some cls, some check =>
    if w.slot.toNat ≤ 31 && lead.length ≤ 6 && inRange 6 16 w.minLength.toNat && inRange 6 16 w.maxLength.toNat
        && w.minLength.toNat ≤ w.maxLength.toNat && !(cls == .command && check == .weighted10) then
      some { slot := w.slot.toNat, lead := lead, minLength := w.minLength.toNat, maxLength := w.maxLength.toNat, cls := cls,
             check := check }
    else none
  | _, _, _ => none

def CodeClass.default : CodeClass → Option Nat
  | .borrower c => some c
  | .item c => some c
  | _ => none

def PrefixEntry.wire (e : PrefixEntry) : PrefixWire :=
  { slot := natByte e.slot, lead := CodeField.ofCode e.lead, minLength := natByte e.minLength,
    maxLength := natByte e.maxLength, cls := natByte e.cls.number, check := natByte e.check.number,
    hasDefault := boolByte e.cls.default.isSome, default := natByte (e.cls.default.getD 0) }

/-! ## Calendar entries (R32, R33) -/

/-- Hours with 0 ≤ O < C ≤ 1,439. -/
def hoursOf (opening closing : Half) : Option Hours :=
  if opening.toNat < closing.toNat && closing.toNat ≤ 1439 then some ⟨opening.toNat, closing.toNat⟩ else none

/-- The hours of a PUT to the weekly hours: none is the closed marker. The outer none is R32's BAD_ARG. -/
def WeeklyWire.hours (w : WeeklyWire) : Option (Option Hours) :=
  match boolOf w.closed, boolOf w.hasHours with
  | some true, some false => if w.opening = 0 && w.closing = 0 then some none else none
  | some false, some true => (hoursOf w.opening w.closing).map some
  | _, _ => none

def weekdayWire (weekday : Nat) (hours : Option Hours) : WeeklyWire :=
  match hours with
  | some h => { weekday := natByte weekday, closed := 0, hasHours := 1, opening := natHalf h.opening, closing := natHalf h.closing }
  | none => { weekday := natByte weekday, closed := 1, hasHours := 0, opening := 0, closing := 0 }

/-- The entry of a PUT to the exception list, or none where R33 refuses it with BAD_ARG. -/
def ExceptionWire.entry (w : ExceptionWire) : Option ExceptionEntry :=
  match boolOf w.closed, boolOf w.hasHours with
  | some true, some false => if w.opening = 0 && w.closing = 0 then some ⟨w.day.toNat, .closed⟩ else none
  | some false, some false => if w.opening = 0 && w.closing = 0 then some ⟨w.day.toNat, .openWith none⟩ else none
  | some false, some true => (hoursOf w.opening w.closing).map fun h => ⟨w.day.toNat, .openWith (some h)⟩
  | _, _ => none

def ExceptionEntry.wire (e : ExceptionEntry) : ExceptionWire :=
  match e.kind with
  | .closed => { day := natHalf e.day, closed := 1, hasHours := 0, opening := 0, closing := 0 }
  | .openWith none => { day := natHalf e.day, closed := 0, hasHours := 0, opening := 0, closing := 0 }
  | .openWith (some h) =>
    { day := natHalf e.day, closed := 0, hasHours := 1, opening := natHalf h.opening, closing := natHalf h.closing }

/-! ## Borrower entries (R42, R47) -/

/-- The fields of a borrower entry that a PUT or a found reply writes, or none where one is outside the table of R40. -/
def borrowerOf (card : CodeField) (category loansHeld holdsReady : Byte) (finesOwed expiryDay : Half) : Option Borrower :=
  match CodeField.code card with
  | some c =>
    if category.toNat ≤ 15 && loansHeld.toNat ≤ 99 && holdsReady.toNat ≤ 15 then
      some { card := c, category := category.toNat, loansHeld := loansHeld.toNat, holdsReady := holdsReady.toNat,
             finesOwed := finesOwed.toNat, expiryDay := expiryDay.toNat, provisional := false }
    else none
  | none => none

/-- The entry of a PUT to the borrower table, or none where R42 refuses it with BAD_ARG (the flags byte: log 13). -/
def BorrowerWire.entry (w : BorrowerWire) : Option Borrower :=
  if w.flags = 0 then borrowerOf w.card w.category w.loansHeld w.holdsReady w.finesOwed w.expiryDay else none

def Borrower.wire (b : Borrower) : BorrowerWire :=
  { card := CodeField.ofCode b.card, category := natByte b.category, loansHeld := natByte b.loansHeld,
    holdsReady := natByte b.holdsReady, flags := boolByte b.provisional, finesOwed := natHalf b.finesOwed,
    expiryDay := natHalf b.expiryDay }

/-! ## Block entries (R54, R55) -/

def BlockAction.number : BlockAction → Nat
  | .refuse => 1
  | .refer => 2
  | .watch => 3

def BlockAction.ofNumber : Nat → Option BlockAction
  | 1 => some .refuse
  | 2 => some .refer
  | 3 => some .watch
  | _ => none

/-- The first three cases of R54: the lengths that a key must keep. -/
def BlockKey.legal (b : BlockKey) : Bool :=
  inRange 6 16 b.cardLength && b.k ≤ 8 && b.k < b.cardLength && b.pattern.length + b.k == b.cardLength

/-- A key, or none where its pattern is no code field of at least one digit or it breaks one of the first three cases of R54
(R198). -/
def BlockKeyWire.key (w : BlockKeyWire) : Option BlockKey :=
  ((CodeField.digits 1 w.pattern).map fun p => ⟨w.cardLength.toNat, w.k.toNat, p⟩).filter BlockKey.legal

/-- The entry of a PUT to the block list, or none where R54 refuses it with BAD_ARG. With expiry present 0 the expiry day is
not judged (log 14). -/
def BlockWire.entry (w : BlockWire) : Option BlockEntry :=
  match BlockKeyWire.key w.key, BlockAction.ofNumber w.action.toNat, boolOf w.hasExpiry with
  | some key, some action, some hasExpiry =>
    if w.reason.toNat ≤ 63 then
      some { key := key, action := action, reason := w.reason.toNat,
             expiryDay := if hasExpiry then some w.expiryDay.toNat else none }
    else none
  | _, _, _ => none

def BlockKey.wire (b : BlockKey) : BlockKeyWire :=
  { pattern := CodeField.ofCode b.pattern, k := natByte b.k, cardLength := natByte b.cardLength }

/-- The entry as a read sends it. Without an expiry day its two bytes are 0 (log 14). -/
def BlockEntry.wire (e : BlockEntry) : BlockWire :=
  { key := e.key.wire, action := natByte e.action.number, reason := natByte e.reason,
    hasExpiry := boolByte e.expiryDay.isSome, expiryDay := natHalf (e.expiryDay.getD 0) }

/-! ## Item entries (R61, R63) -/

/-- An optional field: present when its bit is set, else laid out as absent (log 13). -/
def optional {α : Type} (present absentOk : Bool) (value : Option α) : Option (Option α) :=
  if present then value.map some else if absentOk then some none else none

/-- The optional fields of an item entry, each present or absent by its presence bit, or none where a field breaks its range
or an absent one is not laid out as absent. -/
structure ItemFields where
  itemClass : Option Nat
  holder : Option (Code × Nat)
  dueMinute : Option Nat
  hold : Option Code
  pickup : Option Nat
  deriving DecidableEq, Repr

def bounded (high n : Nat) : Option Nat := if n ≤ high then some n else none

def ItemWire.fields (w : ItemWire) : Option ItemFields :=
  let p := w.presence.toNat
  match optional (p % 2 == 1) (w.itemClass == 0) (bounded 31 w.itemClass.toNat),
      optional (p / 2 % 2 == 1) (CodeField.isAbsent w.holder && w.dueDay == 0)
        ((CodeField.code w.holder).map fun c => (c, w.dueDay.toNat)),
      optional (p / 4 % 2 == 1) (w.dueMinute == 0) (bounded 1439 w.dueMinute.toNat),
      optional (p / 8 % 2 == 1) (CodeField.isAbsent w.holdBorrower) (CodeField.code w.holdBorrower),
      optional (p / 16 % 2 == 1) (w.pickupDay == 0) (some w.pickupDay.toNat) with
  | some itemClass, some holder, some dueMinute, some hold, some pickup =>
    if p < 32 then some ⟨itemClass, holder, dueMinute, hold, pickup⟩ else none
  | _, _, _, _, _ => none

/-- The status with the fields that R61 gives it, or none where the fields present break that table. -/
def statusOf (status renewalsUsed : Nat) (f : ItemFields) : Option ItemStatus :=
  match status, f.holder, f.dueMinute, f.hold, f.pickup with
  | 1, some (holder, day), minute, hold, none =>
    if renewalsUsed ≤ 9 && hold != some holder then some (.onLoan holder ⟨day, minute⟩ renewalsUsed hold) else none
  | 2, none, none, some hold, none => if renewalsUsed = 0 then some (.holdPending hold) else none
  | 3, none, none, some hold, some pickup => if renewalsUsed = 0 then some (.onHoldShelf hold pickup) else none
  | 4, none, none, none, none => if renewalsUsed = 0 then some .reference else none
  | 5, none, none, hold, none => if renewalsUsed = 0 then some (.missing hold) else none
  | 6, none, none, none, none => if renewalsUsed = 0 then some .withdrawn else none
  | _, _, _, _, _ => none

/-- The entry of a PUT to the item table, or none where the first two cases of R63 refuse it with BAD_ARG. -/
def ItemWire.entry (w : ItemWire) : Option ItemEntry :=
  match CodeField.code w.code, fields w with
  | some code, some f => (statusOf w.status.toNat w.renewalsUsed.toNat f).map fun s => ⟨code, f.itemClass, s⟩
  | _, _ => none

def ItemStatus.number : ItemStatus → Nat
  | .onLoan .. => 1
  | .holdPending _ => 2
  | .onHoldShelf _ _ => 3
  | .reference => 4
  | .missing _ => 5
  | .withdrawn => 6

def ItemStatus.holder : ItemStatus → Option Code
  | .onLoan holder _ _ _ => some holder
  | _ => none

def ItemStatus.due : ItemStatus → Option Due
  | .onLoan _ due _ _ => some due
  | _ => none

def ItemStatus.renewalsUsed : ItemStatus → Nat
  | .onLoan _ _ n _ => n
  | _ => 0

def ItemStatus.hold : ItemStatus → Option Code
  | .onLoan _ _ _ hold => hold
  | .holdPending hold => some hold
  | .onHoldShelf hold _ => some hold
  | .missing hold => hold
  | _ => none

def ItemStatus.pickup : ItemStatus → Option Nat
  | .onHoldShelf _ day => some day
  | _ => none

def presenceBit (present : Bool) (bit : Nat) : Nat := if present then 2 ^ bit else 0

def ItemEntry.wire (e : ItemEntry) : ItemWire :=
  let s := e.status
  let minute := s.due.bind Due.minute
  { code := CodeField.ofCode e.code
    status := natByte s.number
    presence := natByte (presenceBit e.itemClass.isSome 0 + presenceBit s.due.isSome 1 + presenceBit minute.isSome 2 +
      presenceBit s.hold.isSome 3 + presenceBit s.pickup.isSome 4)
    itemClass := natByte (e.itemClass.getD 0)
    renewalsUsed := natByte s.renewalsUsed
    holder := optionCode s.holder
    dueDay := natHalf ((s.due.map Due.day).getD 0)
    dueMinute := natHalf (minute.getD 0)
    holdBorrower := optionCode s.hold
    pickupDay := natHalf (s.pickup.getD 0) }

/-! ## Loan rules and categories (R67, R69) -/

/-- Whether the place of a rule exists: category 0 to 15, item class 0 to 31. -/
def rulePlace (category itemClass : Byte) : Bool := category.toNat ≤ 15 && itemClass.toNat ≤ 31

def LoanKind.ofNumber : Nat → Option LoanKind
  | 1 => some .days
  | 2 => some .hours
  | _ => none

def LoanKind.number : LoanKind → Nat
  | .days => 1
  | .hours => 2

/-- The longest period of a kind: 365 days or 72 hours. -/
def LoanKind.longest : LoanKind → Nat
  | .days => 365
  | .hours => 72

/-- The rule of a PUT to the matrix: none is a rule of kind NONE. The outer none is R67's BAD_ARG. -/
def RuleWire.rule (w : RuleWire) : Option (Option LoanRule) :=
  if rulePlace w.category w.itemClass then
    if w.kind = 0 then
      if w.presence = 0 && w.period = 0 && w.classLimit = 0 && w.renewalsAllowed = 0 && w.grace = 0 && w.fineRate = 0
          && w.fineCap = 0 then some none
      else none
    else
      match LoanKind.ofNumber w.kind.toNat with
      | some kind =>
        if w.presence = 0x3f && inRange 1 kind.longest w.period.toNat && w.classLimit.toNat ≤ 24
            && w.renewalsAllowed.toNat ≤ 9 && w.grace.toNat ≤ 30 && w.fineRate.toNat ≤ 999 then
          some (some { category := w.category.toNat, itemClass := w.itemClass.toNat, kind := kind, period := w.period.toNat,
                       classLimit := w.classLimit.toNat, renewalsAllowed := w.renewalsAllowed.toNat, grace := w.grace.toNat,
                       fineRate := w.fineRate.toNat, fineCap := w.fineCap.toNat })
        else none
      | none => none
  else none

/-- A place of the matrix with its rule, as a read returns it. -/
def ruleWire (category itemClass : Nat) (rule : Option LoanRule) : RuleWire :=
  match rule with
  | some r =>
    { category := natByte category, itemClass := natByte itemClass, kind := natByte r.kind.number, presence := 0x3f,
      period := natHalf r.period, classLimit := natByte r.classLimit, renewalsAllowed := natByte r.renewalsAllowed,
      grace := natByte r.grace, fineRate := natHalf r.fineRate, fineCap := natHalf r.fineCap }
  | none =>
    { category := natByte category, itemClass := natByte itemClass, kind := 0, presence := 0, period := 0, classLimit := 0,
      renewalsAllowed := 0, grace := 0, fineRate := 0, fineCap := 0 }

/-- The entry of a PUT to the category table, or none where R69 refuses it with BAD_ARG. -/
def CategoryWire.entry (w : CategoryWire) : Option CategoryEntry :=
  if w.category.toNat ≤ 15 && w.maxLoans.toNat ≤ 99 && w.expiryGrace.toNat ≤ 60 && w.offlineCap.toNat ≤ 24
      && inRange 1 30 w.shelfDays.toNat then
    some { category := w.category.toNat, maxLoans := w.maxLoans.toNat, finesLimit := w.finesLimit.toNat,
           expiryGrace := w.expiryGrace.toNat, offlineCap := w.offlineCap.toNat, shelfDays := w.shelfDays.toNat }
  else none

def CategoryEntry.wire (e : CategoryEntry) : CategoryWire :=
  { category := natByte e.category, maxLoans := natByte e.maxLoans, finesLimit := natHalf e.finesLimit,
    expiryGrace := natByte e.expiryGrace, offlineCap := natByte e.offlineCap, shelfDays := natByte e.shelfDays }

end Machine

end Sys2Proof
end

