-- ==== Sys2Proof/Machine/Calendar.lean ====
section
/-! DEFINITION. The Calendar Unit (chapter 2): open days and hours, the searches, the count of open days, civil dates, and
the requests of the weekly hours and the exception list (R32 to R39). -/

namespace Sys2Proof.Machine

/-- What the Decision of a request changes and answers: the desk after it, the status, and the bytes after the status byte. -/
structure Decision where
  desk : Desk
  status : Status
  data : List Byte
  deriving DecidableEq, Repr

/-- A decision with no data: the status byte alone. -/
def Desk.answer (d : Desk) (s : Status) : Decision := ⟨d, s, []⟩

/-- A read answered OK with the bytes it returns. -/
def Desk.answerData (d : Desk) (bs : List Byte) : Decision := ⟨d, .ok, bs⟩

/-- A read of an entry: OK with its bytes, or NOT_FOUND. -/
def Desk.answerRead (d : Desk) (entry : Option (List Byte)) : Decision :=
  match entry with
  | some bs => d.answerData bs
  | none => d.answer .notFound

/-! ## Open days (R35) -/

/-- The weekday of a day: Monday 0 to Sunday 6 (Conventions). -/
def weekdayOf (day : Nat) : Nat := (day + 5) % 7

/-- The hours of a weekday, none when it is closed. -/
def Tables.weekdayHours (t : Tables) (weekday : Nat) : Option Hours :=
  (Table.find WeekdayHours.key weekday t.weekly).map WeekdayHours.hours

def Tables.exceptionFor (t : Tables) (day : Nat) : Option ExceptionEntry := Table.find ExceptionEntry.key day t.exceptions

/-- The hours of a day that an exception opens without hours of its own: the weekday's, else those of the lowest-numbered
weekday that has hours, else 0 and 1,439. -/
def Tables.borrowedHours (t : Tables) (weekday : Nat) : Hours :=
  match t.weekdayHours weekday with
  | some h => h
  | none =>
    match t.weekly with
    | e :: _ => e.hours
    | [] => ⟨0, 1439⟩

/-- R35: the hours of an open day, none for a closed one. -/
def Tables.dayHours (t : Tables) (day : Nat) : Option Hours :=
  match t.exceptionFor day with
  | some ⟨_, .closed⟩ => none
  | some ⟨_, .openWith (some h)⟩ => some h
  | some ⟨_, .openWith none⟩ => some (t.borrowedHours (weekdayOf day))
  | none => t.weekdayHours (weekdayOf day)

def Tables.isOpenDay (t : Tables) (day : Nat) : Bool := (t.dayHours day).isSome

/-! ## Searches (R36, R37) -/

/-- The least open day of a span, none when it holds none. Days above 65,535 are taken as 65,535. -/
def Tables.forwardSearch (t : Tables) (first last : Nat) : Option Nat :=
  let first := min first lastDay
  let last := min last lastDay
  ((List.range (last + 1 - first)).map (first + ·)).find? t.isOpenDay

/-- The closure search forward from a day: the day found, or the day itself with true when none was found. -/
def Tables.closureSearch (t : Tables) (day : Nat) : Nat × Bool :=
  match t.forwardSearch day (day + 21) with
  | some d => (d, false)
  | none => (day, true)

/-- The greatest open day from a top day down to a floor day, none when there is none. -/
def Tables.backwardSearch (t : Tables) (top floor : Nat) : Option Nat :=
  ((List.range (top + 1 - floor)).map (top - ·)).find? t.isOpenDay

/-! ## Open days between two days (R38) -/

def Tables.weekdayOpen (t : Tables) (weekday : Nat) : Bool := (t.weekdayHours weekday).isSome

/-- The open days d with a < d ≤ b, counted in the three steps of R38. -/
def Tables.openDaysBetween (t : Tables) (a b : Nat) : Nat :=
  let span := b - a
  let weeks := span / 7
  let rest := (List.range (span % 7)).countP fun i => t.weekdayOpen (weekdayOf (a + 1 + 7 * weeks + i))
  let within := t.exceptions.filter fun e => decide (a < e.day) && decide (e.day ≤ b)
  let gained := within.countP fun e => e.kind != .closed && !t.weekdayOpen (weekdayOf e.day)
  let lost := within.countP fun e => e.kind == .closed && t.weekdayOpen (weekdayOf e.day)
  weeks * t.weekly.length + rest + gained - lost

/-! ## Civil dates (R39) -/

def civilDate (day : Nat) : CivilDate :=
  let z := day + 730425
  let era := z / 146097
  let doe := z - 146097 * era
  let yoe := (doe - doe / 1460 + doe / 36524 - doe / 146096) / 365
  let year := yoe + 400 * era
  let doy := doe - (365 * yoe + yoe / 4 - yoe / 100)
  let mp := (5 * doy + 2) / 153
  let dayOfMonth := doy - (153 * mp + 2) / 5 + 1
  let month := if mp < 10 then mp + 3 else mp - 9
  { year := if month ≤ 2 then year + 1 else year, month := month, day := dayOfMonth }

/-! ## Pruning (R34) -/

def Desk.pruneExceptions (d : Desk) (day : Nat) : Desk :=
  if 400 ≤ day then d.onTables fun t => { t with exceptions := t.exceptions.filter fun e => !decide (e.day < day - 400) }
  else d

/-! ## Requests of the weekly hours (R32) -/

def Desk.putWeekly (d : Desk) (w : WeeklyWire) : Decision :=
  if w.weekday.toNat ≤ 6 then
    match WeeklyWire.hours w with
    | some (some h) =>
      (d.onTables fun t => { t with weekly := Table.put WeekdayHours.key ⟨w.weekday.toNat, h⟩ t.weekly }).answer .ok
    | some none =>
      (d.onTables fun t => { t with weekly := Table.erase WeekdayHours.key w.weekday.toNat t.weekly }).answer .ok
    | none => d.answer .badArg
  else d.answer .badArg

def Desk.deleteWeekly (d : Desk) (weekday : Byte) : Decision :=
  if weekday.toNat ≤ 6 then
    (d.onTables fun t => { t with weekly := Table.erase WeekdayHours.key weekday.toNat t.weekly }).answer .ok
  else d.answer .badArg

def Desk.clearWeekly (d : Desk) : Decision := (d.onTables fun t => { t with weekly := [] }).answer .ok

def Tables.weekdayBytes (t : Tables) (weekday : Nat) : List Byte := (weekdayWire weekday (t.weekdayHours weekday)).bytes

def Desk.readWeekly (d : Desk) (weekday : Byte) : Decision :=
  if weekday.toNat ≤ 6 then d.answerData (d.tables.weekdayBytes weekday.toNat) else d.answer .badArg

def Desk.nextWeekly (d : Desk) (weekday : Byte) : Decision :=
  if weekday.toNat ≤ 6 then
    d.answerRead (if weekday.toNat < 6 then some (d.tables.weekdayBytes (weekday.toNat + 1)) else none)
  else d.answer .badArg

/-! ## Requests of the exception list (R33) -/

def Desk.putException (d : Desk) (w : ExceptionWire) : Decision :=
  match ExceptionWire.entry w with
  | some e =>
    if (d.tables.exceptionFor e.day).isSome || d.tables.exceptions.length < exceptionCapacity then
      (d.onTables fun t => { t with exceptions := Table.put ExceptionEntry.key e t.exceptions }).answer .ok
    else d.answer .full
  | none => d.answer .badArg

def Desk.deleteException (d : Desk) (day : Half) : Decision :=
  if (d.tables.exceptionFor day.toNat).isSome then
    (d.onTables fun t => { t with exceptions := Table.erase ExceptionEntry.key day.toNat t.exceptions }).answer .ok
  else d.answer .notFound

def Desk.clearExceptions (d : Desk) : Decision := (d.onTables fun t => { t with exceptions := [] }).answer .ok

def Desk.readException (d : Desk) (day : Half) : Decision :=
  d.answerRead ((d.tables.exceptionFor day.toNat).map fun e => e.wire.bytes)

def Desk.nextException (d : Desk) (day : Half) : Decision :=
  d.answerRead ((Table.next ExceptionEntry.key day.toNat d.tables.exceptions).map fun e => e.wire.bytes)

end Sys2Proof.Machine
end

