-- ==== Sys2Proof/Machine/Borrowers.lean ====
section
/-! DEFINITION. The borrower table's requests (chapter 3, R40 to R43). -/

namespace Sys2Proof.Machine

def Desk.borrowerTableFull (d : Desk) : Bool := borrowerCapacity ≤ d.tables.borrowers.length

/-- PUT (R42). -/
def Desk.putBorrowerEntry (d : Desk) (w : BorrowerWire) : Decision :=
  match BorrowerWire.entry w with
  | some b =>
    if d.cardInUse b.card then d.answer .inUse
    else if (d.borrower b.card).isNone && d.borrowerTableFull then d.answer .full
    else (d.putBorrower b).answer .ok
  | none => d.answer .badArg

def Desk.eraseBorrower (d : Desk) (card : Code) : Desk :=
  d.onTables fun t => { t with borrowers := Table.erase Borrower.key (Code.rank card) t.borrowers }

/-- DELETE (R43). -/
def Desk.deleteBorrower (d : Desk) (card : CodeField) : Decision :=
  match CodeField.code card with
  | some c =>
    if d.cardInUse c then d.answer .inUse
    else if (d.borrower c).isNone then d.answer .notFound
    else (d.eraseBorrower c).answer .ok
  | none => d.answer .badArg

/-- CLEAR_ALL (R43). -/
def Desk.clearBorrowers (d : Desk) : Decision :=
  if d.mode == .closed then (d.onTables fun t => { t with borrowers := [] }).answer .ok else d.answer .badState

/-- TABLE_READ by key (R43). -/
def Desk.readBorrower (d : Desk) (card : CodeField) : Decision :=
  match CodeField.code card with
  | some c => d.answerRead ((d.borrower c).map fun b => b.wire.bytes)
  | none => d.answer .badArg

/-- TABLE_READ for the next entry after a key (R43). -/
def Desk.nextBorrower (d : Desk) (card : CodeField) : Decision :=
  match CodeField.code card with
  | some c => d.answerRead ((Table.next Borrower.key (Code.rank c) d.tables.borrowers).map fun b => b.wire.bytes)
  | none => d.answer .badArg

end Sys2Proof.Machine
end

