-- ==== Sys2Proof/Machine/Prefix.lean ====
section
/-! DEFINITION. The prefix table and classification (chapter 1, R10 to R16). -/

namespace Sys2Proof.Machine

def PrefixEntry.matches (e : PrefixEntry) (c : Code) : Bool :=
  e.lead.isPrefixOf c && e.minLength ≤ c.length && c.length ≤ e.maxLength

/-- Of two matching entries, the one with the longer lead wins, and the earlier (lower slot) at equal lengths (R12). -/
def PrefixEntry.better (best : Option PrefixEntry) (e : PrefixEntry) : Option PrefixEntry :=
  match best with
  | some b => if b.lead.length < e.lead.length then some e else some b
  | none => some e

/-- The winning slot of a code (R12); the table is in slot order. -/
def winnerOf (table : List PrefixEntry) (c : Code) : Option PrefixEntry :=
  (table.filter fun e => e.matches c).foldl PrefixEntry.better none

/-- The weighted sum of R14, from the digit next to the check digit leftward. -/
def weightedSum : List Digit → Nat
  | [] => 0
  | [a] => 3 * a.val
  | a :: b :: rest => 3 * a.val + b.val + weightedSum rest

/-- The WEIGHTED10 check (R14). -/
def passesWeighted10 (c : Code) : Bool :=
  match c.reverse with
  | check :: rest => check.val == (10 - weightedSum rest % 10) % 10
  | [] => false

/-- The command that a COMMAND code's last two digits name (R15). -/
def commandOf (c : Code) : Option Command :=
  match Code.value (Code.lastDigits 2 c) with
  | 1 => some .loanMode
  | 2 => some .returnMode
  | 3 => some .renewMode
  | 10 => some .endSession
  | 11 => some .cancelLast
  | 12 => some .overrideCard
  | 13 => some .clear
  | 14 => some .reprint
  | 15 => some .skipSlip
  | _ => none

/-- The check of the winning entry. -/
def PrefixEntry.passes (e : PrefixEntry) (c : Code) : Bool := e.check == .none || passesWeighted10 c

/-- The outcome of R13: an invalid code, an ignored one, or a classified one with its scan queue entry. -/
inductive Classified
  | invalid
  | ignored
  | entry (e : QueueEntry)
  deriving DecidableEq, Repr

/-- R13. -/
def classifyScan (table : List PrefixEntry) (c : Code) : Classified :=
  match winnerOf table c with
  | none => .invalid
  | some e =>
    if e.cls == .ignore then .ignored
    else if !e.passes c then .invalid
    else
      match e.cls with
      | .borrower category => .entry (.borrower c category)
      | .item itemClass => .entry (.item c itemClass)
      | .command =>
        match commandOf c with
        | some command => .entry (.command c command)
        | none => .invalid
      | .ignore => .ignored

/-- The question of another unit (R16): the class of a code with its default, none for no match. -/
def classifyCode (table : List PrefixEntry) (c : Code) : Option CodeClass :=
  match winnerOf table c with
  | some e => if e.cls != .ignore && e.passes c then some e.cls else none
  | none => none

/-- A code that classifies as BORROWER gives its category; any other answer gives none. -/
def Desk.classifiedCategory (d : Desk) (c : Code) : Option Nat :=
  match classifyCode d.tables.prefixes c with
  | some (.borrower category) => some category
  | _ => none

/-- A code that classifies as ITEM gives its class; any other answer gives none. -/
def Desk.classifiedItemClass (d : Desk) (c : Code) : Option Nat :=
  match classifyCode d.tables.prefixes c with
  | some (.item itemClass) => some itemClass
  | _ => none

/-! ## Requests (R10, R11) -/

/-- Another slot holds the same lead and lengths. -/
def PrefixEntry.duplicates (e other : PrefixEntry) : Bool :=
  other.slot != e.slot && other.lead == e.lead && other.minLength == e.minLength && other.maxLength == e.maxLength

def Desk.putPrefix (d : Desk) (w : PrefixWire) : Decision :=
  match PrefixWire.entry w with
  | some e =>
    if d.tables.prefixes.any e.duplicates then d.answer .duplicate
    else (d.onTables fun t => { t with prefixes := Table.put PrefixEntry.key e t.prefixes }).answer .ok
  | none => d.answer .badArg

def Desk.slotEntry (d : Desk) (slot : Nat) : Option PrefixEntry := Table.find PrefixEntry.key slot d.tables.prefixes

def Desk.deletePrefix (d : Desk) (slot : Byte) : Decision :=
  if 31 < slot.toNat then d.answer .badArg
  else if (d.slotEntry slot.toNat).isSome then
    (d.onTables fun t => { t with prefixes := Table.erase PrefixEntry.key slot.toNat t.prefixes }).answer .ok
  else d.answer .notFound

def Desk.clearPrefixes (d : Desk) : Decision := (d.onTables fun t => { t with prefixes := [] }).answer .ok

def Desk.readPrefix (d : Desk) (slot : Byte) : Decision :=
  if 31 < slot.toNat then d.answer .badArg else d.answerRead ((d.slotEntry slot.toNat).map fun e => e.wire.bytes)

def Desk.nextPrefix (d : Desk) (slot : Byte) : Decision :=
  if 31 < slot.toNat then d.answer .badArg
  else d.answerRead ((Table.next PrefixEntry.key slot.toNat d.tables.prefixes).map fun e => e.wire.bytes)

end Sys2Proof.Machine
end

