-- ==== Sys2Proof/Machine/DueDates.lean ====
section
/-! DEFINITION. The Due-Date Unit (chapter 6, R105 to R120). -/

namespace Sys2Proof.Machine

/-- A due with whether NO_OPEN_DAY is reported with it (R120). -/
structure DueAnswer where
  due : Due
  noOpenDay : Bool
  deriving DecidableEq, Repr

/-- What one question reads (R105, R107): now, the borrower's expiry day, the calendar, and the minimum remaining. -/
structure DueQuestion where
  today : Nat
  minute : Nat
  expiryDay : Nat
  tables : Tables
  minimumRemaining : Nat

def Desk.dueQuestion (d : Desk) (expiryDay : Nat) : DueQuestion :=
  { today := d.clock.day, minute := d.clock.minute, expiryDay := expiryDay, tables := d.tables,
    minimumRemaining := d.settings.minimumRemaining }

/-- The cap day of R109. -/
def DueQuestion.capDay (q : DueQuestion) : Nat := max q.expiryDay q.today

/-- The day that the expiry cap gives for a day later than the cap day (R109). -/
def DueQuestion.cappedDay (q : DueQuestion) : Nat :=
  let c := q.capDay
  (q.tables.backwardSearch c (max q.today (c - 21))).getD c

/-- A day loan (R108, R109). -/
def DueQuestion.dayLoan (q : DueQuestion) (period : Nat) : DueAnswer :=
  let (day, missed) := q.tables.closureSearch (min (q.today + period) lastDay)
  if day ≤ q.capDay then ⟨⟨day, none⟩, missed⟩ else ⟨⟨q.cappedDay, none⟩, false⟩

/-- A carried hourly loan before the cap (R111). -/
def DueQuestion.carried (q : DueQuestion) (hours : Nat) : DueAnswer :=
  if q.today < lastDay then
    match q.tables.forwardSearch (q.today + 1) (q.today + 21) with
    | some n =>
      let h := (q.tables.dayHours n).getD ⟨0, 1439⟩
      ⟨⟨n, some (min (h.opening + 60 * hours) h.closing)⟩, false⟩
    | none => ⟨⟨q.today + 1, some (min (60 * hours) 1439)⟩, true⟩
  else ⟨⟨lastDay, some 1439⟩, true⟩

/-- The expiry cap on a carried hourly due (R112). -/
def DueQuestion.capHourly (q : DueQuestion) (a : DueAnswer) : DueAnswer :=
  if a.due.day ≤ q.capDay then a
  else
    let day := q.cappedDay
    let closing := match q.tables.dayHours day with
      | some h => h.closing
      | none => 1439
    ⟨⟨day, some (if day = q.today then max closing q.minute else closing)⟩, false⟩

/-- An hourly loan (R110 to R112). -/
def DueQuestion.hourlyLoan (q : DueQuestion) (hours : Nat) : DueAnswer :=
  match q.tables.dayHours q.today with
  | some h =>
    if q.minute + 60 * hours ≤ h.closing then ⟨⟨q.today, some (q.minute + 60 * hours)⟩, false⟩
    else if q.minute + q.minimumRemaining ≤ h.closing then ⟨⟨q.today, some h.closing⟩, false⟩
    else q.capHourly (q.carried hours)
  | none => q.capHourly (q.carried hours)

/-- The loan due of R107. -/
def DueQuestion.loanDue (q : DueQuestion) (r : LoanRule) : DueAnswer :=
  match r.kind with
  | .days => q.dayLoan r.period
  | .hours => q.hourlyLoan r.period

/-- The place of a due on its day: a due with no minute stands after every minute (R113). -/
def Due.moment (x : Due) : Nat := x.day * 1441 + x.minute.getD 1440

/-- The order of R113. -/
def Due.earlier (a b : Due) : Bool := a.moment < b.moment

/-- The renewal due: the new due when it is later than the current one, else the current one (R114). -/
def DueQuestion.renewalDue (q : DueQuestion) (r : LoanRule) (current : Due) : DueAnswer :=
  let new := q.loanDue r
  if current.earlier new.due then new else ⟨current, false⟩

/-- The hold shelf days for a hold borrower (R115). -/
def Desk.shelfDays (d : Desk) (holdBorrower : Code) : Nat :=
  match d.borrower holdBorrower with
  | some b => (d.category b.category).shelfDays
  | none =>
    match d.classifiedCategory holdBorrower with
    | some c => (d.category c).shelfDays
    | none => 7

/-- The pickup-by day with whether NO_OPEN_DAY is noted (R115). -/
def Desk.pickupDay (d : Desk) (holdBorrower : Code) : Nat × Bool :=
  d.tables.closureSearch (min (d.clock.day + d.shelfDays holdBorrower) lastDay)

/-! ## Late units and fines at a return (R116 to R119) -/

/-- Grace, fine rate and fine cap of a return. -/
structure FineTerms where
  grace : Nat
  rate : Nat
  cap : Nat
  deriving DecidableEq, Repr

/-- The terms of a return: the rule at the holder's category and the item's effective class, or zeros (R116). -/
def Desk.fineTerms (d : Desk) (holder : Code) (itemClass : Nat) : FineTerms :=
  let category := match d.borrower holder with
    | some b => some b.category
    | none => d.classifiedCategory holder
  match category.bind fun c => d.rule c itemClass with
  | some r => ⟨r.grace, r.fineRate, r.fineCap⟩
  | none => ⟨0, 0, 0⟩

/-- Minutes as hours, rounded up. -/
def hoursUp (minutes : Nat) : Nat := (minutes + 59) / 60

/-- The fine of R119. -/
def FineTerms.fine (t : FineTerms) (units : Nat) : Nat := min (units * t.rate) t.cap

/-- Late units and fine of a return now against a due (R117 to R119). -/
def Desk.reckonReturn (d : Desk) (due : Due) (t : FineTerms) : Nat × Nat :=
  match due.minute with
  | none =>
    let units := d.tables.openDaysBetween due.day d.clock.day - t.grace
    (units, t.fine units)
  | some minute =>
    if d.clock.day < due.day then (0, 0)
    else if d.clock.day = due.day then
      let units := hoursUp (d.clock.minute - minute)
      (units, t.fine units)
    else (min (hoursUp ((d.clock.day - due.day) * 1440 + d.clock.minute - minute)) 65535, t.cap)

end Sys2Proof.Machine
end

