-- ==== Sys2Proof/Machine/Flags.lean ====
section
/-! DEFINITION. The flags of the part: the alarm set with its notices (R191 to R194), the sync state (R29), and the flag bits
of journal records (R155, R198). -/

namespace Sys2Proof.Machine

/-! ## Alarms and notices by number -/

def AlarmId.number : AlarmId → Nat
  | .journalHigh => 1
  | .journalFull => 2
  | .printer0Fault => 3
  | .printer1Fault => 4
  | .clockUnsynced => 5
  | .uploadStalled => 6
  | .clockDispute => 7
  | .tableFull => 8
  | .linkOverrun => 9
  | .powerRestored => 10
  | .coldStart => 11

def AlarmId.list : List AlarmId :=
  [.journalHigh, .journalFull, .printer0Fault, .printer1Fault, .clockUnsynced, .uploadStalled, .clockDispute, .tableFull,
    .linkOverrun, .powerRestored, .coldStart]

def AlarmId.ofNumber (n : Nat) : Option AlarmId := AlarmId.list.find? fun a => a.number == n

/-- Alarms 1 to 6 are condition alarms, 7 to 11 event alarms (R191). -/
def AlarmId.isCondition (a : AlarmId) : Bool := a.number ≤ 6

def AlarmSet.get (s : AlarmSet) : AlarmId → AlarmState
  | .journalHigh => s.journalHigh
  | .journalFull => s.journalFull
  | .printer0Fault => s.printer0Fault
  | .printer1Fault => s.printer1Fault
  | .clockUnsynced => s.clockUnsynced
  | .uploadStalled => s.uploadStalled
  | .clockDispute => s.clockDispute
  | .tableFull => s.tableFull
  | .linkOverrun => s.linkOverrun
  | .powerRestored => s.powerRestored
  | .coldStart => s.coldStart

def AlarmSet.set (s : AlarmSet) (a : AlarmId) (x : AlarmState) : AlarmSet :=
  match a with
  | .journalHigh => { s with journalHigh := x }
  | .journalFull => { s with journalFull := x }
  | .printer0Fault => { s with printer0Fault := x }
  | .printer1Fault => { s with printer1Fault := x }
  | .clockUnsynced => { s with clockUnsynced := x }
  | .uploadStalled => { s with uploadStalled := x }
  | .clockDispute => { s with clockDispute := x }
  | .tableFull => { s with tableFull := x }
  | .linkOverrun => { s with linkOverrun := x }
  | .powerRestored => { s with powerRestored := x }
  | .coldStart => { s with coldStart := x }

def NoticeKind.number : NoticeKind → Nat
  | .watchHit => 1
  | .blockHit => 2
  | .overrideUsed => 3
  | .holdRouted => 4
  | .provisionalOpened => 5
  | .borrowerUnknown => 6
  | .alarm => 7

def NoticeKind.ofNumber : Nat → Option NoticeKind
  | 1 => some .watchHit
  | 2 => some .blockHit
  | 3 => some .overrideUsed
  | 4 => some .holdRouted
  | 5 => some .provisionalOpened
  | 6 => some .borrowerUnknown
  | 7 => some .alarm
  | _ => none

def Routing.get (r : Routing) : NoticeKind → Bool
  | .watchHit => r.watchHit
  | .blockHit => r.blockHit
  | .overrideUsed => r.overrideUsed
  | .holdRouted => r.holdRouted
  | .provisionalOpened => r.provisionalOpened
  | .borrowerUnknown => r.borrowerUnknown
  | .alarm => r.alarm

def Routing.set (r : Routing) (k : NoticeKind) (on : Bool) : Routing :=
  match k with
  | .watchHit => { r with watchHit := on }
  | .blockHit => { r with blockHit := on }
  | .overrideUsed => { r with overrideUsed := on }
  | .holdRouted => { r with holdRouted := on }
  | .provisionalOpened => { r with provisionalOpened := on }
  | .borrowerUnknown => { r with borrowerUnknown := on }
  | .alarm => { r with alarm := on }

def NoticeBody.kind : NoticeBody → NoticeKind
  | .watchHit .. => .watchHit
  | .blockHit .. => .blockHit
  | .overrideUsed .. => .overrideUsed
  | .holdRouted .. => .holdRouted
  | .provisionalOpened .. => .provisionalOpened
  | .borrowerUnknown .. => .borrowerUnknown
  | .alarm .. => .alarm

/-- The second part of a notice's place in the pending set (R189, R193): its station, NONE after station 3, or its alarm. -/
def NoticeBody.place : NoticeBody → Nat
  | .watchHit st .. => st.number
  | .blockHit st .. => st.number
  | .overrideUsed st .. => st.number
  | .holdRouted st .. => st.number
  | .provisionalOpened st .. => st.number
  | .borrowerUnknown (some st) _ => st.number
  | .borrowerUnknown none _ => 4
  | .alarm a _ => a.number

/-- The order in which the transmit arbiter takes notices (R189): lowest kind number, then lowest station or alarm. -/
def NoticeBody.key (b : NoticeBody) : Nat := b.kind.number * 16 + b.place

def Notice.key (n : Notice) : Nat := n.body.key

/-- An occurrence of a notice (R193): dropped when its kind's routing is OFF, else added with coalesced count 0, or folded
into the pending notice of its kind and station or alarm. -/
def Desk.raiseNotice (d : Desk) (b : NoticeBody) : Desk :=
  if d.settings.routing.get b.kind then
    let coalesced := match Table.find Notice.key b.key d.notices with
      | some n => min (n.coalesced + 1) 255
      | none => 0
    { d with notices := Table.put Notice.key ⟨b, coalesced⟩ d.notices }
  else d

/-- A raise (R191): the active flag sets, the count rises by 1 modulo 256, and an ALARM notice is raised. -/
def Desk.raiseAlarm (d : Desk) (a : AlarmId) : Desk :=
  let s := d.alarms.get a
  let x : AlarmState := { s with active := true, count := (s.count + 1) % 256 }
  ({ d with alarms := d.alarms.set a x }).raiseNotice (.alarm a x)

/-- An owner's report of its condition (R191): a beginning raises the alarm, an end leaves flag and count as they are, and
a report of what already stands does nothing. -/
def Desk.reportCondition (d : Desk) (a : AlarmId) (now : Bool) : Desk :=
  let s := d.alarms.get a
  if now then
    if s.holds then d else ({ d with alarms := d.alarms.set a { s with holds := true } }).raiseAlarm a
  else { d with alarms := d.alarms.set a { s with holds := false } }

/-! ## The sync state (R29) -/

def Desk.syncState (d : Desk) : SyncState :=
  match d.settings.timeSource with
  | .localTime => .localTime
  | .marks => if d.clock.markAge ≤ d.settings.markAgeLimit * 3600 then .synced else .unsynced

/-- The sync state is computed again and CLOCK_UNSYNCED reported (R29). -/
def Desk.reportSync (d : Desk) : Desk := d.reportCondition .clockUnsynced (d.syncState == .unsynced)

def Desk.isOffline (d : Desk) : Bool := d.link == .offline

/-! ## Flags of a record (R155) -/

def RecordFlags.none : RecordFlags := ⟨false, false, false, false, false, false⟩

def bit (b : Bool) (n : Nat) : Nat := if b then 2 ^ n else 0

/-- Flag bits, from bit 0: OFFLINE, UNSYNCED, OVERRIDE, PROVISIONAL, FOUND, NO_OPEN_DAY (R198). -/
def RecordFlags.bits (f : RecordFlags) : Nat :=
  bit f.offline 0 + bit f.unsynced 1 + bit f.overridden 2 + bit f.provisional 3 + bit f.found 4 + bit f.noOpenDay 5

/-- Bits 0 to 3 for URGENT, REFUSAL, ACTION and INFO (R198). -/
def LevelMasks.bits (m : LevelMasks) : Nat := bit m.urgent 0 + bit m.refusal 1 + bit m.action 2 + bit m.info 3

def testBit (n i : Nat) : Bool := n / 2 ^ i % 2 == 1

def LevelMasks.ofBits (n : Nat) : LevelMasks := ⟨testBit n 0, testBit n 1, testBit n 2, testBit n 3⟩

end Sys2Proof.Machine
end

