-- ==== Sys2Proof/Machine/Prompts.lean ====
section
/-! DEFINITION. The Prompt Arbiter and the station's display, lamp and tone (chapter 7, R121 to R136). -/

namespace Sys2Proof.Machine

def Source.number : Source → Nat
  | .borrowerBlocked => 1
  | .journalFull => 2
  | .deskClosed => 3
  | .loanRefused => 4
  | .scanInvalid => 5
  | .queueOverflow => 6
  | .unknownBorrower => 7
  | .holdFor => 8
  | .refer => 9
  | .slipWaiting => 10
  | .lookupWait => 11
  | .lent => 12
  | .returned => 13
  | .renewed => 14
  | .sessionOpen => 15
  | .sessionEnd => 16

def Source.list : List Source :=
  [.borrowerBlocked, .journalFull, .deskClosed, .loanRefused, .scanInvalid, .queueOverflow, .unknownBorrower, .holdFor,
    .refer, .slipWaiting, .lookupWait, .lent, .returned, .renewed, .sessionOpen, .sessionEnd]

def Source.ofNumber (n : Nat) : Option Source := Source.list.find? fun s => s.number == n

/-- The level of each source (7.1). -/
def Source.level : Source → Level
  | .borrowerBlocked => .urgent
  | .journalFull => .urgent
  | .deskClosed => .urgent
  | .loanRefused => .refusal
  | .scanInvalid => .refusal
  | .queueOverflow => .refusal
  | .unknownBorrower => .refusal
  | .holdFor => .action
  | .refer => .action
  | .slipWaiting => .action
  | .lookupWait => .action
  | .lent => .info
  | .returned => .info
  | .renewed => .info
  | .sessionOpen => .info
  | .sessionEnd => .info

/-- The clear kind of each source (7.1). -/
def Source.clearKind : Source → ClearKind
  | .borrowerBlocked => .staff
  | .journalFull => .condition
  | .deskClosed => .transient
  | .loanRefused => .staff
  | .scanInvalid => .transient
  | .queueOverflow => .transient
  | .unknownBorrower => .staff
  | .holdFor => .staff
  | .refer => .staff
  | .slipWaiting => .condition
  | .lookupWait => .condition
  | .lent => .transient
  | .returned => .transient
  | .renewed => .transient
  | .sessionOpen => .transient
  | .sessionEnd => .transient

def Prompt.source : Prompt → Source
  | .borrowerBlocked _ => .borrowerBlocked
  | .journalFull => .journalFull
  | .deskClosed => .deskClosed
  | .loanRefused _ _ => .loanRefused
  | .scanInvalid => .scanInvalid
  | .queueOverflow => .queueOverflow
  | .unknownBorrower => .unknownBorrower
  | .holdFor _ _ => .holdFor
  | .refer _ => .refer
  | .slipWaiting _ => .slipWaiting
  | .lookupWait => .lookupWait
  | .lent _ => .lent
  | .returned _ => .returned
  | .renewed _ => .renewed
  | .sessionOpen _ _ _ _ => .sessionOpen
  | .sessionEnd _ => .sessionEnd

def Prompt.key (p : Prompt) : Nat := p.source.number

/-- Level numbers: 1 URGENT, 2 REFUSAL, 3 ACTION, 4 INFO (R127). -/
def Level.number : Level → Nat
  | .urgent => 1
  | .refusal => 2
  | .action => 3
  | .info => 4

def Level.ofNumber : Nat → Option Level
  | 1 => some .urgent
  | 2 => some .refusal
  | 3 => some .action
  | 4 => some .info
  | _ => none

def LevelMasks.get (m : LevelMasks) : Level → Bool
  | .urgent => m.urgent
  | .refusal => m.refusal
  | .action => m.action
  | .info => m.info

/-- R134: red for URGENT and REFUSAL, amber for ACTION, green for INFO. -/
def Level.lamp : Level → Lamp
  | .urgent => .red
  | .refusal => .red
  | .action => .amber
  | .info => .green

/-- The frequency of a pitch's square wave, Hz (R135). -/
def Pitch.hertz : Pitch → Nat
  | .high => 2048
  | .low => 1024

def ToneSegment.length : ToneSegment → Nat
  | .tone _ ms => ms
  | .gap ms => ms

/-- The tone pattern of each level (R135). -/
def Level.pattern : Level → List ToneSegment
  | .urgent => [.tone .high 150, .gap 100, .tone .high 150, .gap 100, .tone .high 150]
  | .refusal => [.tone .low 200, .gap 100, .tone .low 200]
  | .action => [.tone .high 300]
  | .info => [.tone .high 60]

/-- The length of a pattern, ms (R135). -/
def patternLength (p : List ToneSegment) : Nat := (p.map ToneSegment.length).sum

/-- What the tone output plays from the beginning of its pattern (R135). -/
def Tone.plays : Tone → List ToneSegment
  | .quiet => []
  | .playing l => l.pattern

def lampOf : Option Source → Lamp
  | none => .off
  | some s => s.level.lamp

/-- The pending entries of R122 in their order: by level, by the precedence list, and by source number within a level. -/
def orderedPrompts (precedence : List Level) (pending : List Prompt) : List Prompt :=
  precedence.flatMap fun l => pending.filter fun p => p.source.level == l

/-- The selection of R125: the first entry of that order whose level is not masked. -/
def selectPrompt (precedence : List Level) (masks : LevelMasks) (pending : List Prompt) : Option Prompt :=
  (orderedPrompts precedence pending).find? fun p => !masks.get p.source.level

/-- R127: a record handed over is sent at once when the output is IDLE, else it becomes the waiting record. -/
def DisplayOutput.hand (o : DisplayOutput) (r : DisplayRecord) : DisplayOutput :=
  match o with
  | .idle => .sending r none
  | .sending current _ => .sending current (some r)

/-- What the arbiter reads to make its selection. -/
structure ArbiterSettings where
  precedence : List Level
  masks : LevelMasks
  displayTime : Nat
  deriving DecidableEq, Repr

def Desk.arbiterSettings (d : Desk) (st : StationId) : ArbiterSettings :=
  { precedence := d.settings.precedence, masks := (d.stationSettings.get st).masks, displayTime := d.settings.displayTime }

/-- The selection is redone (R125). `occurrence` is the source that has just taken a new occurrence, if any. The shown prompt
changes when the selection gives another source or the shown source took the occurrence (R126); then the lamp, the
display record, the tone (for an occurrence of the source now shown) and the display timer follow. -/
def Arbiter.reselect (x : ArbiterSettings) (occurrence : Option Source) (a : Arbiter) : Arbiter :=
  let choice := selectPrompt x.precedence x.masks a.pending
  let source := choice.map Prompt.source
  let occurred := occurrence.isSome && occurrence == source
  if source == a.shown && !occurred then a
  else
    { a with
      shown := source
      lamp := lampOf source
      display := a.display.hand (match choice with | some p => .prompt p | none => .blank)
      tone := if occurred then (match source with | some s => .playing s.level | none => a.tone) else a.tone
      displayTimer := match source with
        | some s => if s.clearKind == .transient then some x.displayTime else none
        | none => none }

/-- A post (R122): a new occurrence that adds its source's entry or replaces its parameters. -/
def Arbiter.post (x : ArbiterSettings) (p : Prompt) (a : Arbiter) : Arbiter :=
  ({ a with pending := Table.put Prompt.key p a.pending }).reselect x (some p.source)

def Arbiter.remove (x : ArbiterSettings) (s : Source) (a : Arbiter) : Arbiter :=
  ({ a with pending := Table.erase Prompt.key s.number a.pending }).reselect x none

def Arbiter.has (a : Arbiter) (s : Source) : Bool := a.pending.any fun p => p.source == s

/-- An accepted scan removes every TRANSIENT entry (R129). -/
def Arbiter.scanAccepted (x : ArbiterSettings) (a : Arbiter) : Arbiter :=
  ({ a with pending := a.pending.filter fun p => p.source.clearKind != ClearKind.transient }).reselect x none

/-- CLEAR removes the shown prompt when it is of kind STAFF (R130). -/
def Arbiter.clearShown (x : ArbiterSettings) (a : Arbiter) : Arbiter :=
  match a.shown with
  | some s => if s.clearKind == .staff then a.remove x s else a
  | none => a

/-- Expiry of the display timer removes the shown TRANSIENT entry (R128). A timer that is stopped does not expire. -/
def Arbiter.displayExpiry (x : ArbiterSettings) (a : Arbiter) : Arbiter :=
  match a.displayTimer, a.shown with
  | some _, some s => if s.clearKind == .transient then a.remove x s else a
  | _, _ => a

/-- R127: when a record has been sent, the waiting record is sent next, or the output becomes IDLE. -/
def DisplayOutput.sent : DisplayOutput → DisplayOutput
  | .idle => .idle
  | .sending _ (some w) => .sending w none
  | .sending _ none => .idle

def Arbiter.recordSent (a : Arbiter) : Arbiter := { a with display := a.display.sent }

/-- R135: at the end of a pattern the tone output is QUIET. -/
def Arbiter.toneEnd (a : Arbiter) : Arbiter := { a with tone := .quiet }

def Desk.post (d : Desk) (st : StationId) (p : Prompt) : Desk := d.onArbiter st (Arbiter.post (d.arbiterSettings st) p)

def Desk.removePrompt (d : Desk) (st : StationId) (s : Source) : Desk :=
  d.onArbiter st (Arbiter.remove (d.arbiterSettings st) s)

def Desk.reselect (d : Desk) (st : StationId) : Desk := d.onArbiter st (Arbiter.reselect (d.arbiterSettings st) none)

/-- LOAN_REFUSED with its reason (R88). -/
def Desk.refuse (d : Desk) (st : StationId) (r : RefusalReason) : Desk := d.post st (.loanRefused r none)

/-- The numbers of the refusal reasons (R121). -/
def RefusalReason.number : RefusalReason → Nat
  | .sessionFull => 1
  | .alreadyInSession => 2
  | .inUse => 3
  | .journalFull => 4
  | .blocked => 5
  | .refer => 6
  | .expired => 7
  | .notLendable => 8
  | .statusCheck => 9
  | .onLoanOther => 10
  | .alreadyOnLoan => 11
  | .heldForOther => 12
  | .loanLimit => 13
  | .classLimit => 14
  | .finesLimit => 15
  | .offlineCap => 16
  | .tableFull => 17
  | .notOnLoanToBorrower => 18
  | .renewLimit => 19
  | .nothingToCancel => 20
  | .borrowerElsewhere => 21
  | .noSession => 22

/-! ## Commands of this unit -/

/-- PROMPT_CLEAR's decision (R131). A station outside 0 to 3 or a source outside 1 to 16 is BAD_ARG. -/
def Desk.promptClear (d : Desk) (station source : Byte) : Desk × Status :=
  match StationId.ofNumber station.toNat, Source.ofNumber source.toNat with
  | some st, some s =>
    if s.clearKind != .staff then (d, .badState)
    else if (d.arbiters.get st).has s then (d.removePrompt st s, .ok)
    else (d, .notFound)
  | _, _ => (d, .badArg)

end Sys2Proof.Machine
end

