-- ==== Sys2Proof/Machine/Journal.lean ====
section
/-! DEFINITION. The Journal (chapter 9): numbering, room, append, release and the two conditions (R154 to R165). -/

namespace Sys2Proof.Machine

/-! ## Numbering (R156) -/

def lastSeq : Nat := 4294967295

/-- The seq reached from a by n steps of the numbering, which passes from 4,294,967,295 to 1. -/
def seqForward (a n : Nat) : Nat := if a + n ≤ lastSeq then a + n else a + n - lastSeq

/-- The distance from a seq forward to another. -/
def seqDistance (a b : Nat) : Nat := if a ≤ b then b - a else lastSeq - a + b

/-! ## Places and conditions (R157, R162 to R164) -/

def Journal.heldCount (j : Journal) : Nat := j.held.length

def Journal.free (j : Journal) : Nat := journalPlaces - j.heldCount

/-- A read of a record by seq: none when that seq is not held (R161). -/
def Journal.read (j : Journal) (seq : Nat) : Option JournalRecord := j.held.find? fun r => r.seq == seq

def Settings.highWaterMark (s : Settings) : Nat := journalPlaces * s.highWater / 100

def Desk.journalHigh (d : Desk) : Bool := d.settings.highWaterMark ≤ d.journal.heldCount

def Desk.journalFull (d : Desk) : Bool := d.journal.free ≤ d.settings.returnReserve

/-- Free places greater than the return reserve: the room of LOAN, RENEW and REFUSAL (R159). -/
def Desk.loanRoom (d : Desk) : Bool := d.settings.returnReserve < d.journal.free

/-- At least one free place: the room of every other kind (R159). -/
def Desk.anyRoom (d : Desk) : Bool := 0 < d.journal.free

/-- The arbiters' part of a report of JOURNAL_FULL (R133): a begin posts the prompt at each station that is OPEN or in
LOOKUP, an end removes it wherever it is. -/
def Desk.tellJournalFull (d : Desk) (before now : Bool) : Desk :=
  if now && !before then d.eachStation fun d st => if (d.context st).serving then d.post st .journalFull else d
  else if before && !now then
    d.eachStation fun d st => if (d.arbiters.get st).has .journalFull then d.removePrompt st .journalFull else d
  else d

/-- The Journal evaluates its conditions and reports their changes (R163, R164). -/
def Desk.evaluateJournal (d : Desk) : Desk :=
  let before := d.alarms.journalFull.holds
  let now := d.journalFull
  ((d.reportCondition .journalHigh d.journalHigh).reportCondition .journalFull now).tellJournalFull before now

/-! ## Append (R154, R155, R158 to R160) -/

/-- LOAN, RENEW and REFUSAL need free places greater than the return reserve (R159). -/
def RecordBody.reservedRoom : RecordBody → Bool
  | .loan .. => true
  | .renew .. => true
  | .refusal .. => true
  | _ => false

/-- The flags that the unit asking for the append gives; the Journal sets the other two itself (R155). -/
def RecordFlags.given (overridden provisional found noOpenDay : Bool) : RecordFlags :=
  { offline := false, unsynced := false, overridden := overridden, provisional := provisional, found := found,
    noOpenDay := noOpenDay }

/-- The record that an append writes: the next seq, the clock's day and minute, the OFFLINE and UNSYNCED flags. -/
def Desk.recordFor (d : Desk) (station : Option StationId) (flags : RecordFlags) (body : RecordBody) : JournalRecord :=
  { seq := seqForward d.journal.newest 1, day := d.clock.day, minute := d.clock.minute, station := station,
    flags := { flags with offline := d.isOffline, unsynced := d.syncState == .unsynced }, body := body }

def Journal.add (j : Journal) (r : JournalRecord) : Journal := { j with held := j.held ++ [r], newest := r.seq }

/-- An append. A record without room is not written: a reserved-room record is dropped without trace, any other raises
JOURNAL_FULL (R160). -/
def Desk.append (d : Desk) (station : Option StationId) (flags : RecordFlags) (body : RecordBody) : Desk :=
  if if body.reservedRoom then d.loanRoom else d.anyRoom then
    ({ d with journal := d.journal.add (d.recordFor station flags body) }).evaluateJournal
  else if body.reservedRoom then d
  else d.raiseAlarm .journalFull

/-- A record with none of the flags that its unit gives. -/
def Desk.appendPlain (d : Desk) (station : Option StationId) (body : RecordBody) : Desk := d.append station .none body

/-! ## Release (R161) -/

def Journal.release (j : Journal) (count : Nat) : Journal :=
  { j with held := j.held.drop count, released := seqForward j.released count }

def Desk.release (d : Desk) (first count : Nat) : Desk :=
  if first = seqForward d.journal.released 1 && 0 < count && count ≤ d.journal.heldCount then
    ({ d with journal := d.journal.release count }).evaluateJournal
  else d

end Sys2Proof.Machine
end

