-- ==== Sys2Proof/Machine/Items.lean ====
section
/-! DEFINITION. The item table, the loan rule matrix, the category table, lapses and the sweep (chapter 4; R59 for the
sweep of the block list). -/

namespace Sys2Proof.Machine

/-! ## Lapses (R71, R72) -/

/-- The lapse of a hold: the entry goes, the hold borrower's holds ready falls, a HOLD_LAPSED record is appended (R71). -/
def Desk.lapse (d : Desk) (station : Option StationId) (code holdBorrower : Code) (pickup : Nat) : Desk :=
  ((d.eraseItem code).changeBorrower holdBorrower Borrower.holdDown).appendPlain station
    (.holdLapsed holdBorrower code pickup)

/-- A decision's read of an item entry: a hold whose pickup-by day lies before today is lapsed first (R72). -/
def Desk.lapseAtRead (d : Desk) (st : StationId) (code : Code) : Desk :=
  match d.item code with
  | some ⟨_, _, .onHoldShelf hold pickup⟩ => if pickup < d.clock.day then d.lapse (some st) code hold pickup else d
  | _ => d

/-! ## The sweep (R59, R70, R71) -/

/-- The item entry that follows the sweep's position. -/
def Desk.followingItem (d : Desk) (position : Option Code) : Option ItemEntry :=
  match position with
  | some c => Table.next ItemEntry.key (Code.rank c) d.tables.items
  | none => d.tables.items.head?

/-- The block entry that follows the sweep's position. -/
def Desk.followingBlock (d : Desk) (position : Option BlockKey) : Option BlockEntry :=
  match position with
  | some k => Table.next BlockEntry.rank k.rank d.tables.blocks
  | none => d.tables.blocks.head?

/-- In BLOCKS with no entry that follows, the sweep ends (R70). -/
def Desk.settleBlockPhase (d : Desk) (day : Nat) (position : Option BlockKey) : Desk :=
  if (d.followingBlock position).isSome then { d with sweep := some ⟨day, .blocks position⟩ } else { d with sweep := none }

/-- In ITEMS with no entry that follows, the phase becomes BLOCKS (R70; log 15). -/
def Desk.settleSweep (d : Desk) : Desk :=
  match d.sweep with
  | some ⟨day, .items position⟩ => if (d.followingItem position).isSome then d else d.settleBlockPhase day none
  | some ⟨day, .blocks position⟩ => d.settleBlockPhase day position
  | none => d

/-- An item entry is judged by the sweep (R71). -/
def Desk.sweepItem (d : Desk) (day : Nat) (e : ItemEntry) : Desk :=
  let d := { d with sweep := some ⟨day, .items (some e.code)⟩ }
  match e.status with
  | .onHoldShelf hold pickup => if pickup < day then d.lapse none e.code hold pickup else d
  | _ => d

/-- A block entry whose expiry day lies before the sweep day is removed (R59). -/
def BlockEntry.expired (e : BlockEntry) (day : Nat) : Bool :=
  match e.expiryDay with
  | some x => x < day
  | none => false

def Desk.sweepBlock (d : Desk) (day : Nat) (e : BlockEntry) : Desk :=
  let d := { d with sweep := some ⟨day, .blocks (some e.key)⟩ }
  if e.expired day then d.onTables fun t => { t with blocks := Table.erase BlockEntry.rank e.rank t.blocks } else d

/-- The entry that the settled sweep examines next is examined. -/
def Desk.sweepExamine (d : Desk) : Desk :=
  match d.sweep with
  | some ⟨day, .items position⟩ =>
    match d.followingItem position with
    | some e => d.sweepItem day e
    | none => d
  | some ⟨day, .blocks position⟩ =>
    match d.followingBlock position with
    | some e => d.sweepBlock day e
    | none => d
  | none => d

/-- One step of the sweep (R70): the next entry is examined, and the sweep ends after the last one (log 15). -/
def Desk.sweepStep (d : Desk) : Desk := d.settleSweep.sweepExamine.settleSweep

/-! ## Requests of the item table (R63 to R65) -/

/-- What a PUT that passes the checks of its own fields stores, none where R64 refuses it with BAD_ARG. -/
def storedItem (old : Option ItemEntry) (new : ItemEntry) : Option ItemEntry :=
  match old, new.status with
  | some ⟨code, cls, .onLoan holder due n _⟩, .holdPending hold =>
    if hold = holder then none else some ⟨code, cls, .onLoan holder due n (some hold)⟩
  | some ⟨code, cls, .missing _⟩, .holdPending hold => some ⟨code, cls, .missing (some hold)⟩
  | _, _ => some new

/-- PUT (R63, R64). -/
def Desk.putItemEntry (d : Desk) (w : ItemWire) : Decision :=
  match ItemWire.entry w with
  | some e =>
    if d.itemListed e.code then d.answer .inUse
    else if (d.item e.code).isNone && itemCapacity ≤ d.tables.items.length then d.answer .full
    else
      match storedItem (d.item e.code) e with
      | some stored => (d.putItem stored).answer .ok
      | none => d.answer .badArg
  | none => d.answer .badArg

/-- DELETE (R65). -/
def Desk.deleteItem (d : Desk) (code : CodeField) : Decision :=
  match CodeField.code code with
  | some c =>
    if d.itemListed c then d.answer .inUse
    else if (d.item c).isNone then d.answer .notFound
    else (d.eraseItem c).answer .ok
  | none => d.answer .badArg

/-- CLEAR_ALL (R65). -/
def Desk.clearItems (d : Desk) : Decision :=
  if d.mode == .closed then (d.onTables fun t => { t with items := [] }).answer .ok else d.answer .badState

/-- TABLE_READ by key (R65). -/
def Desk.readItem (d : Desk) (code : CodeField) : Decision :=
  match CodeField.code code with
  | some c => d.answerRead ((d.item c).map fun e => e.wire.bytes)
  | none => d.answer .badArg

/-- TABLE_READ for the next entry after a key (R65). -/
def Desk.nextItem (d : Desk) (code : CodeField) : Decision :=
  match CodeField.code code with
  | some c => d.answerRead ((Table.next ItemEntry.key (Code.rank c) d.tables.items).map fun e => e.wire.bytes)
  | none => d.answer .badArg

/-! ## Requests of the loan rule matrix (R67) -/

/-- Set the rule of a place; a rule of kind NONE is a place with no entry. -/
def Desk.setRule (d : Desk) (category itemClass : Nat) (rule : Option LoanRule) : Desk :=
  d.onTables fun t =>
    { t with
      rules := match rule with
        | some r => Table.put LoanRule.key r t.rules
        | none => Table.erase LoanRule.key (ruleKey category itemClass) t.rules }

def Desk.putRule (d : Desk) (w : RuleWire) : Decision :=
  match RuleWire.rule w with
  | some rule => (d.setRule w.category.toNat w.itemClass.toNat rule).answer .ok
  | none => d.answer .badArg

def Desk.deleteRule (d : Desk) (category itemClass : Byte) : Decision :=
  if rulePlace category itemClass then (d.setRule category.toNat itemClass.toNat none).answer .ok else d.answer .badArg

def Desk.clearRules (d : Desk) : Decision := (d.onTables fun t => { t with rules := [] }).answer .ok

def Desk.ruleBytes (d : Desk) (category itemClass : Nat) : List Byte :=
  (ruleWire category itemClass (d.rule category itemClass)).bytes

def Desk.readRule (d : Desk) (category itemClass : Byte) : Decision :=
  if rulePlace category itemClass then d.answerData (d.ruleBytes category.toNat itemClass.toNat) else d.answer .badArg

/-- The place that follows, in order of category and then of item class; none after category 15, item class 31. -/
def nextPlace (category itemClass : Nat) : Option (Nat × Nat) :=
  if itemClass < 31 then some (category, itemClass + 1) else if category < 15 then some (category + 1, 0) else none

def Desk.nextRule (d : Desk) (category itemClass : Byte) : Decision :=
  if rulePlace category itemClass then
    d.answerRead ((nextPlace category.toNat itemClass.toNat).map fun p => d.ruleBytes p.1 p.2)
  else d.answer .badArg

/-! ## Requests of the category table (R69) -/

/-- Set a category's entry; one at the cold-start values is not listed. -/
def Desk.setCategory (d : Desk) (e : CategoryEntry) : Desk :=
  d.onTables fun t =>
    { t with
      categories :=
        if e = CategoryEntry.cold e.category then Table.erase CategoryEntry.key e.category t.categories
        else Table.put CategoryEntry.key e t.categories }

def Desk.putCategory (d : Desk) (w : CategoryWire) : Decision :=
  match CategoryWire.entry w with
  | some e => (d.setCategory e).answer .ok
  | none => d.answer .badArg

def Desk.deleteCategory (d : Desk) (category : Byte) : Decision :=
  if category.toNat ≤ 15 then (d.setCategory (.cold category.toNat)).answer .ok else d.answer .badArg

def Desk.clearCategories (d : Desk) : Decision := (d.onTables fun t => { t with categories := [] }).answer .ok

def Desk.readCategory (d : Desk) (category : Byte) : Decision :=
  if category.toNat ≤ 15 then d.answerData (d.category category.toNat).wire.bytes else d.answer .badArg

def Desk.nextCategory (d : Desk) (category : Byte) : Decision :=
  if category.toNat ≤ 15 then
    d.answerRead (if category.toNat < 15 then some (d.category (category.toNat + 1)).wire.bytes else none)
  else d.answer .badArg

end Sys2Proof.Machine
end

