-- ==== Sys2Proof/Machine/Blocks.lean ====
section
/-! DEFINITION. The block list: block checks, their notices, and the list's requests (chapter 3, R54 to R59). -/

namespace Sys2Proof.Machine

/-! ## Block checks (R56, R57) -/

/-- An entry matches a card on a day (R56). -/
def BlockEntry.matches (e : BlockEntry) (today : Nat) (card : Code) : Bool :=
  card.length == e.key.cardLength && card.take (card.length - e.key.k) == e.key.pattern &&
    (match e.expiryDay with
      | some day => today ≤ day
      | none => true)

/-- The rank of a match: the smallest k first, and REFUSE before REFER before WATCH at equal k (R56). -/
def BlockEntry.strength (e : BlockEntry) : Nat := e.key.k * 4 + e.action.number

def BlockEntry.stronger (best : Option BlockEntry) (e : BlockEntry) : Option BlockEntry :=
  match best with
  | some b => if e.strength < b.strength then some e else some b
  | none => some e

/-- The winning entry of a block check made now, or none (R56). -/
def Desk.blockCheck (d : Desk) (card : Code) : Option BlockEntry :=
  (d.tables.blocks.filter fun e => e.matches d.clock.day card).foldl BlockEntry.stronger none

/-- The notice of a block check made at a card scan or at the end of a lookup (R57). -/
def Desk.blockNotice (d : Desk) (st : StationId) (card : Code) (winner : Option BlockEntry) : Desk :=
  match winner with
  | some e =>
    match e.action with
    | .watch => d.raiseNotice (.watchHit st card e.reason)
    | a => d.raiseNotice (.blockHit st card a e.reason)
  | none => d

/-! ## Requests (R54, R55, R58) -/

def Desk.findBlock (d : Desk) (key : BlockKey) : Option BlockEntry := Table.find BlockEntry.rank key.rank d.tables.blocks

/-- What a stored PUT posts at a station whose open session's borrower it wins for (R58). -/
def Desk.postBlock (d : Desk) (e : BlockEntry) (st : StationId) (card : Code) : Desk :=
  match e.action with
  | .refuse => d.post st (.borrowerBlocked e.reason)
  | .refer => d.post st (.refer e.reason)
  | .watch => d.raiseNotice (.watchHit st card e.reason)

/-- R58, for each station in OPEN. -/
def Desk.tellBlock (d : Desk) (e : BlockEntry) : Desk :=
  d.eachStation fun d st =>
    match d.context st with
    | .opened x => if d.blockCheck x.borrower = some e then d.postBlock e st x.borrower else d
    | _ => d

/-- PUT (R54, R58). -/
def Desk.putBlock (d : Desk) (w : BlockWire) : Decision :=
  match BlockWire.entry w with
  | some e =>
    if (d.findBlock e.key).isNone && blockCapacity ≤ d.tables.blocks.length then d.answer .full
    else ((d.onTables fun t => { t with blocks := Table.put BlockEntry.rank e t.blocks }).tellBlock e).answer .ok
  | none => d.answer .badArg

def Desk.eraseBlock (d : Desk) (key : BlockKey) : Desk :=
  d.onTables fun t => { t with blocks := Table.erase BlockEntry.rank key.rank t.blocks }

/-- DELETE (R55). -/
def Desk.deleteBlock (d : Desk) (w : BlockKeyWire) : Decision :=
  match BlockKeyWire.key w with
  | some key => if (d.findBlock key).isSome then (d.eraseBlock key).answer .ok else d.answer .notFound
  | none => d.answer .badArg

/-- CLEAR_ALL (R55). -/
def Desk.clearBlocks (d : Desk) : Decision := (d.onTables fun t => { t with blocks := [] }).answer .ok

/-- TABLE_READ by key (R55; the key's checks: R198). -/
def Desk.readBlock (d : Desk) (w : BlockKeyWire) : Decision :=
  match BlockKeyWire.key w with
  | some key => d.answerRead ((d.findBlock key).map fun e => e.wire.bytes)
  | none => d.answer .badArg

/-- TABLE_READ for the next entry after a key (R55). -/
def Desk.nextBlock (d : Desk) (w : BlockKeyWire) : Decision :=
  match BlockKeyWire.key w with
  | some key => d.answerRead ((Table.next BlockEntry.rank key.rank d.tables.blocks).map fun e => e.wire.bytes)
  | none => d.answer .badArg

end Sys2Proof.Machine
end

