-- ==== Sys2Proof/Machine/Upload.lean ====
section
/-! DEFINITION. The Upload Engine (chapter 10, R169 to R181). -/

namespace Sys2Proof.Machine

def Desk.onUpload (d : Desk) (f : Upload → Upload) : Desk := { d with upload := f d.upload }

/-- A frame is handed over to the tail of the upload send list. -/
def Desk.handUpload (d : Desk) (f : UploadFrame) : Desk := { d with uploadList := d.uploadList ++ [f] }

def UploadFrame.isBlock : UploadFrame → Bool
  | .block .. => true
  | .finish .. => false

/-- A JOURNAL_BLOCK frame still waiting to be sent is withdrawn. -/
def Desk.withdrawBlock (d : Desk) : Desk := { d with uploadList := d.uploadList.filter fun f => !f.isBlock }

def UploadState.isIdle : UploadState → Bool
  | .idle => true
  | _ => false

/-- How many records the next block carries (R173). -/
def Desk.blockCount (d : Desk) : Nat := min 16 (seqDistance d.journal.released d.upload.cut)

/-- A block is composed from released + 1 and handed over (R173). -/
def Desk.composeBlock (d : Desk) : Desk :=
  let first := seqForward d.journal.released 1
  let count := d.blockCount
  let records := (List.range count).filterMap fun i => d.journal.read (seqForward first i)
  (d.onUpload fun u =>
    { u with state := .sending, sent := seqForward d.journal.released count, block := some ⟨first, count⟩ }).handUpload
      (.block first count d.upload.cut records)

/-- The UPLOAD_END frame is handed over and the engine is IDLE (R175). -/
def Desk.finishUpload (d : Desk) : Desk :=
  (d.onUpload fun u => { u with state := .idle, sent := d.journal.released, block := none, takenTimer := none }).handUpload
    (.finish d.upload.cut d.journal.newest)

/-- An upload starts (R172). -/
def Desk.startUpload (d : Desk) : Desk :=
  let d := d.onUpload fun u => { u with waiting := none, cut := d.journal.newest }
  if d.journal.released = d.upload.cut then d.finishUpload else d.composeBlock

/-- A waiting upload may start: the engine IDLE, the desk CLOSED, the link ONLINE. -/
def Desk.uploadMayStart (d : Desk) : Bool := d.upload.state.isIdle && d.mode == .closed && !d.isOffline

/-- The test of a waiting upload (R171). -/
def Desk.tryWaitingUpload (d : Desk) : Desk := if d.upload.waiting.isSome && d.uploadMayStart then d.startUpload else d

/-- The clock's announcement of a changed minute: the arrival of the upload minute (R170). -/
def Desk.announceMinute (d : Desk) : Desk :=
  if d.settings.uploadMinute = some d.clock.minute then
    if d.uploadMayStart then d.startUpload else d.onUpload fun u => { u with waiting := some d.clock.day }
  else d

/-- The day-change event clears a flag whose waiting day it is later than (R171). -/
def Desk.uploadDayChange (d : Desk) (day : Nat) : Desk :=
  d.onUpload fun u => { u with waiting := u.waiting.filter fun w => !decide (w < day) }

/-- The upload stalls, and the UPLOAD_STALLED condition begins (R176, R180). In STALLED no frame of the upload is sent: a copy
of the block that still waits in the upload send list is withdrawn (log 25). -/
def Desk.stallUpload (d : Desk) : Desk :=
  (d.onUpload fun u => { u with state := .stalled, takenTimer := none }).withdrawBlock.reportCondition .uploadStalled true

/-- The link becomes OFFLINE: a SENDING upload stalls (R176). -/
def Desk.uploadLinkLost (d : Desk) : Desk := if d.upload.state == .sending then d.stallUpload else d

/-- Expiry of the TAKEN timer (R176). A timer that is stopped does not expire. -/
def Desk.takenExpiry (d : Desk) : Desk :=
  if d.upload.state == .sending && d.upload.takenTimer.isSome then d.stallUpload else d

/-- The report that a block's frame has been sent in full (R173). -/
def Desk.blockSent (d : Desk) (first count : Nat) : Desk :=
  if d.upload.state == .sending && d.upload.block == some ⟨first, count⟩ then
    d.onUpload fun u => { u with takenTimer := some d.settings.takenTimeout }
  else d

/-! ## Requests -/

/-- UPLOAD_START (R172). -/
def Desk.uploadStart (d : Desk) : Decision :=
  if d.upload.state.isIdle then d.startUpload.answer .ok else d.answer .badState

/-- The block in flight is taken (R174). -/
def Desk.takeBlock (d : Desk) (b : BlockInFlight) : Desk :=
  let d := (d.onUpload fun u => { u with takenTimer := none, block := none }).withdrawBlock.release b.first b.count
  if d.journal.released = d.upload.cut then d.finishUpload.tryWaitingUpload else d.composeBlock

/-- UPLOAD_TAKEN (R174). -/
def Desk.uploadTaken (d : Desk) (first : Word) (count : Byte) : Decision :=
  if d.upload.state.isIdle then d.answer .badState
  else if d.upload.block = some ⟨first.toNat, count.toNat⟩ then
    ((d.reportCondition .uploadStalled false).takeBlock ⟨first.toNat, count.toNat⟩).answer .ok
  else d.answer .badArg

/-- UPLOAD_RESUME (R177). -/
def Desk.uploadResume (d : Desk) : Decision :=
  if d.upload.state == .stalled then ((d.reportCondition .uploadStalled false).composeBlock).answer .ok
  else d.answer .badState

/-- UPLOAD_ABORT (R178). -/
def Desk.uploadAbort (d : Desk) : Decision :=
  if d.upload.state.isIdle then d.answer .badState
  else
    let d := (d.reportCondition .uploadStalled false).withdrawBlock
    let d := d.onUpload fun u =>
      { u with state := .idle, takenTimer := none, block := none, sent := d.journal.released }
    d.tryWaitingUpload.answer .ok

/-- A restart of any kind (R181). The upload send list is discarded with the link's queued frames. -/
def Desk.restartUpload (d : Desk) : Desk :=
  (d.onUpload fun _ =>
    { state := .idle, cut := d.journal.released, sent := d.journal.released, block := none, takenTimer := none,
      waiting := none }).reportCondition .uploadStalled false

end Sys2Proof.Machine
end

