-- ==== Sys2Proof/Machine/Clock.lean ====
section
/-! DEFINITION. The Desk Clock (chapter 2, R20 to R31): counting, settings, marks and the day-change event. -/

namespace Sys2Proof.Machine

/-- The day-change event (R21): the sweep starts (R70), old exceptions are pruned (R34), a waiting upload of an earlier day
is cleared (R171). -/
def Desk.dayChange (d : Desk) (day : Nat) : Desk :=
  (({ d with sweep := some ⟨day, .items none⟩ }).pruneExceptions day).uploadDayChange day

/-- A pending mark counts the seconds since it arrived (R26). -/
def PendingMark.older (p : PendingMark) : PendingMark := { p with elapsed := p.elapsed + 1 }

/-- The clock after a completed second (R20). -/
def Clock.count (c : Clock) : Clock :=
  let c : Clock :=
    { c with prescaler := 0, markAge := min (c.markAge + 1) 172801, pendingMark := c.pendingMark.map PendingMark.older }
  if c.second < 59 then { c with second := c.second + 1 }
  else if c.minute < 1439 then { c with second := 0, minute := c.minute + 1 }
  else { c with second := 0, minute := 0, day := min (c.day + 1) lastDay }

/-- What follows a change of the clock's day and minute: a day-change event when the day rose, and the announcement of a
changed minute (R21, R22). -/
def Desk.clockMoved (d : Desk) (old : Clock) : Desk :=
  let d := if old.day < d.clock.day then d.dayChange d.clock.day else d
  if old.day = d.clock.day && old.minute = d.clock.minute then d else d.announceMinute

/-- A completed second (R20, R21, R22, R29). -/
def Desk.second (d : Desk) : Desk := (({ d with clock := d.clock.count }).clockMoved d.clock).reportSync

/-! ## Settings of the clock (R27) -/

/-- A CLOCK_CHANGE record is made by CLOCK_SET always, and by a mark when the day differs. -/
def ClockCause.records (c : ClockCause) (dayDiffers : Bool) : Bool :=
  match c with
  | .set => true
  | _ => dayDiffers

/-- A mark of either kind makes the mark age 0. -/
def ClockCause.markAge (c : ClockCause) (age : Nat) : Nat :=
  match c with
  | .set => age
  | _ => 0

/-- The clock is set (R27). Any pending mark is gone after it: applied, replaced or discarded. The order of the effects of
this one change is log 9. -/
def Desk.setClock (d : Desk) (cause : ClockCause) (day minute second : Nat) : Desk :=
  let old := d.clock
  let new : Clock := { day := day, minute := minute, second := second, prescaler := 0, markAge := cause.markAge old.markAge,
                       pendingMark := none }
  let d := ({ d with clock := new }).clockMoved old
  let d := if cause.records (day != old.day) then d.appendPlain none (.clockChange cause) else d
  d.reportSync

def secondsOf (day minute second : Nat) : Nat := day * 86400 + minute * 60 + second

def Clock.seconds (c : Clock) : Nat := secondsOf c.day c.minute c.second

/-- The last second of day 65,535. -/
def lastSecond : Nat := 65535 * 86400 + 86399

/-- The count of seconds at which the pending mark would be applied now (R26). -/
def PendingMark.due (p : PendingMark) : Nat := min (secondsOf p.day p.minute p.second + p.elapsed) lastSecond

/-- Day, minute and second of a count of seconds. -/
def clockOf (seconds : Nat) : Nat × Nat × Nat := (seconds / 86400, seconds % 86400 / 60, seconds % 60)

/-- The desk becoming CLOSED applies a pending mark, advanced by its elapsed seconds (R26). -/
def Desk.applyPendingMark (d : Desk) : Desk :=
  match d.clock.pendingMark with
  | some p =>
    let t := clockOf p.due
    d.setClock .pendingMark t.1 t.2.1 t.2.2
  | none => d

/-! ## Requests -/

def clockArgs (minute : Half) (second : Byte) : Bool := minute.toNat ≤ 1439 && second.toNat ≤ 59

/-- The difference of R25. -/
def absDiff (a b : Nat) : Nat := (a - b) + (b - a)

/-- TIME_MARK (R24, R25). -/
def Desk.timeMark (d : Desk) (day minute : Half) (second : Byte) : Decision :=
  if !clockArgs minute second then d.answer .badArg
  else if d.settings.timeSource == .localTime then d.answer .ok
  else
    let within := absDiff (secondsOf day.toNat minute.toNat second.toNat) d.clock.seconds ≤ d.settings.stepLimit * 60
    if d.mode == .closed || within then (d.setClock .mark day.toNat minute.toNat second.toNat).answer .ok
    else
      let mark : PendingMark := ⟨day.toNat, minute.toNat, second.toNat, 0⟩
      (({ d with clock := { d.clock with pendingMark := some mark } }).raiseAlarm .clockDispute).answer .badState

/-- CLOCK_SET (R28). -/
def Desk.clockSet (d : Desk) (day minute : Half) (second : Byte) : Decision :=
  if clockArgs minute second then (d.setClock .set day.toNat minute.toNat second.toNat).answer .ok else d.answer .badArg

end Sys2Proof.Machine
end

