-- ==== Sys2Proof/Machine/Scan.lean ====
section
/-! DEFINITION. The wand receivers, pairing and repeat suppression at one station (chapter 1, R1 to R9). -/

namespace Sys2Proof.Machine

/-- The character gap timer's duration, ms (R1). -/
def characterGap : Nat := 20

def scanQueueCapacity : Nat := 4

/-- A read error: the frame is discarded and counted, and the receiver hunts (R2). -/
def ScanStation.readError (s : ScanStation) : ScanStation :=
  { s with wand := .hunting, gapTimer := none, readErrors := saturate16 (s.readErrors + 1) }

/-- A new frame begins. -/
def ScanStation.openFrame (s : ScanStation) : ScanStation := { s with wand := .inFrame [], gapTimer := some characterGap }

/-- The digit that a character is, 30h to 39h. -/
def digitChar (b : Byte) : Option Digit := if 0x30 ≤ b.toNat then digitOf (b.toNat - 0x30) else none

/-- A character in IN_FRAME, with the read it completes (R1). -/
def ScanStation.frameCharacter (s : ScanStation) (digits : Code) (c : Option Byte) : ScanStation × Option Code :=
  match c with
  | some b =>
    if b = 0x02 then (s.readError.openFrame, none)
    else if b = 0x0d then
      if 6 ≤ digits.length then ({ s with wand := .hunting, gapTimer := none }, some digits) else (s.readError, none)
    else
      match digitChar b with
      | some x =>
        if digits.length ≤ 15 then ({ s with wand := .inFrame (digits ++ [x]), gapTimer := some characterGap }, none)
        else (s.readError, none)
      | none => (s.readError, none)
  | none => (s.readError, none)

/-- A character at the wand receiver, with the read it completes (R1); none is a character with a framing error. -/
def ScanStation.character (s : ScanStation) (c : Option Byte) : ScanStation × Option Code :=
  match s.wand with
  | .hunting => if c = some 0x02 then (s.openFrame, none) else (s, none)
  | .inFrame digits => s.frameCharacter digits c

/-- Expiry of the character gap timer (R2). -/
def ScanStation.gapExpiry (s : ScanStation) : ScanStation :=
  match s.wand with
  | .inFrame _ => s.readError
  | .hunting => s

/-- A read becomes the candidate with count 1, and the pairing timer starts. -/
def ScanStation.newCandidate (s : ScanStation) (window : Nat) (c : Code) : ScanStation :=
  { s with candidate := some ⟨c, 1⟩, pairingTimer := some window }

/-- The candidate becomes absent and the pairing timer stops. -/
def ScanStation.dropCandidate (s : ScanStation) : ScanStation := { s with candidate := none, pairingTimer := none }

/-- A read at the pairing stage, with whether its code is read-accepted (R5). -/
def ScanStation.pair (s : ScanStation) (required window : Nat) (c : Code) : ScanStation × Bool :=
  match s.candidate with
  | none => if required ≤ 1 then (s, true) else (s.newCandidate window c, false)
  | some k =>
    if k.code = c then
      if required ≤ k.count + 1 then (s.dropCandidate, true)
      else ({ s with candidate := some ⟨c, k.count + 1⟩ }, false)
    else (s.newCandidate window c, false)

/-- Expiry of the pairing timer (R6). A timer that is stopped does not expire. -/
def ScanStation.pairingExpiry (s : ScanStation) : ScanStation := if s.pairingTimer.isSome then s.dropCandidate else s

/-- A read-accepted code equal to the memory is dropped while the suppression timer runs (R8). -/
def ScanStation.suppresses (s : ScanStation) (c : Code) : Bool := s.suppression == some c && s.suppressionTimer.isSome

/-- A code placed in the scan queue is written to the suppression memory; a window of 0 starts no timer (R8). -/
def ScanStation.remember (s : ScanStation) (window : Nat) (c : Code) : ScanStation :=
  { s with suppression := some c, suppressionTimer := if window = 0 then none else some window }

/-- Expiry of the suppression timer (R8). -/
def ScanStation.suppressionExpiry (s : ScanStation) : ScanStation := { s with suppressionTimer := none }

/-- What the unit does when the station becomes DISABLED (R4). -/
def ScanStation.disable (s : ScanStation) : ScanStation :=
  { s with wand := .hunting, gapTimer := none, candidate := none, pairingTimer := none, queue := [] }

end Sys2Proof.Machine
end

