-- ==== Sys2Proof/Machine/Slips.lean ====
section
/-! DEFINITION. The Slip Printer Controller (chapter 8, R137 to R153). -/

namespace Sys2Proof.Machine

/-! ## Composition (R137 to R139) -/

def lineDate (day : Nat) : Option CivilDate := some (civilDate day)

/-- The ITEM line of a LENT or RENEWED entry (R137, R138); a RETURNED entry has none. -/
def ListEntry.line : ListEntry → Option LineRecord
  | .lent c due _ _ => some (.item (Code.lastDigits 8 c) (lineDate due.day) due.minute)
  | .renewed c due => some (.item (Code.lastDigits 8 c) (lineDate due.day) due.minute)
  | .returned _ => none

/-- The loan slip of a session, none when its list holds no LENT or RENEWED entry (R138). -/
def Session.loanSlip (x : Session) (st : StationId) : Option SlipJob :=
  let lines := x.items.filterMap ListEntry.line
  if lines.isEmpty then none
  else some { kind := .loan, reprint := false, station := st, borrower := x.borrower,
              lines := [.header, .borrower (Code.shortNumber x.borrower)] ++ lines ++ [.total lines.length, .footer] }

/-- The hold slip of an item routed to the hold shelf (R139). -/
def holdSlip (st : StationId) (holdBorrower item : Code) (pickup : Nat) : SlipJob :=
  { kind := .hold item, reprint := false, station := st, borrower := holdBorrower,
    lines := [.header, .hold (Code.shortNumber holdBorrower) (civilDate pickup),
      .item (Code.lastDigits 8 item) none none, .footer] }

/-- The lines as they are sent: a marked job has a REPRINT line after the HEADER (R146). -/
def SlipJob.sendLines (j : SlipJob) : List LineRecord :=
  if j.reprint then
    match j.lines with
    | first :: rest => first :: .reprint :: rest
    | [] => []
  else j.lines

/-! ## Parts of the controller -/

def queueCapacity : Nat := 8

def Desk.assigned (d : Desk) (st : StationId) : PrinterId := (d.stationSettings.get st).printer

def Desk.onSlips (d : Desk) (f : Slips → Slips) : Desk := { d with slips := f d.slips }

def Desk.deferredAt (d : Desk) (st : StationId) : Option SlipJob := d.slips.deferrals.find? fun j => j.station == st

def PrinterStatus.failed : PrinterStatus → Bool
  | .paperOut => true
  | .offline => true
  | _ => false

def faultAlarm : PrinterId → AlarmId
  | .p0 => .printer0Fault
  | .p1 => .printer1Fault

/-- The printer's queue has room for a job. -/
def Desk.queueRoom (d : Desk) (p : PrinterId) : Bool := (d.printer p).queue.length < queueCapacity

def Desk.enqueueJob (d : Desk) (p : PrinterId) (j : SlipJob) : Desk :=
  d.onPrinter p fun x => { x with queue := x.queue ++ [j] }

/-! ## Places that free: deferred slips first, then failover (R143, R149) -/

/-- The oldest deferred slip whose station is assigned to a printer is placed in its queue, and SLIP_WAITING is removed. -/
def Desk.placeOneDeferred (d : Desk) (p : PrinterId) : Desk :=
  match d.slips.deferrals.find? fun j => d.assigned j.station == p with
  | some j =>
    if d.queueRoom p then
      ((d.onSlips fun s => { s with deferrals := s.deferrals.filter fun x => x.station != j.station }).enqueueJob p
        j).removePrompt j.station .slipWaiting
    else d
  | none => d

/-- Places of a printer's queue are given to deferred slips while both remain (R143). -/
def Desk.placeDeferred (d : Desk) (p : PrinterId) : Desk :=
  Nat.repeat (fun d => d.placeOneDeferred p) d.slips.deferrals.length d

/-- The pass through a failed printer's queue: at most `room` jobs of AUTOMATIC stations are taken, in order; the rest stay. -/
def passQueue (automatic : SlipJob → Bool) : Nat → List SlipJob → List SlipJob × List SlipJob
  | _, [] => ([], [])
  | 0, js => ([], js)
  | room + 1, j :: js =>
    if automatic j then
      let r := passQueue automatic room js
      (j :: r.1, r.2)
    else
      let r := passQueue automatic (room + 1) js
      (r.1, j :: r.2)

def Desk.isAutomatic (d : Desk) (st : StationId) : Bool := (d.stationSettings.get st).failover == .automatic

/-- Jobs move from a failed printer to the other one (R149). -/
def Desk.failoverFrom (d : Desk) (x : PrinterId) : Desk :=
  let y := x.other
  match (d.printer x).queue with
  | head :: _ =>
    if (d.printer x).status.failed && !(d.printer y).status.failed && d.isAutomatic head.station then
      let r := passQueue (fun j => d.isAutomatic j.station) (queueCapacity - (d.printer y).queue.length) (d.printer x).queue
      (d.onPrinter x fun q => { q with queue := r.2 }).onPrinter y fun q => { q with queue := q.queue ++ r.1 }
    else d
  | [] => d

/-- One round: deferred slips take the free places of both queues, then failover moves what it can. -/
def Desk.slipRound (d : Desk) : Desk := (((d.placeDeferred .p0).placeDeferred .p1).failoverFrom .p0).failoverFrom .p1

/-- A READY printer with a job starts its head job at the first line (R146). -/
def Desk.startPrinter (d : Desk) (p : PrinterId) : Desk :=
  d.onPrinter p fun x =>
    match x.status, x.queue with
    | .ready, j :: _ => { x with status := .busy, position := 0, sending := j.sendLines.head?, lineTimer := none }
    | _, _ => x

/-- What follows a change of the queues, the printers' states, the assignments or the failovers. A later round moves more
only when a deferred slip was placed in the one before, and there are at most four of those: five rounds settle it. -/
def Desk.settleSlips (d : Desk) : Desk := ((Nat.repeat Desk.slipRound 5 d).startPrinter .p0).startPrinter .p1

/-! ## Hand-over and discards (R142, R144) -/

def SlipKind.item : SlipKind → Option Code
  | .loan => none
  | .hold c => some c

/-- A discard appends a SLIP_DISCARDED record (R144). -/
def Desk.discardSlip (d : Desk) (j : SlipJob) (cause : SlipCause) : Desk :=
  d.appendPlain (some j.station) (.slipDiscarded j.borrower j.kind.item cause)

/-- A job becomes its station's deferred slip. -/
def Desk.deferSlip (d : Desk) (j : SlipJob) : Desk :=
  (d.onSlips fun s => { s with deferrals := s.deferrals ++ [j] }).post j.station (.slipWaiting (d.assigned j.station))

/-- R142: the first case that applies. -/
def Desk.handOver (d : Desk) (j : SlipJob) : Desk :=
  if (d.deferredAt j.station).isSome then d.discardSlip j .deferredHeld
  else if d.queueRoom (d.assigned j.station) then (d.enqueueJob (d.assigned j.station) j).settleSlips
  else if (d.context j.station).isOpen then d.discardSlip j .queueFull
  else d.deferSlip j

/-- A composed slip replaces the station's last-slip copy before it is handed over (R140). -/
def Desk.keepCopy (d : Desk) (j : SlipJob) : Desk :=
  d.onSlips fun s => { s with lastSlips := s.lastSlips.set j.station (some j) }

/-- REPRINT (R140). -/
def Desk.reprint (d : Desk) (st : StationId) : Desk :=
  match d.slips.lastSlips.get st with
  | some j => d.handOver { j with reprint := true, station := st }
  | none => d

/-- SKIP_SLIP (R144). -/
def Desk.skipSlip (d : Desk) (st : StationId) : Desk :=
  match d.deferredAt st with
  | some j =>
    ((d.onSlips fun s => { s with deferrals := s.deferrals.filter fun x => x.station != st }).removePrompt st
      .slipWaiting).discardSlip j .skipped
  | none => d

/-! ## The printer line (R145 to R148, R150) -/

/-- A line has been sent: its line timer starts (R146). -/
def Desk.lineSent (d : Desk) (p : PrinterId) : Desk :=
  d.onPrinter p fun x =>
    if x.sending.isSome then
      { x with sending := none, lineTimer := if x.status == .busy then some (d.settings.lineTimeout.get p) else none }
    else x

/-- The line in flight counts as printed: the next is sent, or the job is complete and leaves the queue (R146). -/
def Printer.linePrinted (x : Printer) : Printer :=
  match x.queue with
  | j :: rest =>
    match j.sendLines[x.position + 1]? with
    | some line => { x with position := x.position + 1, sending := some line, lineTimer := none }
    | none => { x with status := .ready, queue := rest, position := 0, sending := none, lineTimer := none }
  | [] => { x with status := .ready, position := 0, sending := none, lineTimer := none }

/-- A READY answer (R147, R150). -/
def Desk.readyAnswer (d : Desk) (p : PrinterId) : Desk :=
  match (d.printer p).status with
  | .ready => d
  | .busy => (d.onPrinter p Printer.linePrinted).settleSlips
  | _ => ((d.onPrinter p fun x => { x with status := .ready }).reportCondition (faultAlarm p) false).settleSlips

/-- The head job of a BUSY printer is interrupted (R148). -/
def Printer.interrupt (x : Printer) : Printer :=
  match x.status with
  | .busy =>
    { x with
      queue := match x.queue with
        | j :: rest => { j with reprint := j.reprint || 0 < x.position } :: rest
        | [] => []
      position := 0
      sending := none
      lineTimer := none }
  | _ => x

/-- The printer becomes PAPER_OUT or OFFLINE, or stays so (R147, R150). -/
def Desk.printerFails (d : Desk) (p : PrinterId) (s : PrinterStatus) : Desk :=
  ((d.onPrinter p fun x => { x.interrupt with status := s }).reportCondition (faultAlarm p) true).settleSlips

/-- A PAPER_OUT answer (R147). -/
def Desk.paperOutAnswer (d : Desk) (p : PrinterId) : Desk := d.printerFails p .paperOut

/-- A FAULT answer (R147). -/
def Desk.faultAnswer (d : Desk) (p : PrinterId) : Desk := d.printerFails p .offline

/-- A character on a printer's receive input: R and P are their answers, any other and a framing error a FAULT (R145). -/
def Desk.printerCharacter (d : Desk) (p : PrinterId) (c : Option Byte) : Desk :=
  if c = some 0x52 then d.readyAnswer p else if c = some 0x50 then d.paperOutAnswer p else d.faultAnswer p

/-- Expiry of the line timer (R147). A timer that is stopped does not expire. -/
def Desk.lineExpiry (d : Desk) (p : PrinterId) : Desk :=
  if (d.printer p).status == .busy && (d.printer p).lineTimer.isSome then d.printerFails p .offline else d

/-! ## Writes of the assignment and the failover (R141, R143, R149) -/

/-- A write of the printer assignment offers the station's deferred slip to the new printer; still deferred after a change,
the slip has SLIP_WAITING posted again (R143; a write that changes nothing: log 21). -/
def Desk.assignPrinter (d : Desk) (st : StationId) (p : PrinterId) : Desk :=
  let changed := d.assigned st != p
  let d := (d.onStationSettings st fun x => { x with printer := p }).settleSlips
  if changed && (d.deferredAt st).isSome then d.post st (.slipWaiting p) else d

def Desk.setFailover (d : Desk) (st : StationId) (f : Failover) : Desk :=
  (d.onStationSettings st fun x => { x with failover := f }).settleSlips

/-! ## Restarts (R152) -/

/-- Queues, deferred slips and printer states after a restart of any kind; the last-slip copies as given. -/
def Desk.restartSlips (d : Desk) (copies : PerStation (Option SlipJob)) : Desk :=
  (({ d with slips := { printers := ⟨.restart, .restart⟩, deferrals := [], lastSlips := copies } }).reportCondition
    .printer0Fault false).reportCondition .printer1Fault false

end Sys2Proof.Machine
end

