-- ==== Sys2Proof/Machine/Sessions.lean ====
section
/-! DEFINITION. The Circulation Engine's station states: opening and ending sessions, the security pads, and the desk mode's
change to CLOSED (chapter 5, R77 to R86, R99 to R102; R133 for the arbiters). -/

namespace Sys2Proof.Machine

/-! ## Station states -/

/-- The engine tells the station's arbiter of a change of station state (R133). -/
def Desk.tellStation (d : Desk) (st : StationId) : Desk :=
  if (d.context st).serving then
    if d.journalFull && !(d.arbiters.get st).has .journalFull then d.post st .journalFull else d
  else if (d.arbiters.get st).has .journalFull then d.removePrompt st .journalFull
  else d

/-- The station's state changes, and its arbiter is told. -/
def Desk.setContext (d : Desk) (st : StationId) (c : Context) : Desk :=
  (d.onStation st fun x => { x with context := c }).tellStation st

/-- A change within an open session that leaves the station's state as it is. -/
def Desk.onSession (d : Desk) (st : StationId) (f : Session → Session) : Desk :=
  d.onStation st fun x =>
    { x with
      context := match x.context with
        | .opened s => .opened (f s)
        | c => c }

/-- The borrower entry of a session's card. A session's card always has one (log 11). -/
def Desk.sessionEntry (d : Desk) (card : Code) : Borrower :=
  (d.borrower card).getD
    { card := card, category := 0, loansHeld := 0, holdsReady := 0, finesOwed := 0, expiryDay := 0, provisional := false }

/-- SESSION_OPEN with the card's short number and the counts of its entry (R84, R97). -/
def Desk.postSessionOpen (d : Desk) (st : StationId) (card : Code) : Desk :=
  let b := d.sessionEntry card
  d.post st (.sessionOpen (Code.shortNumber card) b.loansHeld b.holdsReady b.finesOwed)

/-- The session opens (R84, step 6); with a REFER winner REFER is posted as well. JOURNAL_FULL, when it holds, is posted with the
change of state and so before SESSION_OPEN (log 16). -/
def Desk.openSession (d : Desk) (st : StationId) (card : Code) (winner : Option BlockEntry) : Desk :=
  let session : Session :=
    { borrower := card, provisional := (d.sessionEntry card).provisional, items := [], arm := none,
      idleTimer := (d.stationSettings.get st).idleTimeout }
  let d := (d.setContext st (.opened session)).postSessionOpen st card
  match winner with
  | some e => if e.action == .refer then d.post st (.refer e.reason) else d
  | none => d

/-- A block check made for a card scan or at the end of a lookup: with a REFUSE winner BORROWER_BLOCKED is posted and no
session opens, else `served` goes on with the winner (R84, R85). -/
def Desk.screened (d : Desk) (st : StationId) (card : Code) (refused : Desk → Desk)
    (served : Desk → Option BlockEntry → Desk) : Desk :=
  let winner := d.blockCheck card
  let d := d.blockNotice st card winner
  match winner with
  | some e => if e.action == .refuse then (refused d).post st (.borrowerBlocked e.reason) else served d winner
  | none => served d none

/-! ## The desk becomes CLOSED (R77, R78) -/

/-- The mode becomes CLOSED: a DESK_MODE record, then the clock and the Upload Engine are told (log 8). -/
def Desk.becomeClosed (d : Desk) : Desk :=
  ((({ d with mode := .closed, closingTimer := none }).appendPlain none (.deskMode .closed)).applyPendingMark).tryWaitingUpload

/-- The test of R78: in CLOSING, with no station OPEN or in LOOKUP, the mode becomes CLOSED. -/
def Desk.testClosing (d : Desk) : Desk := if d.mode == .closing && !d.anyServing then d.becomeClosed else d

/-! ## The end of a session (R99) -/

/-- Steps 1 to 4 of R99, the station becoming `next`: IDLE, or DISABLED when disabling is the cause. -/
def Desk.endSession (d : Desk) (st : StationId) (x : Session) (next : Context) : Desk :=
  let slip := if (d.stationSettings.get st).slipPrinting then x.loanSlip st else none
  let d := match slip with
    | some j => d.keepCopy j
    | none => d
  let d := (d.post st (.sessionEnd (x.items.countP fun e => !e.isReturned))).setContext st next
  match slip with
  | some j => d.handOver j
  | none => d

/-- The session of an OPEN station ends as by END, with the test of R78. -/
def Desk.closeSession (d : Desk) (st : StationId) : Desk :=
  match d.context st with
  | .opened x => (d.endSession st x .idle).testClosing
  | _ => d

/-! ## Lookups begin and are left (R46, R85) -/

/-- The station enters LOOKUP: its timer, its LOOKUP frame and its prompt. JOURNAL_FULL, when it holds, is posted with the change
of state and so before LOOKUP_WAIT: R132 gives the two no order (log 16). -/
def Desk.enterLookup (d : Desk) (st : StationId) (card : Code) (category : Nat) : Desk :=
  let record : Lookup := { card := card, category := category, timer := d.settings.lookupTimeout }
  let d := d.setContext st (.lookup record)
  ({ d with lookupList := d.lookupList ++ [LookupFrame.mk st card] }).post st .lookupWait

/-- What leaving LOOKUP does whatever the path: a waiting LOOKUP frame is withdrawn and LOOKUP_WAIT is cleared. -/
def Desk.dropLookup (d : Desk) (st : StationId) : Desk :=
  ({ d with lookupList := d.lookupList.filter fun f => f.station != st }).removePrompt st .lookupWait

/-- A lookup is abandoned, or ends without a session: the station becomes `next`. LOOKUP_WAIT goes before the change of state,
which removes JOURNAL_FULL: R132 gives the two no order (log 16). -/
def Desk.leaveLookup (d : Desk) (st : StationId) (next : Context) : Desk := (d.dropLookup st).setContext st next

/-! ## The security pad (R102) -/

def Desk.desensitise (d : Desk) (st : StationId) : Desk :=
  d.onStation st fun x => { x with pad := .desensitising (d.stationSettings.get st).padPulse }

def Desk.resensitise (d : Desk) (st : StationId) : Desk :=
  d.onStation st fun x => { x with pad := .resensitising (d.stationSettings.get st).padPulse }

def Desk.padQuiet (d : Desk) (st : StationId) : Desk := d.onStation st fun x => { x with pad := .quiet }

/-! ## Timers of an open session (R82, R89) -/

/-- The override arm's 60 s expiry clears it. -/
def Desk.armExpiry (d : Desk) (st : StationId) : Desk := d.onSession st fun x => { x with arm := none }

/-! ## Restarts (R101) -/

/-- Each station after a restart: IDLE, or DISABLED where its setting is no, with mode LOAN and its pad QUIET. -/
def EngineStation.restart (enabled : Bool) : EngineStation :=
  { context := if enabled then .idle else .disabled, mode := .loan, pad := .quiet }

def Desk.restartEngine (d : Desk) : Desk :=
  { d with
    mode := .closed
    closingTimer := none
    stations :=
      ⟨.restart d.stationSettings.st0.enabled, .restart d.stationSettings.st1.enabled, .restart d.stationSettings.st2.enabled,
        .restart d.stationSettings.st3.enabled⟩ }

end Sys2Proof.Machine
end

