-- ==== Sys2Proof/Machine/Lending.lean ====
section
/-! DEFINITION. Loans, renewals and CANCEL_LAST (chapter 5, R87 to R90, R95 to R97). -/

namespace Sys2Proof.Machine

/-! ## Checks in order, with the override arm (R87, R89, R95) -/

/-- One check: whether it fails, its reason, and whether an override may pass over it. -/
structure Check where
  fails : Bool
  reason : RefusalReason
  overridable : Bool
  deriving DecidableEq, Repr

/-- What the checks decide: made, with the reason passed over under the arm if any, or refused with a reason. -/
inductive Judgement
  | made (passedOver : Option RefusalReason)
  | refused (reason : RefusalReason)
  deriving DecidableEq, Repr

/-- The checks in order: the first failure refuses, except that a set arm passes over the first overridable one (R89). -/
def judge (armed : Bool) : Option RefusalReason → List Check → Judgement
  | passed, [] => .made passed
  | passed, c :: cs =>
    if !c.fails then judge armed passed cs
    else if armed && c.overridable && passed.isNone then judge armed (some c.reason) cs
    else .refused c.reason

def blockWinnerIs (winner : Option BlockEntry) (a : BlockAction) : Bool :=
  match winner with
  | some e => e.action == a
  | none => false

/-! ## What a decision reads -/

/-- The effective item class: the entry's, else the scan's default (R62). -/
def effectiveClass (entry : Option ItemEntry) (scanned : Nat) : Nat := (entry.bind ItemEntry.itemClass).getD scanned

/-- The class under which a LENT entry counts for check 15, none when it counts under no class (R87). -/
def Desk.lentClass (d : Desk) (code : Code) : Option Nat :=
  match (d.item code).bind ItemEntry.itemClass with
  | some c => some c
  | none => d.classifiedItemClass code

/-- The LENT entries of a session under a class. -/
def Desk.lentOfClass (d : Desk) (x : Session) (itemClass : Nat) : Nat :=
  x.items.countP fun e => e.isLent && d.lentClass e.code == some itemClass

def Session.lentCount (x : Session) : Nat := x.items.countP ListEntry.isLent

def Session.lists (x : Session) (code : Code) : Bool := x.items.any fun e => e.code == code

/-- The item stands in the list of a station other than this one. -/
def Desk.listedElsewhere (d : Desk) (st : StationId) (code : Code) : Bool :=
  StationId.list.any fun s => s != st && (d.context s).lists code

def sessionListCapacity : Nat := 24

/-- Checks 4 to 18 of R87, against the item as the lapse left it. -/
def Desk.loanChecks (d : Desk) (x : Session) (item : Code) (scanned : Nat) : List Check :=
  let b := d.sessionEntry x.borrower
  let c := d.category b.category
  let winner := d.blockCheck x.borrower
  let entry := d.item item
  let status := entry.map ItemEntry.status
  let itemClass := effectiveClass entry scanned
  let rule := d.rule b.category itemClass
  let classLimit := (rule.map LoanRule.classLimit).getD 0
  [ ⟨!d.loanRoom, .journalFull, false⟩,
    ⟨blockWinnerIs winner .refuse, .blocked, false⟩,
    ⟨blockWinnerIs winner .refer, .refer, true⟩,
    ⟨b.expiryDay + c.expiryGrace < d.clock.day, .expired, true⟩,
    ⟨status == some .reference || status == some .withdrawn, .notLendable, false⟩,
    ⟨(match status with | some (.missing _) => true | _ => false), .statusCheck, true⟩,
    ⟨(match status with | some (.onLoan holder _ _ _) => holder != x.borrower | _ => false), .onLoanOther, false⟩,
    ⟨(match status with | some (.onLoan holder _ _ _) => holder == x.borrower | _ => false), .alreadyOnLoan, false⟩,
    ⟨(match status with
      | some (.holdPending hold) => hold != x.borrower
      | some (.onHoldShelf hold _) => hold != x.borrower
      | _ => false), .heldForOther, true⟩,
    ⟨rule.isNone, .notLendable, false⟩,
    ⟨c.maxLoans ≤ b.loansHeld, .loanLimit, b.loansHeld != 99⟩,
    ⟨classLimit != 0 && classLimit ≤ d.lentOfClass x itemClass, .classLimit, true⟩,
    ⟨c.finesLimit != 0 && c.finesLimit ≤ b.finesOwed, .finesLimit, true⟩,
    ⟨x.provisional && c.offlineCap ≤ x.lentCount, .offlineCap, false⟩,
    ⟨entry.isNone && itemCapacity ≤ d.tables.items.length, .tableFull, false⟩ ]

/-- The checks of R95, against the item as the lapse left it. -/
def Desk.renewalChecks (d : Desk) (x : Session) (item : Code) (scanned : Nat) : List Check :=
  let b := d.sessionEntry x.borrower
  let c := d.category b.category
  let winner := d.blockCheck x.borrower
  let entry := d.item item
  let status := (entry.map ItemEntry.status).getD .reference
  let rule := d.rule b.category (effectiveClass entry scanned)
  [ ⟨x.lists item, .alreadyInSession, false⟩,
    ⟨sessionListCapacity ≤ x.items.length, .sessionFull, false⟩,
    ⟨status.holder != some x.borrower, .notOnLoanToBorrower, false⟩,
    ⟨rule.isNone, .notLendable, false⟩,
    ⟨(rule.map LoanRule.renewalsAllowed).getD 0 ≤ status.renewalsUsed, .renewLimit, true⟩,
    ⟨status.hold.isSome, .heldForOther, true⟩,
    ⟨blockWinnerIs winner .refuse, .blocked, false⟩,
    ⟨blockWinnerIs winner .refer, .refer, true⟩,
    ⟨c.finesLimit != 0 && c.finesLimit ≤ b.finesOwed, .finesLimit, true⟩,
    ⟨!d.loanRoom, .journalFull, false⟩ ]

/-! ## Refusals (R88, R95) -/

/-- The block's reason code, which BLOCKED and REFER carry. -/
def Desk.refusalBlockReason (d : Desk) (card : Code) (r : RefusalReason) : Option Nat :=
  if r == .blocked || r == .refer then (d.blockCheck card).map BlockEntry.reason else none

/-- A refused loan or renewal: the prompt, then the REFUSAL record but for ALREADY_IN_SESSION; TABLE_FULL raises its alarm
first (R66, R87). -/
def Desk.refuseItem (d : Desk) (st : StationId) (x : Session) (item : Code) (r : RefusalReason) (act : RefusedAct) : Desk :=
  let d := if r == .tableFull then d.raiseAlarm .tableFull else d
  let d := d.post st (.loanRefused r (d.refusalBlockReason x.borrower r))
  if r == .alreadyInSession then d
  else d.append (some st) (.given false x.provisional false false) (.refusal x.borrower item r act)

/-! ## The loan (R90) -/

/-- After a loan or renewal: a failure passed over clears the arm and raises OVERRIDE_USED (R89). -/
def Desk.useArm (d : Desk) (st : StationId) (card item : Code) (passed : Option RefusalReason) : Desk :=
  match passed with
  | some r => (d.onSession st fun x => { x with arm := none }).raiseNotice (.overrideUsed st card item r)
  | none => d

/-- An entry is added at the tail of the session's item list. -/
def Desk.addEntry (d : Desk) (st : StationId) (e : ListEntry) : Desk :=
  d.onSession st fun x => { x with items := x.items ++ [e] }

/-- The hold that stays on a lent item: another borrower's (R90). -/
def keptHold (entry : Option ItemEntry) (borrower : Code) : Option Code :=
  (entry.bind fun e => e.status.hold).filter fun h => h != borrower

/-- An item leaves the hold shelf: its hold borrower's holds ready falls by 1 (R90). -/
def Desk.leaveShelf (d : Desk) (entry : Option ItemEntry) : Desk :=
  match entry with
  | some ⟨_, _, .onHoldShelf hold _⟩ => d.changeBorrower hold Borrower.holdDown
  | _ => d

/-- The effects of a loan that passed its checks (R90). -/
def Desk.lend (d : Desk) (st : StationId) (x : Session) (item : Code) (scanned : Nat) (passed : Option RefusalReason) :
    Desk :=
  let b := d.sessionEntry x.borrower
  let entry := d.item item
  match d.rule b.category (effectiveClass entry scanned) with
  | none => d
  | some rule =>
    let answer := (d.dueQuestion b.expiryDay).loanDue rule
    let lent : ItemEntry :=
      ⟨item, entry.bind ItemEntry.itemClass, .onLoan x.borrower answer.due 0 (keptHold entry x.borrower)⟩
    let d := ((d.putItem lent).leaveShelf entry).changeBorrower x.borrower Borrower.lendOne
    let d := d.append (some st) (.given passed.isSome x.provisional false answer.noOpenDay)
      (.loan x.borrower item answer.due)
    let d := (d.addEntry st (.lent item answer.due d.journal.newest entry)).useArm st x.borrower item passed
    (d.desensitise st).post st (.lent answer.due)

/-- An item taken at an OPEN station in LOAN mode (R87). -/
def Desk.loan (d : Desk) (st : StationId) (x : Session) (item : Code) (scanned : Nat) : Desk :=
  if sessionListCapacity ≤ x.items.length then d.refuseItem st x item .sessionFull .loan
  else if x.lists item then d.refuseItem st x item .alreadyInSession .loan
  else if d.listedElsewhere st item then d.refuseItem st x item .inUse .loan
  else
    let d := d.lapseAtRead st item
    match judge x.arm.isSome none (d.loanChecks x item scanned) with
    | .refused r => d.refuseItem st x item r .loan
    | .made passed => d.lend st x item scanned passed

/-! ## The renewal (R95, R96) -/

/-- One renewal more. The field holds 0 to 9: beyond that the spec states no value, and it is a free one (log 12). -/
def Desk.renewalCount (d : Desk) (n : Nat) : Nat := if n < 9 then n + 1 else min (Config.freeRenewalsUsed d.freeIndex) 9

/-- The effects of a renewal that passed its checks (R96). -/
def Desk.renew (d : Desk) (st : StationId) (x : Session) (item : Code) (scanned : Nat) (passed : Option RefusalReason) :
    Desk :=
  let b := d.sessionEntry x.borrower
  match d.item item, d.rule b.category (effectiveClass (d.item item) scanned) with
  | some ⟨code, cls, .onLoan holder due n hold⟩, some rule =>
    let answer := (d.dueQuestion b.expiryDay).renewalDue rule due
    let d := (d.putItem ⟨code, cls, .onLoan holder answer.due (d.renewalCount n) hold⟩).spendFree (decide (9 ≤ n))
    let d := d.append (some st) (.given passed.isSome x.provisional false answer.noOpenDay)
      (.renew x.borrower item answer.due)
    ((d.addEntry st (.renewed item answer.due)).useArm st x.borrower item passed).post st (.renewed answer.due)
  | _, _ => d

/-- An item taken at an OPEN station in RENEW mode (R95). -/
def Desk.renewal (d : Desk) (st : StationId) (x : Session) (item : Code) (scanned : Nat) : Desk :=
  let d := d.lapseAtRead st item
  match judge x.arm.isSome none (d.renewalChecks x item scanned) with
  | .refused r => d.refuseItem st x item r .renew
  | .made passed => d.renew st x item scanned passed

/-! ## CANCEL_LAST (R97) -/

/-- The newest LENT entry, with the list without it. -/
def takeNewestLent : List ListEntry → Option (ListEntry × List ListEntry)
  | [] => none
  | e :: es =>
    match takeNewestLent es with
    | some (found, rest) => some (found, e :: rest)
    | none => if e.isLent then some (e, es) else none

/-- The item entry returns to what it was before the loan (R97). -/
def Desk.restoreItem (d : Desk) (item : Code) (prior : Option ItemEntry) : Desk :=
  match prior with
  | some e =>
    match e.status with
    | .onHoldShelf hold _ => (d.putItem e).changeBorrower hold Borrower.holdUp
    | _ => d.putItem e
  | none => d.eraseItem item

/-- The effects of a cancel (R97). -/
def Desk.undoLoan (d : Desk) (st : StationId) (x : Session) (item : Code) (seq : Nat) (prior : Option ItemEntry)
    (rest : List ListEntry) : Desk :=
  let d := (d.restoreItem item prior).changeBorrower x.borrower Borrower.returnOne
  let d := d.appendPlain (some st) (.cancel x.borrower item seq)
  ((d.onSession st fun s => { s with items := rest }).resensitise st).postSessionOpen st x.borrower

/-- CANCEL_LAST at an OPEN station; the refusals in the order of R97, the read of R72 between them (log 16). -/
def Desk.cancelLast (d : Desk) (st : StationId) (x : Session) : Desk :=
  match takeNewestLent x.items with
  | some (.lent item _ seq prior, rest) =>
    let d := d.lapseAtRead st item
    if d.anyRoom then d.undoLoan st x item seq prior rest else d.refuse st .journalFull
  | _ => d.refuse st .nothingToCancel

end Sys2Proof.Machine
end

