-- ==== Sys2Proof/Machine/Returns.lean ====
section
/-! DEFINITION. Returns (chapter 5, R91 to R94). -/

namespace Sys2Proof.Machine

/-- The session of the station is provisional at this moment. -/
def Desk.isProvisional (d : Desk) (st : StationId) : Bool :=
  match d.context st with
  | .opened x => x.provisional
  | _ => false

/-- The RETURN record (R93, R154). -/
def Desk.recordReturn (d : Desk) (st : StationId) (item : Code) (found : Bool) (loan : Option ReturnedLoan) : Desk :=
  d.append (some st) (.given false (d.isProvisional st) found false) (.ret item loan)

/-- A RETURNED entry, at an OPEN station whose list has room (R94). -/
def Desk.listReturn (d : Desk) (st : StationId) (item : Code) : Desk :=
  match d.context st with
  | .opened x => if x.items.length < sessionListCapacity then d.addEntry st (.returned item) else d
  | _ => d

/-- What every return that makes a RETURN record ends with: RETURNED when there is a fine, and the list entry (R94). -/
def Desk.concludeReturn (d : Desk) (st : StationId) (item : Code) (fine : Nat) : Desk :=
  (if 0 < fine then d.post st (.returned fine) else d).listReturn st item

/-- The holder's part of the return of an ON_LOAN entry (R93). -/
def Desk.settleLoan (d : Desk) (l : ReturnedLoan) : Desk :=
  d.changeBorrower l.holder fun b => (b.returnOne).fine l.fine

/-- What an ON_LOAN entry's return carries (R116 to R119). -/
def Desk.returnedLoan (d : Desk) (entry : ItemEntry) (scanned : Nat) (holder : Code) (due : Due) : ReturnedLoan :=
  let r := d.reckonReturn due (d.fineTerms holder (effectiveClass (some entry) scanned))
  { holder := holder, due := due, fine := r.2, lateUnits := r.1 }

/-- A return that leaves the item absent from the table, or leaves the table as it is (R93). -/
def Desk.returnPlain (d : Desk) (st : StationId) (item : Code) (found : Bool) (loan : Option ReturnedLoan) : Desk :=
  ((d.recordReturn st item found loan).resensitise st).concludeReturn st item ((loan.map ReturnedLoan.fine).getD 0)

/-- A return that routes the item to the hold shelf (R93, R94, R115). -/
def Desk.returnRouted (d : Desk) (st : StationId) (entry : ItemEntry) (hold : Code) (found : Bool)
    (loan : Option ReturnedLoan) : Desk :=
  let item := entry.code
  let pickup := d.pickupDay hold
  let d := (d.putItem { entry with status := .onHoldShelf hold pickup.1 }).changeBorrower hold Borrower.holdUp
  let d := (d.recordReturn st item found loan).append (some st) (.given false false false pickup.2)
    (.holdRouted hold item pickup.1)
  let slip := holdSlip st hold item pickup.1
  let d := ((d.resensitise st).post st (.holdFor (Code.shortNumber hold) pickup.1)).raiseNotice (.holdRouted st item hold)
  ((d.keepCopy slip).handOver slip).concludeReturn st item ((loan.map ReturnedLoan.fine).getD 0)

/-- A return that passed its checks, by the item entry (R93). -/
def Desk.returnEntry (d : Desk) (st : StationId) (item : Code) (scanned : Nat) : Desk :=
  match d.item item with
  | none => d.returnPlain st item false none
  | some e =>
    match e.status with
    | .onLoan holder due _ hold =>
      let l := d.returnedLoan e scanned holder due
      match hold with
      | none => ((d.settleLoan l).eraseItem item).returnPlain st item false (some l)
      | some h => (d.settleLoan l).returnRouted st e h false (some l)
    | .missing none => (d.eraseItem item).returnPlain st item true none
    | .missing (some h) => d.returnRouted st e h true none
    | .holdPending h => d.returnRouted st e h false none
    | .onHoldShelf h pickup => d.post st (.holdFor (Code.shortNumber h) pickup)
    | .reference => d.returnPlain st item false none
    | .withdrawn => d.returnPlain st item false none

/-- An item taken in RETURN mode, once the desk mode permits it: checks 2 and 3 of R92 with the read between them. -/
def Desk.returnItem (d : Desk) (st : StationId) (item : Code) (scanned : Nat) : Desk :=
  if d.itemListed item then d.refuse st .inUse
  else
    let d := d.lapseAtRead st item
    if d.anyRoom then d.returnEntry st item scanned else d.refuse st .journalFull

end Sys2Proof.Machine
end

