-- ==== Sys2Proof/Machine/Engine.lean ====
section
/-! DEFINITION. The Circulation Engine takes codes (chapter 5, R79, R83, R84, R98), the scan queues (R17, R18), lookups'
ends (R44, R47 to R53, R85), and the desk mode (R77, R78, R80). -/

namespace Sys2Proof.Machine

/-! ## Provisional entries (R44) -/

/-- The provisional entry of a card. -/
def Desk.provisionalEntry (d : Desk) (card : Code) (category : Nat) : Borrower :=
  { card := card, category := category, loansHeld := 0, holdsReady := 0, finesOwed := 0, expiryDay := d.clock.day,
    provisional := true }

/-- The request for a provisional entry: with a cap of 0 UNKNOWN_BORROWER, with a full table TABLE_FULL, else the entry is
inserted, PROVISIONAL_OPENED raised and `opens` goes on. `fails` is what a refusal does to the station first (R44, R51). -/
def Desk.askProvisional (d : Desk) (st : StationId) (card : Code) (category : Nat) (fails opens : Desk → Desk) : Desk :=
  if (d.category category).offlineCap = 0 then (fails d).post st .unknownBorrower
  else if d.borrowerTableFull then (fails (d.raiseAlarm .tableFull)).refuse st .tableFull
  else opens ((d.putBorrower (d.provisionalEntry card category)).raiseNotice (.provisionalOpened st card))

/-! ## Borrower cards (R84) -/

/-- Steps 5 to 8 of R84, with the winner of step 4. -/
def Desk.serveCard (d : Desk) (st : StationId) (card : Code) (category : Nat) (winner : Option BlockEntry) : Desk :=
  if d.cardInUse card then d.refuse st .borrowerElsewhere
  else if (d.borrower card).isSome then d.openSession st card winner
  else if !d.isOffline then d.enterLookup st card category
  else d.askProvisional st card category id fun d => d.openSession st card winner

/-- A borrower card taken at a station in IDLE or OPEN (R84). -/
def Desk.takeBorrower (d : Desk) (st : StationId) (card : Code) (category : Nat) : Desk :=
  if d.mode != .opened then d.post st .deskClosed
  else
    let d := match d.context st with
      | .opened x => d.endSession st x .idle
      | _ => d
    if (d.deferredAt st).isSome then d
    else d.screened st card id fun d winner => d.serveCard st card category winner

/-! ## Items (R79, R83) -/

/-- An item taken at an IDLE station (R79). -/
def Desk.takeItemIdle (d : Desk) (st : StationId) (item : Code) (scanned : Nat) : Desk :=
  match (d.stations.get st).mode with
  | .ret =>
    if d.mode != .closed || d.settings.returnsWhenClosed then d.returnItem st item scanned else d.post st .deskClosed
  | _ => if d.mode == .opened then d.refuse st .noSession else d.post st .deskClosed

/-- An item taken at an OPEN station, by the station mode (R83). -/
def Desk.takeItemOpen (d : Desk) (st : StationId) (x : Session) (item : Code) (scanned : Nat) : Desk :=
  match (d.stations.get st).mode with
  | .loan => d.loan st x item scanned
  | .ret => d.returnItem st item scanned
  | .renew => d.renewal st x item scanned

def Desk.takeItem (d : Desk) (st : StationId) (item : Code) (scanned : Nat) : Desk :=
  match d.context st with
  | .idle => d.takeItemIdle st item scanned
  | .opened x => d.takeItemOpen st x item scanned
  | _ => d

/-! ## Command cards (R80, R89, R97, R98) -/

def Context.isDisabled : Context → Bool
  | .disabled => true
  | _ => false

/-- The engine takes codes at a station that is IDLE or OPEN (R18). -/
def Context.takes : Context → Bool
  | .idle => true
  | .opened _ => true
  | _ => false

/-- A mode card sets the station mode in every state except DISABLED (R80). -/
def Desk.setMode (d : Desk) (st : StationId) (m : StationMode) : Desk :=
  if (d.context st).isDisabled then d else d.onStation st fun x => { x with mode := m }

/-- END (R98, R99). -/
def Desk.endCard (d : Desk) (st : StationId) : Desk := d.closeSession st

/-- CANCEL_LAST (R97, R98). -/
def Desk.cancelCard (d : Desk) (st : StationId) : Desk :=
  match d.context st with
  | .idle => d.refuse st .noSession
  | .opened x => d.cancelLast st x
  | _ => d

/-- OVERRIDE (R89, R98): the arm is set with an expiry of 60 s. -/
def Desk.overrideCard (d : Desk) (st : StationId) : Desk :=
  match d.context st with
  | .idle => d.refuse st .noSession
  | .opened _ => d.onSession st fun x => { x with arm := some 60 }
  | _ => d

/-- CLEAR (R98, R130). -/
def Desk.clearCard (d : Desk) (st : StationId) : Desk :=
  if (d.context st).takes then d.onArbiter st (Arbiter.clearShown (d.arbiterSettings st)) else d

/-- REPRINT (R98, R140). -/
def Desk.reprintCard (d : Desk) (st : StationId) : Desk := if (d.context st).takes then d.reprint st else d

/-- SKIP_SLIP (R98, R144). -/
def Desk.skipCard (d : Desk) (st : StationId) : Desk := if (d.context st).takes then d.skipSlip st else d

def Desk.takeCommand (d : Desk) (st : StationId) (c : Command) : Desk :=
  match c with
  | .loanMode => d.setMode st .loan
  | .returnMode => d.setMode st .ret
  | .renewMode => d.setMode st .renew
  | .endSession => d.endCard st
  | .cancelLast => d.cancelCard st
  | .overrideCard => d.overrideCard st
  | .clear => d.clearCard st
  | .reprint => d.reprintCard st
  | .skipSlip => d.skipCard st

/-! ## The scan queue (R17, R18) -/

def Desk.takeEntry (d : Desk) (st : StationId) (e : QueueEntry) : Desk :=
  match e with
  | .borrower card category => d.takeBorrower st card category
  | .item code itemClass => d.takeItem st code itemClass
  | .command _ c => d.takeCommand st c

/-- The head entry of the queue is taken when the station is IDLE or OPEN. -/
def Desk.takeHead (d : Desk) (st : StationId) : Desk :=
  match (d.scan.get st).queue with
  | e :: rest =>
    if (d.context st).takes then (d.onScan st fun s => { s with queue := rest }).takeEntry st e else d
  | [] => d

/-- Each new head is taken in turn until the queue is empty or the station has entered LOOKUP (R18). -/
def Desk.drain (d : Desk) (st : StationId) : Desk := Nat.repeat (fun d => d.takeHead st) (d.scan.get st).queue.length d

/-! ## A code that passed repeat suppression (R13, R17, R82, R129) -/

/-- The report of an accepted scan: the TRANSIENT prompts go, and the idle timer of an open session restarts. -/
def Desk.acceptScan (d : Desk) (st : StationId) : Desk :=
  (d.onArbiter st (Arbiter.scanAccepted (d.arbiterSettings st))).onSession st fun x =>
    { x with idleTimer := (d.stationSettings.get st).idleTimeout }

def QueueEntry.code : QueueEntry → Code
  | .borrower c _ => c
  | .item c _ => c
  | .command c _ => c

/-- A classified code is offered to the scan queue (R17). -/
def Desk.offerScan (d : Desk) (st : StationId) (e : QueueEntry) : Desk :=
  if (d.scan.get st).queue.length < scanQueueCapacity then
    (d.onScan st fun s =>
      ({ s with queue := s.queue ++ [e] }).remember (d.stationSettings.get st).suppressionWindow e.code).drain st
  else d.post st .queueOverflow

def Desk.classifyRead (d : Desk) (st : StationId) (c : Code) : Desk :=
  match classifyScan d.tables.prefixes c with
  | .ignored => d
  | .invalid => (d.acceptScan st).post st .scanInvalid
  | .entry e => (d.acceptScan st).offerScan st e

/-- A read from the wand receiver: pairing, repeat suppression, classification (R5, R8, R13). -/
def Desk.takeRead (d : Desk) (st : StationId) (c : Code) : Desk :=
  let settings := d.stationSettings.get st
  let r := (d.scan.get st).pair settings.readsRequired settings.pairingWindow c
  let d := d.onScan st fun _ => r.1
  if r.2 && !r.1.suppresses c then d.classifyRead st c else d

/-- A character on a station's wand line (R1, R4). -/
def Desk.wandCharacter (d : Desk) (st : StationId) (c : Option Byte) : Desk :=
  if (d.context st).isDisabled then d
  else
    let r := (d.scan.get st).character c
    let d := d.onScan st fun _ => r.1
    match r.2 with
    | some code => d.takeRead st code
    | none => d

/-! ## The end of a lookup (R48, R49, R51, R85) -/

/-- A lookup that yields an entry: the fresh block check, then the session or BORROWER_BLOCKED (R85). With a REFUSE winner the
station becomes IDLE, which removes JOURNAL_FULL, before BORROWER_BLOCKED is posted: R85 and R133 give the two no order
(log 16). -/
def Desk.openFromLookup (d : Desk) (st : StationId) (card : Code) : Desk :=
  (d.dropLookup st).screened st card (fun d => d.setContext st .idle) fun d winner => d.openSession st card winner

/-- A lookup ends by timeout, or as by timeout (R51). -/
def Desk.lookupTimesOut (d : Desk) (st : StationId) (r : Lookup) : Desk :=
  d.askProvisional st r.card r.category (fun d => d.leaveLookup st .idle) fun d => d.openFromLookup st r.card

/-- After a lookup has ended: the test of R78, then the codes waiting in the queue (R85; log 8). -/
def Desk.afterLookup (d : Desk) (st : StationId) : Desk := d.testClosing.drain st

/-- Expiry of a station's lookup timer. -/
def Desk.lookupExpiry (d : Desk) (st : StationId) : Desk :=
  match d.context st with
  | .lookup r => (d.lookupTimesOut st r).afterLookup st
  | _ => d

/-- The station in LOOKUP for a card, if any. -/
def Desk.lookingFor (d : Desk) (card : Code) : Option StationId :=
  StationId.list.find? fun st =>
    match d.context st with
    | .lookup r => r.card == card
    | _ => false

/-- The station whose open session is a card's, if any. -/
def Desk.sessionFor (d : Desk) (card : Code) : Option StationId :=
  StationId.list.find? fun st =>
    match d.context st with
    | .opened x => x.borrower == card
    | _ => false

/-- A found reply in time (R48). -/
def Desk.replyInTime (d : Desk) (st : StationId) (b : Borrower) : Decision :=
  if (d.borrower b.card).isNone && d.borrowerTableFull then
    ((((d.raiseAlarm .tableFull).leaveLookup st .idle).refuse st .tableFull).afterLookup st).answer .full
  else (((d.putBorrower b).openFromLookup st b.card).afterLookup st).answer .ok

/-- The merge of a late found reply into a provisional entry (R52). -/
def Borrower.merge (old new : Borrower) : Borrower :=
  { new with loansHeld := min (new.loansHeld + old.loansHeld) 99, finesOwed := min (new.finesOwed + old.finesOwed) 65535 }

/-- An open session on a merged card ceases to be provisional (R52, R86). -/
def Desk.confirmSessions (d : Desk) (card : Code) : Desk :=
  d.eachStation fun d st => d.onSession st fun x => if x.borrower = card then { x with provisional := false } else x

/-- A late found reply (R52). -/
def Desk.replyLate (d : Desk) (b : Borrower) : Decision :=
  match d.borrower b.card with
  | some old => if old.provisional then ((d.putBorrower (old.merge b)).confirmSessions b.card).answer .ok else d.answer .ok
  | none => if d.borrowerTableFull then (d.raiseAlarm .tableFull).answer .full else (d.putBorrower b).answer .ok

/-- LOOKUP_REPLY, found (R47, R48, R52). -/
def Desk.lookupFound (d : Desk) (card : CodeField) (category loansHeld holdsReady : Byte) (finesOwed expiryDay : Half) :
    Decision :=
  match borrowerOf card category loansHeld holdsReady finesOwed expiryDay with
  | some b =>
    match d.lookingFor b.card with
    | some st => d.replyInTime st b
    | none => d.replyLate b
  | none => d.answer .badArg

/-- A late not-found reply (R53). -/
def Desk.notFoundLate (d : Desk) (card : Code) : Desk :=
  match d.borrower card with
  | some b => if b.provisional then d.raiseNotice (.borrowerUnknown (d.sessionFor card) card) else d
  | none => d

/-- LOOKUP_REPLY, not found (R47, R49, R53). -/
def Desk.lookupNotFound (d : Desk) (card : CodeField) : Decision :=
  match CodeField.code card with
  | some c =>
    match d.lookingFor c with
    | some st => (((d.leaveLookup st .idle).post st .unknownBorrower).afterLookup st).answer .ok
    | none => (d.notFoundLate c).answer .ok
  | none => d.answer .badArg

/-- The link becomes OFFLINE: every lookup ends as by timeout, then the test of R78 and the queues (R51, R190; log 10). -/
def Desk.endAllLookups (d : Desk) : Desk :=
  let ended := d.eachStation fun d st =>
    match d.context st with
    | .lookup r => d.lookupTimesOut st r
    | _ => d
  ended.testClosing.eachStation Desk.drain

/-! ## The desk mode (R77, R78) -/

/-- A serving station is made to stop: an OPEN session ends as by END, a lookup is abandoned. -/
def Desk.stopStation (d : Desk) (next : Context) (st : StationId) : Desk :=
  match d.context st with
  | .opened x => d.endSession st x next
  | .lookup _ => d.leaveLookup st next
  | _ => d

/-- Every session ends and every lookup is abandoned, the mode becomes CLOSED, and the codes waiting at the stations that
left LOOKUP are then taken (R77, R78, R85; log 8). -/
def Desk.forceClose (d : Desk) : Desk :=
  ((d.eachStation fun d st => d.stopStation .idle st).becomeClosed).eachStation Desk.drain

/-- DESK_MODE OPEN (R77). -/
def Desk.openDesk (d : Desk) : Desk :=
  if d.mode == .opened then d
  else ({ d with mode := .opened, closingTimer := none }).appendPlain none (.deskMode .opened)

/-- An OPEN desk becomes CLOSING: its grace timer starts, and with no station serving, or a grace of 0 s, it becomes CLOSED
at once. -/
def Desk.beginClosing (d : Desk) : Desk :=
  let d := ({ d with mode := .closing, closingTimer := some d.settings.closingGrace }).appendPlain none (.deskMode .closing)
  if d.settings.closingGrace = 0 then d.forceClose else d.testClosing

/-- DESK_MODE CLOSE (R77). -/
def Desk.closeDesk (d : Desk) : Desk :=
  match d.mode with
  | .closed => d
  | .opened => d.beginClosing
  | .closing => d.forceClose

/-- Expiry of the closing grace timer (R78). A timer that is stopped does not expire. -/
def Desk.graceExpiry (d : Desk) : Desk := if d.mode == .closing && d.closingTimer.isSome then d.forceClose else d

/-! ## Station enabled (R80, R4) -/

/-- The station becomes DISABLED. -/
def Desk.disableStation (d : Desk) (st : StationId) : Desk :=
  let d := match d.context st with
    | .opened x => d.endSession st x .disabled
    | .lookup _ => d.leaveLookup st .disabled
    | _ => d.setContext st .disabled
  (d.onScan st ScanStation.disable).testClosing

/-- A write of station enabled; one that leaves the setting as it was changes nothing. -/
def Desk.setEnabled (d : Desk) (st : StationId) (on : Bool) : Desk :=
  if (d.stationSettings.get st).enabled = on then d
  else
    let d := d.onStationSettings st fun x => { x with enabled := on }
    if on then (if (d.context st).isDisabled then d.setContext st .idle else d) else d.disableStation st

end Sys2Proof.Machine
end

