-- ==== Sys2Proof/Machine/Settings.lean ====
section
/-! DEFINITION. The configuration settings: CONFIG_WRITE and CONFIG_READ of the 26 settings (R187, R198). -/

namespace Sys2Proof.Machine

/-! ## The three shapes of a setting (R187) -/

/-- A numeric setting: stored within its range, CLAMPED with the stored value when the written one lies outside. -/
def Desk.writeRange (d : Desk) (low high : Nat) (v : Word) (store : Desk → Nat → Desk) : Decision :=
  let n := max low (min v.toNat high)
  if n = v.toNat then (store d n).answer .ok else ⟨store d n, .clamped, bytesOf 4 n⟩

/-- A setting with named values: BAD_ARG for a value that names none. -/
def Desk.writeNamed {α : Type} (d : Desk) (value : Option α) (store : Desk → α → Desk) : Decision :=
  match value with
  | some a => (store d a).answer .ok
  | none => d.answer .badArg

/-- A per-station setting: BAD_ARG for a station outside 0 to 3. -/
def Desk.atStation (d : Desk) (index : Byte) (f : StationId → Decision) : Decision :=
  match StationId.ofNumber index.toNat with
  | some st => f st
  | none => d.answer .badArg

def offOn (v : Word) : Option Bool := if v = 0 then some false else if v = 1 then some true else none

/-! ## Scan acceptance (R7, R9) -/

def Desk.writeReadsRequired (d : Desk) (index : Byte) (v : Word) : Decision :=
  d.atStation index fun st => d.writeRange 1 3 v fun d n =>
    (d.onStationSettings st fun x => { x with readsRequired := n }).onScan st ScanStation.dropCandidate

def Desk.writePairingWindow (d : Desk) (index : Byte) (v : Word) : Decision :=
  d.atStation index fun st => d.writeRange 50 2000 v fun d n =>
    (d.onStationSettings st fun x => { x with pairingWindow := n }).onScan st ScanStation.dropCandidate

def Desk.writeSuppressionWindow (d : Desk) (index : Byte) (v : Word) : Decision :=
  d.atStation index fun st => d.writeRange 0 10 v fun d n => d.onStationSettings st fun x => { x with suppressionWindow := n }

/-! ## Clock (R23, R30) -/

def TimeSource.ofWord (v : Word) : Option TimeSource :=
  if v = 1 then some .marks else if v = 2 then some .localTime else none

/-- A change of the time source; from MARKS to LOCAL a pending mark is discarded (R23). -/
def Desk.setTimeSource (d : Desk) (s : TimeSource) : Desk :=
  if d.settings.timeSource = s then d
  else
    let pending := match s with
      | .localTime => none
      | .marks => d.clock.pendingMark
    ({ d with settings := { d.settings with timeSource := s }, clock := { d.clock with pendingMark := pending } }).reportSync

def Desk.writeTimeSource (d : Desk) (v : Word) : Decision := d.writeNamed (TimeSource.ofWord v) Desk.setTimeSource

def Desk.writeStepLimit (d : Desk) (v : Word) : Decision :=
  d.writeRange 0 1440 v fun d n => { d with settings := { d.settings with stepLimit := n } }

def Desk.writeMarkAgeLimit (d : Desk) (v : Word) : Decision :=
  d.writeRange 1 48 v fun d n => ({ d with settings := { d.settings with markAgeLimit := n } }).reportSync

/-! ## Engine (R46, R76, R80, R106) -/

def Desk.writeLookupTimeout (d : Desk) (v : Word) : Decision :=
  d.writeRange 2 30 v fun d n => { d with settings := { d.settings with lookupTimeout := n } }

def Desk.writeStationEnabled (d : Desk) (index : Byte) (v : Word) : Decision :=
  d.atStation index fun st => d.writeNamed (offOn v) fun d on => d.setEnabled st on

def Desk.writeIdleTimeout (d : Desk) (index : Byte) (v : Word) : Decision :=
  d.atStation index fun st => d.writeRange 15 600 v fun d n => d.onStationSettings st fun x => { x with idleTimeout := n }

def Desk.writeSlipPrinting (d : Desk) (index : Byte) (v : Word) : Decision :=
  d.atStation index fun st =>
    d.writeNamed (offOn v) fun d on => d.onStationSettings st fun x => { x with slipPrinting := on }

def Desk.writePadPulse (d : Desk) (index : Byte) (v : Word) : Decision :=
  d.atStation index fun st => d.writeRange 50 1000 v fun d n => d.onStationSettings st fun x => { x with padPulse := n }

def Desk.writeClosingGrace (d : Desk) (v : Word) : Decision :=
  d.writeRange 0 600 v fun d n => { d with settings := { d.settings with closingGrace := n } }

def Desk.writeReturnsWhenClosed (d : Desk) (v : Word) : Decision :=
  d.writeNamed (offOn v) fun d on => { d with settings := { d.settings with returnsWhenClosed := on } }

def Desk.writeMinimumRemaining (d : Desk) (v : Word) : Decision :=
  d.writeRange 0 120 v fun d n => { d with settings := { d.settings with minimumRemaining := n } }

/-! ## Prompts (R123, R124, R128) -/

/-- The four levels, each once, highest first (R123). -/
def precedenceOf (v : Word) : Option (List Level) :=
  ((bytesOf 4 v.toNat).mapM fun b => Level.ofNumber b.toNat).filter fun ls => ls.Nodup

def Desk.setPrecedence (d : Desk) (ls : List Level) : Desk :=
  ({ d with settings := { d.settings with precedence := ls } }).eachStation Desk.reselect

def Desk.writePrecedenceList (d : Desk) (v : Word) : Decision := d.writeNamed (precedenceOf v) Desk.setPrecedence

def masksOf (v : Word) : Option LevelMasks := if v.toNat < 16 then some (.ofBits v.toNat) else none

def Desk.writeLevelMasks (d : Desk) (index : Byte) (v : Word) : Decision :=
  d.atStation index fun st =>
    d.writeNamed (masksOf v) fun d m => (d.onStationSettings st fun x => { x with masks := m }).reselect st

def Desk.writeDisplayTime (d : Desk) (v : Word) : Decision :=
  d.writeRange 1 10 v fun d n => { d with settings := { d.settings with displayTime := n } }

/-! ## Printers (R141) -/

def Desk.writePrinterAssignment (d : Desk) (index : Byte) (v : Word) : Decision :=
  d.atStation index fun st => d.writeNamed (PrinterId.ofNumber v.toNat) fun d p => d.assignPrinter st p

def Failover.ofWord (v : Word) : Option Failover :=
  if v = 1 then some .automatic else if v = 2 then some .manual else none

def Desk.writeFailover (d : Desk) (index : Byte) (v : Word) : Decision :=
  d.atStation index fun st => d.writeNamed (Failover.ofWord v) fun d f => d.setFailover st f

def Desk.writeLineTimeout (d : Desk) (index : Byte) (v : Word) : Decision :=
  match PrinterId.ofNumber index.toNat with
  | some p =>
    d.writeRange 1 10 v fun d n => { d with settings := { d.settings with lineTimeout := d.settings.lineTimeout.set p n } }
  | none => d.answer .badArg

/-! ## Journal, upload and link (R162, R169, R190, R193) -/

def Desk.writeReturnReserve (d : Desk) (v : Word) : Decision :=
  d.writeRange 0 256 v fun d n => ({ d with settings := { d.settings with returnReserve := n } }).evaluateJournal

def Desk.writeHighWater (d : Desk) (v : Word) : Decision :=
  d.writeRange 50 99 v fun d n => ({ d with settings := { d.settings with highWater := n } }).evaluateJournal

def Desk.setUploadMinute (d : Desk) (m : Option Nat) : Desk := { d with settings := { d.settings with uploadMinute := m } }

/-- OFF is FFFFFFFFh; any other value is a number, which is clamped (R169, R198). -/
def Desk.writeUploadMinute (d : Desk) (v : Word) : Decision :=
  if v = 0xffffffff then (d.setUploadMinute none).answer .ok else d.writeRange 0 1439 v fun d n => d.setUploadMinute (some n)

def Desk.writeTakenTimeout (d : Desk) (v : Word) : Decision :=
  d.writeRange 5 120 v fun d n => { d with settings := { d.settings with takenTimeout := n } }

def Desk.writeLinkTimeout (d : Desk) (v : Word) : Decision :=
  d.writeRange 10 600 v fun d n => { d with settings := { d.settings with linkTimeout := n } }

/-- A write of a kind's routing to OFF removes its pending notices at once (R193). -/
def Desk.setRouting (d : Desk) (k : NoticeKind) (on : Bool) : Desk :=
  { d with
    settings := { d.settings with routing := d.settings.routing.set k on }
    notices := if on then d.notices else d.notices.filter fun n => n.body.kind != k }

def Desk.writeNoticeRouting (d : Desk) (index : Byte) (v : Word) : Decision :=
  match NoticeKind.ofNumber index.toNat with
  | some k => d.writeNamed (offOn v) fun d on => d.setRouting k on
  | none => d.answer .badArg

/-! ## CONFIG_WRITE by the setting's number, as a frame names it -/

def Desk.writeSetting (d : Desk) (setting index : Byte) (v : Word) : Decision :=
  match setting.toNat with
  | 1 => d.writeReadsRequired index v
  | 2 => d.writePairingWindow index v
  | 3 => d.writeSuppressionWindow index v
  | 4 => d.writeTimeSource v
  | 5 => d.writeStepLimit v
  | 6 => d.writeMarkAgeLimit v
  | 7 => d.writeLookupTimeout v
  | 8 => d.writeStationEnabled index v
  | 9 => d.writeIdleTimeout index v
  | 10 => d.writeSlipPrinting index v
  | 11 => d.writePadPulse index v
  | 12 => d.writeClosingGrace v
  | 13 => d.writeReturnsWhenClosed v
  | 14 => d.writeMinimumRemaining v
  | 15 => d.writePrecedenceList v
  | 16 => d.writeLevelMasks index v
  | 17 => d.writeDisplayTime v
  | 18 => d.writePrinterAssignment index v
  | 19 => d.writeFailover index v
  | 20 => d.writeLineTimeout index v
  | 21 => d.writeReturnReserve v
  | 22 => d.writeHighWater v
  | 23 => d.writeUploadMinute v
  | 24 => d.writeTakenTimeout v
  | 25 => d.writeLinkTimeout v
  | 26 => d.writeNoticeRouting index v
  | _ => d.answer .badArg

/-! ## CONFIG_READ -/

def boolNumber (b : Bool) : Nat := if b then 1 else 0

def TimeSource.number : TimeSource → Nat
  | .marks => 1
  | .localTime => 2

def Failover.number : Failover → Nat
  | .automatic => 1
  | .manual => 2

def precedenceNumber (ls : List Level) : Nat := ls.foldl (fun n l => 256 * n + l.number) 0

/-- The stored value of a per-station setting. -/
def StationSettings.value (x : StationSettings) (setting : Nat) : Option Nat :=
  match setting with
  | 1 => some x.readsRequired
  | 2 => some x.pairingWindow
  | 3 => some x.suppressionWindow
  | 8 => some (boolNumber x.enabled)
  | 9 => some x.idleTimeout
  | 10 => some (boolNumber x.slipPrinting)
  | 11 => some x.padPulse
  | 16 => some x.masks.bits
  | 18 => some (PrinterId.number x.printer)
  | 19 => some x.failover.number
  | _ => none

/-- The stored value of a desk-wide setting. -/
def Settings.value (x : Settings) (setting : Nat) : Option Nat :=
  match setting with
  | 4 => some x.timeSource.number
  | 5 => some x.stepLimit
  | 6 => some x.markAgeLimit
  | 7 => some x.lookupTimeout
  | 12 => some x.closingGrace
  | 13 => some (boolNumber x.returnsWhenClosed)
  | 14 => some x.minimumRemaining
  | 15 => some (precedenceNumber x.precedence)
  | 17 => some x.displayTime
  | 21 => some x.returnReserve
  | 22 => some x.highWater
  | 23 => some (x.uploadMinute.getD 0xffffffff)
  | 24 => some x.takenTimeout
  | 25 => some x.linkTimeout
  | _ => none

/-- The stored value of a setting by its number and index, none where one of them names nothing. -/
def Desk.settingValue (d : Desk) (setting index : Nat) : Option Nat :=
  match setting with
  | 20 => (PrinterId.ofNumber index).map d.settings.lineTimeout.get
  | 26 => (NoticeKind.ofNumber index).map fun k => boolNumber (d.settings.routing.get k)
  | n =>
    match d.settings.value n with
    | some v => some v
    | none => (StationId.ofNumber index).bind fun st => (d.stationSettings.get st).value n

/-- CONFIG_READ (R187). -/
def Desk.readSetting (d : Desk) (setting index : Byte) : Decision :=
  match d.settingValue setting.toNat index.toNat with
  | some v => d.answerData (bytesOf 4 v)
  | none => d.answer .badArg

end Sys2Proof.Machine
end

