-- ==== Sys2Proof/Machine/Layouts.lean ====
section
/-! DEFINITION. The bytes of what the part sends: journal records, notices, blocks and the envelope on the Desk Link (R184,
R198), display records (R127), printer lines (R145). -/

namespace Sys2Proof.Machine

/-! ## The check (R184) -/

/-- One step of the CRC register for one bit: generator x^16 + x^12 + x^5 + 1. -/
def crcBit (r : BitVec 16) (bit : Bool) : BitVec 16 := if r.msb != bit then (r <<< 1) ^^^ 0x1021 else r <<< 1

/-- The CRC register after one byte, most significant bit first. -/
def crcByte (r : BitVec 16) (b : Byte) : BitVec 16 :=
  [7, 6, 5, 4, 3, 2, 1, 0].foldl (fun r i => crcBit r (b.getLsbD i)) r

/-- The check of a frame, over its kind, tag, length bytes and payload. -/
def crc16 (bs : List Byte) : BitVec 16 := bs.foldl crcByte 0xffff

/-- A frame on the line: start byte, kind, tag, length, payload, check. -/
def envelope (kind tag : Byte) (payload : List Byte) : List Byte :=
  let body := [kind, tag] ++ bytesOf 2 payload.length ++ payload
  [0xa5] ++ body ++ bytesOf 2 (crc16 body).toNat

/-! ## Journal records (R198) -/

def RecordBody.kind : RecordBody → Nat
  | .loan .. => 1
  | .ret .. => 2
  | .renew .. => 3
  | .refusal .. => 4
  | .cancel .. => 5
  | .holdRouted .. => 6
  | .holdLapsed .. => 7
  | .slipDiscarded .. => 8
  | .deskMode _ => 9
  | .clockChange _ => 10
  | .restart _ => 11

def RecordBody.reason : RecordBody → Nat
  | .refusal _ _ r _ => r.number
  | _ => 0

def RecordBody.borrowerCard : RecordBody → Option Code
  | .loan b _ _ => some b
  | .ret _ l => l.map ReturnedLoan.holder
  | .renew b _ _ => some b
  | .refusal b _ _ _ => some b
  | .cancel b _ _ => some b
  | .holdRouted b _ _ => some b
  | .holdLapsed b _ _ => some b
  | .slipDiscarded b _ _ => some b
  | _ => none

def RecordBody.itemCode : RecordBody → Option Code
  | .loan _ i _ => some i
  | .ret i _ => some i
  | .renew _ i _ => some i
  | .refusal _ i _ _ => some i
  | .cancel _ i _ => some i
  | .holdRouted _ i _ => some i
  | .holdLapsed _ i _ => some i
  | .slipDiscarded _ i _ => i
  | _ => none

def RecordBody.due : RecordBody → Option Due
  | .loan _ _ due => some due
  | .ret _ l => l.map ReturnedLoan.due
  | .renew _ _ due => some due
  | .holdRouted _ _ day => some ⟨day, none⟩
  | .holdLapsed _ _ day => some ⟨day, none⟩
  | _ => none

def RecordBody.fineUnits : RecordBody → Option Nat
  | .ret _ l => l.map ReturnedLoan.fine
  | _ => none

def RecordBody.referencedSeq : RecordBody → Option Nat
  | .cancel _ _ seq => some seq
  | _ => none

def RefusedAct.number : RefusedAct → Nat
  | .loan => 1
  | .renew => 2

def SlipCause.number : SlipCause → Nat
  | .skipped => 1
  | .deferredHeld => 2
  | .queueFull => 3

/-- The numbers of the desk modes in a DESK_MODE record: 1 OPEN, 2 CLOSING, 3 CLOSED. -/
def DeskMode.number : DeskMode → Nat
  | .opened => 1
  | .closing => 2
  | .closed => 3

def ClockCause.number : ClockCause → Nat
  | .mark => 1
  | .pendingMark => 2
  | .set => 3

def RestartKind.number : RestartKind → Nat
  | .warm => 1
  | .cold => 2
  | .link => 3

def RecordBody.aux : RecordBody → Option Nat
  | .ret _ l => l.map ReturnedLoan.lateUnits
  | .refusal _ _ _ act => some act.number
  | .slipDiscarded _ _ cause => some cause.number
  | .deskMode m => some m.number
  | .clockChange c => some c.number
  | .restart k => some k.number
  | _ => none

/-- The station's four bits, Fh for NONE. -/
def stationNibble : Option StationId → Nat
  | some st => st.number
  | none => 15

/-- A journal record, 40 bytes. -/
def JournalRecord.bytes (r : JournalRecord) : List Byte :=
  let due := r.body.due
  let minute := due.bind Due.minute
  let presence := presenceBit due.isSome 0 + presenceBit minute.isSome 1 + presenceBit r.body.fineUnits.isSome 2 +
    presenceBit r.body.referencedSeq.isSome 3 + presenceBit r.body.aux.isSome 4
  bytesOf 4 r.seq ++ bytesOf 2 r.day ++ bytesOf 2 r.minute ++
    [natByte (stationNibble r.station * 16 + r.body.kind), natByte r.flags.bits, natByte presence, natByte r.body.reason] ++
    codeBytes (optionCode r.body.borrowerCard) ++ codeBytes (optionCode r.body.itemCode) ++
    bytesOf 2 ((due.map Due.day).getD 0) ++ bytesOf 2 (minute.getD 0) ++ bytesOf 2 (r.body.fineUnits.getD 0) ++
    bytesOf 4 (r.body.referencedSeq.getD 0) ++ bytesOf 2 (r.body.aux.getD 0)

/-! ## Notices (R198) -/

/-- The station's byte, FFh for NONE. -/
def stationByte : Option StationId → Byte
  | some st => natByte st.number
  | none => 0xff

/-- The station or the alarm number of a notice. -/
def NoticeBody.placeByte : NoticeBody → Byte
  | .watchHit st _ _ => stationByte (some st)
  | .blockHit st _ _ _ => stationByte (some st)
  | .overrideUsed st _ _ _ => stationByte (some st)
  | .holdRouted st _ _ => stationByte (some st)
  | .provisionalOpened st _ => stationByte (some st)
  | .borrowerUnknown st _ => stationByte st
  | .alarm a _ => natByte a.number

def NoticeBody.card : NoticeBody → Option Code
  | .watchHit _ c _ => some c
  | .blockHit _ c _ _ => some c
  | .overrideUsed _ c _ _ => some c
  | .holdRouted _ _ c => some c
  | .provisionalOpened _ c => some c
  | .borrowerUnknown _ c => some c
  | .alarm _ _ => none

def NoticeBody.itemCode : NoticeBody → Option Code
  | .overrideUsed _ _ i _ => some i
  | .holdRouted _ i _ => some i
  | _ => none

def NoticeBody.values : NoticeBody → List Byte
  | .watchHit _ _ r => [natByte r, 0, 0]
  | .blockHit _ _ a r => [natByte a.number, natByte r, 0]
  | .overrideUsed _ _ _ r => [natByte r.number, 0, 0]
  | .alarm _ s => [boolByte s.active, natByte s.count, boolByte s.holds]
  | _ => [0, 0, 0]

/-- A NOTICE payload, 22 bytes. -/
def Notice.bytes (n : Notice) : List Byte :=
  [natByte n.body.kind.number, n.body.placeByte, natByte n.coalesced] ++ codeBytes (optionCode n.body.card) ++
    codeBytes (optionCode n.body.itemCode) ++ n.body.values

/-! ## Replies and the other frames of the part -/

def Status.byte : Status → Byte
  | .ok => 0x00
  | .notFound => 0x01
  | .full => 0x02
  | .duplicate => 0x03
  | .inUse => 0x04
  | .badArg => 0x05
  | .badState => 0x06
  | .badKind => 0x07
  | .stale => 0x08
  | .stillActive => 0x09
  | .clamped => 0x0a

/-- A frame as it goes out on the line; frames of the part's own account carry tag 0. -/
def TxFrame.bytes : TxFrame → List Byte
  | .reply r => envelope 0x80 r.tag (r.status.byte :: r.data)
  | .lookup f => envelope 0x81 0 (natByte f.station.number :: codeBytes (CodeField.ofCode f.card))
  | .notice n => envelope 0x82 0 n.bytes
  | .upload (.block first count cut records) =>
    envelope 0x83 0 (bytesOf 4 first ++ [natByte count] ++ bytesOf 4 cut ++ records.flatMap JournalRecord.bytes)
  | .upload (.finish cut newest) => envelope 0x84 0 (bytesOf 4 cut ++ bytesOf 4 newest)

/-! ## Characters for the displays and the printers (R127, R145) -/

def digitByte (n : Nat) : Byte := natByte (0x30 + n % 10)

/-- The decimal digits of a number, with no leading zeros: at most six digits are ever needed. -/
def decimal (n : Nat) : List Byte :=
  if n < 10 then [digitByte n]
  else if n < 100 then [digitByte (n / 10), digitByte n]
  else if n < 1000 then [digitByte (n / 100), digitByte (n / 10), digitByte n]
  else if n < 10000 then [digitByte (n / 1000), digitByte (n / 100), digitByte (n / 10), digitByte n]
  else [digitByte (n / 10000), digitByte (n / 1000), digitByte (n / 100), digitByte (n / 10), digitByte n]

/-- Two digits, leading zeros kept. -/
def two (n : Nat) : List Byte := [digitByte (n / 10), digitByte n]

def four (n : Nat) : List Byte := two (n / 100) ++ two (n % 100)

def digitsOf (c : Code) : List Byte := c.map fun x => digitByte x.val

/-- Year, month and day of month, in four, two and two digits. -/
def dateDigits (x : CivilDate) : List Byte := four x.year ++ two x.month ++ two x.day

/-- Hours and minutes, in two digits each. -/
def timeDigits (minute : Nat) : List Byte := two (minute / 60) ++ two (minute % 60)

/-- STX, each field followed by a comma, carriage return. -/
def record (fields : List (List Byte)) : List Byte := [0x02] ++ fields.flatMap (fun f => f ++ [0x2c]) ++ [0x0d]

def optionField {α : Type} (f : α → List Byte) : Option α → List Byte
  | some a => f a
  | none => []

/-- Fields 3 to 8 of a prompt's display record: four values, date and time (R127). -/
def Prompt.fields : Prompt → List (List Byte)
  | .borrowerBlocked r => [decimal r, [], [], [], [], []]
  | .loanRefused r b => [decimal r.number, optionField decimal b, [], [], [], []]
  | .holdFor s day => [digitsOf s, [], [], [], dateDigits (civilDate day), []]
  | .refer r => [decimal r, [], [], [], [], []]
  | .slipWaiting p => [decimal (PrinterId.number p), [], [], [], [], []]
  | .lent due => [[], [], [], [], dateDigits (civilDate due.day), optionField timeDigits due.minute]
  | .returned fine => [decimal fine, [], [], [], [], []]
  | .renewed due => [[], [], [], [], dateDigits (civilDate due.day), optionField timeDigits due.minute]
  | .sessionOpen s loans holds fines => [digitsOf s, decimal loans, decimal holds, decimal fines, [], []]
  | .sessionEnd n => [decimal n, [], [], [], [], []]
  | _ => [[], [], [], [], [], []]

/-- The characters of a display record (R127). -/
def DisplayRecord.bytes : DisplayRecord → List Byte
  | .blank => record [decimal 0, [], [], [], [], [], [], []]
  | .prompt p => record ([decimal p.source.number, decimal p.source.level.number] ++ p.fields)

/-- The characters of a printer line (R145). -/
def LineRecord.bytes : LineRecord → List Byte
  | .header => record [decimal 1]
  | .borrower s => record [decimal 2, digitsOf s]
  | .item digits date time => record [decimal 3, digitsOf digits, optionField dateDigits date, optionField timeDigits time]
  | .hold s date => record [decimal 4, digitsOf s, dateDigits date]
  | .total n => record [decimal 5, decimal n]
  | .reprint => record [decimal 6]
  | .footer => record [decimal 7]

end Sys2Proof.Machine
end

