-- ==== Sys2Proof/Machine/Status.lean ====
section
/-! DEFINITION. What the server reads: STATUS_READ, STATION_STATUS, ALARM_READ, and ALARM_CLEAR (R3, R29, R81, R136, R151,
R165, R180, R192, R197, R198). -/

namespace Sys2Proof.Machine

/-! ## STATUS_READ -/

def SyncState.number : SyncState → Nat
  | .synced => 1
  | .unsynced => 2
  | .localTime => 3

/-- Day, minute and second in five bytes. -/
def timeBytes (day minute second : Nat) : List Byte := bytesOf 2 day ++ bytesOf 2 minute ++ [natByte second]

def Desk.clockBytes (d : Desk) : List Byte :=
  let c := d.clock
  let mark := match c.pendingMark with
    | some p =>
      let t := clockOf p.due
      timeBytes t.1 t.2.1 t.2.2
    | none => timeBytes 0 0 0
  timeBytes c.day c.minute c.second ++ [natByte d.settings.timeSource.number, natByte d.syncState.number] ++
    bytesOf 4 c.markAge ++ [boolByte c.pendingMark.isSome] ++ mark

def Desk.sweepBytes (d : Desk) : List Byte :=
  boolByte d.sweep.isSome :: bytesOf 2 ((d.sweep.map Sweep.day).getD 0)

def PrinterStatus.number : PrinterStatus → Nat
  | .ready => 1
  | .busy => 2
  | .paperOut => 3
  | .offline => 4

def Printer.bytes (x : Printer) : List Byte :=
  [natByte x.status.number, natByte x.queue.length, boolByte (x.status == .busy)]

def Desk.journalBytes (d : Desk) : List Byte :=
  let j := d.journal
  bytesOf 4 j.newest ++ bytesOf 4 j.released ++ bytesOf 2 j.heldCount ++ bytesOf 2 j.free ++
    bytesOf 2 d.settings.returnReserve ++ [natByte d.settings.highWater] ++ bytesOf 2 d.settings.highWaterMark ++
    [boolByte d.journalHigh, boolByte d.journalFull]

def UploadState.number : UploadState → Nat
  | .idle => 1
  | .sending => 2
  | .stalled => 3

def Desk.uploadBytes (d : Desk) : List Byte :=
  let u := d.upload
  [natByte u.state.number] ++ bytesOf 4 u.cut ++ bytesOf 4 u.sent ++ [boolByte u.block.isSome] ++
    bytesOf 4 ((u.block.map BlockInFlight.first).getD 0) ++ [natByte ((u.block.map BlockInFlight.count).getD 0)] ++
    [boolByte u.takenTimer.isSome, boolByte u.waiting.isSome] ++ bytesOf 2 (u.waiting.getD 0)

/-- More frames wait in the upload send list than the one byte of their number can say (log 26). -/
def Desk.uploadFramesExceed (d : Desk) : Bool := 255 < d.uploadList.length

/-- The number of frames in the upload send list, one byte; beyond 255 no rule states it, and it is a free value (log 26). -/
def Desk.uploadFramesByte (d : Desk) : Byte :=
  if d.uploadFramesExceed then Config.freeUploadFrames d.freeIndex else natByte d.uploadList.length

/-- The link's part: its counts are those the reading finds before it sets them to 0. -/
def linkBytes (d : Desk) (l : LinkLine) : List Byte :=
  [if d.isOffline then 2 else 1, natByte l.replies.length, natByte d.lookupList.length, d.uploadFramesByte,
    natByte d.notices.length] ++ bytesOf 2 l.badFrames ++ bytesOf 2 l.overruns

/-- The STATUS_READ reply after the status byte. -/
def statusBytes (d : Desk) (l : LinkLine) : List Byte :=
  d.clockBytes ++ d.sweepBytes ++ (d.printer .p0).bytes ++ (d.printer .p1).bytes ++ d.journalBytes ++ d.uploadBytes ++
    linkBytes d l

/-! ## STATION_STATUS -/

def Context.number : Context → Nat
  | .idle => 1
  | .opened _ => 2
  | .lookup _ => 3
  | .disabled => 4

def StationMode.number : StationMode → Nat
  | .loan => 1
  | .ret => 2
  | .renew => 3

def Context.items : Context → List ListEntry
  | .opened x => x.items
  | _ => []

def Context.isProvisional : Context → Bool
  | .opened x => x.provisional
  | _ => false

def Context.armSet : Context → Bool
  | .opened x => x.arm.isSome
  | _ => false

def Lamp.number : Lamp → Nat
  | .off => 0
  | .red => 1
  | .amber => 2
  | .green => 3

def SlipKind.number : SlipKind → Nat
  | .loan => 1
  | .hold _ => 2

def slipKindByte (j : Option SlipJob) : Byte := natByte ((j.map fun j => j.kind.number).getD 0)

/-- The four values, the day and the minute of a pending entry (R198). -/
def Prompt.values : Prompt → List Nat × Option Nat × Option Nat
  | .borrowerBlocked r => ([r, 0, 0, 0], none, none)
  | .loanRefused r b => ([r.number, b.getD 0, 0, 0], none, none)
  | .holdFor s day => ([Code.value s, 0, 0, 0], some day, none)
  | .refer r => ([r, 0, 0, 0], none, none)
  | .slipWaiting p => ([PrinterId.number p, 0, 0, 0], none, none)
  | .lent due => ([0, 0, 0, 0], some due.day, due.minute)
  | .returned fine => ([fine, 0, 0, 0], none, none)
  | .renewed due => ([0, 0, 0, 0], some due.day, due.minute)
  | .sessionOpen s loans holds fines => ([Code.value s, loans, holds, fines], none, none)
  | .sessionEnd n => ([n, 0, 0, 0], none, none)
  | _ => ([0, 0, 0, 0], none, none)

/-- A pending entry, 13 bytes. -/
def Prompt.bytes (p : Prompt) : List Byte :=
  let v := p.values
  [natByte p.source.number] ++ v.1.flatMap (bytesOf 2) ++ bytesOf 2 (v.2.1.getD 0) ++ bytesOf 2 (v.2.2.getD 0xffff)

/-- The place of a station's deferred slip in the deferral list, 1 for the oldest, 0 for none. -/
def Desk.deferralPlace (d : Desk) (st : StationId) : Nat :=
  match d.slips.deferrals.findIdx? fun j => j.station == st with
  | some i => i + 1
  | none => 0

/-- The STATION_STATUS reply after the status byte. -/
def Desk.stationBytes (d : Desk) (st : StationId) : List Byte :=
  let s := d.scan.get st
  let c := d.context st
  let a := d.arbiters.get st
  let masks := (d.stationSettings.get st).masks
  let slip := d.deferredAt st
  let copy := d.slips.lastSlips.get st
  [natByte c.number, natByte (d.stations.get st).mode.number] ++ bytesOf 2 s.readErrors ++ [natByte s.queue.length] ++
    codeBytes (optionCode c.card) ++
    [boolByte c.isProvisional, natByte c.items.length, natByte (c.items.countP ListEntry.isLent),
      natByte (c.items.countP ListEntry.isRenewed), natByte (c.items.countP ListEntry.isReturned), boolByte c.armSet,
      natByte ((a.shown.map Source.number).getD 0), natByte masks.bits, natByte a.lamp.number, boolByte slip.isSome,
      slipKindByte slip, natByte (if slip.isSome then PrinterId.number (d.assigned st) else 0), natByte (d.deferralPlace st),
      boolByte copy.isSome, slipKindByte copy, natByte a.pending.length] ++
    (orderedPrompts d.settings.precedence a.pending).flatMap Prompt.bytes

/-- STATION_STATUS; the read-error count is set to 0 in the same step (R3). -/
def Desk.stationStatus (d : Desk) (station : Byte) : Decision :=
  match StationId.ofNumber station.toNat with
  | some st => (d.onScan st fun s => { s with readErrors := 0 }).answerData (d.stationBytes st)
  | none => d.answer .badArg

/-! ## ALARM_READ and ALARM_CLEAR (R192) -/

def AlarmState.bytes (x : AlarmState) : List Byte := [boolByte x.active, natByte x.count, boolByte x.holds]

def Desk.alarmRead (d : Desk) : Decision := d.answerData (AlarmId.list.flatMap fun a => (d.alarms.get a).bytes)

def Desk.alarmClear (d : Desk) (alarm count : Byte) : Decision :=
  match AlarmId.ofNumber alarm.toNat with
  | some a =>
    let x := d.alarms.get a
    if x.count ≠ count.toNat then d.answer .stale
    else if a.isCondition && x.holds then d.answer .stillActive
    else ({ d with alarms := d.alarms.set a { x with active := false } }).answer .ok
  | none => d.answer .badArg

end Sys2Proof.Machine
end

