-- ==== Sys2Proof/WellFormed.lean ====
section
/-! DEFINITION. Which commands are well formed: an operand that the row's own words rule out is not. -/

namespace Sys2Proof

/-- A frame kind that names a server request (R198: 01h to 12h). -/
def isRequestKind (kind : Byte) : Bool := 0x01 ≤ kind.toNat && kind.toNat ≤ 0x12

/-- BAD_KIND_FRAME is a frame "whose kind is not a server request" (R185). PRINTER_FAULT_ANSWER is the character F or any
other character but R (52h) and P (50h), a framing error included (R145). Every other operand is a field of its own width. -/
def Instr.wellFormed : Instr → Bool
  | .badKindFrame _ kind => !isRequestKind kind
  | .printerFaultAnswer _ c => c != some 0x52 && c != some 0x50
  | _ => true

end Sys2Proof
end

