-- ==== Sys2Proof/Machine/Link.lean ====
section
/-! DEFINITION. The Desk Link Controller (chapter 11): the transmit arbiter, requests and replies, the receive framer, frames
decoded to their requests, liveness, and the link reset (R183 to R190, R194, R195, R198). -/

namespace Sys2Proof.Machine

def State.onDesk (s : State) (f : Desk → Desk) : State := { s with desk := f s.desk }

def State.onLine (s : State) (f : LinkLine → LinkLine) : State := { s with line := f s.line }

/-! ## The transmit arbiter (R189, R194) -/

/-- A frame begins to be sent. -/
def State.send (s : State) (f : TxFrame) (d : Desk) (replies : List Reply) : State :=
  { s with desk := d, line := { s.line with transmitting := some f, replies := replies } }

/-- When the line is free and the link ONLINE the arbiter takes one frame: the oldest reply, the oldest LOOKUP, the first
notice of the pending set's order, the oldest upload frame. -/
def State.transmit (s : State) : State :=
  if s.line.transmitting.isSome || s.desk.isOffline then s
  else
    match s.line.replies, s.desk.lookupList, s.desk.notices, s.desk.uploadList with
    | r :: rest, _, _, _ => s.send (.reply r) s.desk rest
    | [], f :: rest, _, _ => s.send (.lookup f) { s.desk with lookupList := rest } []
    | [], [], n :: rest, _ => s.send (.notice n) { s.desk with notices := rest } []
    | [], [], [], f :: rest => s.send (.upload f) { s.desk with uploadList := rest } []
    | [], [], [], [] => s

/-- A command reaches a part that has power, and the arbiter takes a frame when it may (log 5, log 7). -/
def State.powered (s : State) (f : State → State) : State := if s.desk.power.on then (f s).transmit else s

/-- A command that acts on the desk alone. -/
def State.poweredDesk (s : State) (f : Desk → Desk) : State := s.powered fun s => s.onDesk f

/-! ## Valid frames (R185, R188, R190) -/

def replyCapacity : Nat := 8

/-- A valid frame restarts the liveness timer; an OFFLINE link becomes ONLINE and a waiting upload may start (R185, R190). -/
def Desk.frameArrives (d : Desk) : Desk :=
  let online := { d with link := .online d.settings.linkTimeout }
  if d.isOffline then online.tryWaitingUpload else online

/-- A frame that finds the reply queue full: discarded, counted, LINK_OVERRUN raised (R185). -/
def State.overrun (s : State) : State :=
  (s.onLine fun l => { l with overruns := saturate16 (l.overruns + 1) }).onDesk fun d => d.raiseAlarm .linkOverrun

/-- A valid frame: discarded while a RESET waits, an overrun when the reply queue holds 8, else dispatched (R185). -/
def State.takeValid (s : State) (dispatch : State → State) : State :=
  let s := s.onDesk Desk.frameArrives
  if s.line.resetWaiting then s
  else if replyCapacity ≤ s.line.replies.length then s.overrun
  else dispatch s

/-- A reply is placed at the tail of the reply queue (R188). -/
def State.queueReply (s : State) (r : Reply) : State := s.onLine fun l => { l with replies := l.replies ++ [r] }

/-- The owner's decision with its reply. -/
def State.answer (s : State) (tag : Byte) (x : Decision) : State :=
  ({ s with desk := x.desk }).queueReply ⟨tag, x.status, x.data, false⟩

/-- A request that its owner decides against the desk. -/
def State.deskRequest (s : State) (tag : Byte) (decide : Desk → Decision) : State :=
  s.takeValid fun s => s.answer tag (decide s.desk)

/-- STATUS_READ: the bad-frame and overrun counts that the reply carries are set to 0 (R184, R185, R197). -/
def State.statusRequest (s : State) (tag : Byte) : State :=
  s.takeValid fun s =>
    (s.onLine fun l => { l with badFrames := 0, overruns := 0 }).answer tag
      ((s.desk.spendFree s.desk.uploadFramesExceed).answerData (statusBytes s.desk s.line))

/-- RESET: an OK reply, and from now on the reset waits to take effect (R195). -/
def State.resetRequest (s : State) (tag : Byte) : State :=
  s.takeValid fun s => (s.queueReply ⟨tag, .ok, [], true⟩).onLine fun l => { l with resetWaiting := true }

/-- A frame whose kind is not a server request (R185). -/
def State.badKind (s : State) (tag : Byte) : State := s.takeValid fun s => s.answer tag (s.desk.answer .badKind)

/-! ## Frames decoded to their requests (R186, R198) -/

/-- A request of an exact length; any other length is BAD_ARG (R185). -/
def Desk.sized (d : Desk) (n : Nat) (bs : List Byte) (f : Decision) : Decision := if bs.length = n then f else d.answer .badArg

/-- TABLE_WRITE by its table and operation bytes, each with the length of its entry or key (R198; a loan rule entry has the 14
bytes that R198 heads it with, log 24). -/
def Desk.tableWrite (d : Desk) (table op : Byte) (bs : List Byte) : Decision :=
  match table.toNat, op.toNat with
  | 1, 1 => d.sized 15 bs (d.putPrefix (.ofBytes bs))
  | 1, 2 => d.sized 1 bs (d.deletePrefix (byteAt bs 0))
  | 1, 3 => d.sized 0 bs d.clearPrefixes
  | 2, 1 => d.sized 7 bs (d.putWeekly (.ofBytes bs))
  | 2, 2 => d.sized 1 bs (d.deleteWeekly (byteAt bs 0))
  | 2, 3 => d.sized 0 bs d.clearWeekly
  | 3, 1 => d.sized 8 bs (d.putException (.ofBytes bs))
  | 3, 2 => d.sized 2 bs (d.deleteException (halfAt bs 0))
  | 3, 3 => d.sized 0 bs d.clearExceptions
  | 4, 1 => d.sized 16 bs (d.putBorrowerEntry (.ofBytes bs))
  | 4, 2 => d.sized 8 bs (d.deleteBorrower (codeAt bs 0))
  | 4, 3 => d.sized 0 bs d.clearBorrowers
  | 5, 1 => d.sized 15 bs (d.putBlock (.ofBytes bs))
  | 5, 2 => d.sized 10 bs (d.deleteBlock (.ofBytes bs))
  | 5, 3 => d.sized 0 bs d.clearBlocks
  | 6, 1 => d.sized 34 bs (d.putItemEntry (.ofBytes bs))
  | 6, 2 => d.sized 8 bs (d.deleteItem (codeAt bs 0))
  | 6, 3 => d.sized 0 bs d.clearItems
  | 7, 1 => d.sized 14 bs (d.putRule (.ofBytes bs))
  | 7, 2 => d.sized 2 bs (d.deleteRule (byteAt bs 0) (byteAt bs 1))
  | 7, 3 => d.sized 0 bs d.clearRules
  | 8, 1 => d.sized 7 bs (d.putCategory (.ofBytes bs))
  | 8, 2 => d.sized 1 bs (d.deleteCategory (byteAt bs 0))
  | 8, 3 => d.sized 0 bs d.clearCategories
  | _, _ => d.answer .badArg

/-- TABLE_READ by its table and mode bytes, each with the length of its key (R198). -/
def Desk.tableRead (d : Desk) (table mode : Byte) (bs : List Byte) : Decision :=
  match table.toNat, mode.toNat with
  | 1, 1 => d.sized 1 bs (d.readPrefix (byteAt bs 0))
  | 1, 2 => d.sized 1 bs (d.nextPrefix (byteAt bs 0))
  | 2, 1 => d.sized 1 bs (d.readWeekly (byteAt bs 0))
  | 2, 2 => d.sized 1 bs (d.nextWeekly (byteAt bs 0))
  | 3, 1 => d.sized 2 bs (d.readException (halfAt bs 0))
  | 3, 2 => d.sized 2 bs (d.nextException (halfAt bs 0))
  | 4, 1 => d.sized 8 bs (d.readBorrower (codeAt bs 0))
  | 4, 2 => d.sized 8 bs (d.nextBorrower (codeAt bs 0))
  | 5, 1 => d.sized 10 bs (d.readBlock (.ofBytes bs))
  | 5, 2 => d.sized 10 bs (d.nextBlock (.ofBytes bs))
  | 6, 1 => d.sized 8 bs (d.readItem (codeAt bs 0))
  | 6, 2 => d.sized 8 bs (d.nextItem (codeAt bs 0))
  | 7, 1 => d.sized 2 bs (d.readRule (byteAt bs 0) (byteAt bs 1))
  | 7, 2 => d.sized 2 bs (d.nextRule (byteAt bs 0) (byteAt bs 1))
  | 8, 1 => d.sized 1 bs (d.readCategory (byteAt bs 0))
  | 8, 2 => d.sized 1 bs (d.nextCategory (byteAt bs 0))
  | _, _ => d.answer .badArg

/-- DESK_MODE by its mode byte (R77). -/
def Desk.deskMode (d : Desk) (mode : Byte) : Decision :=
  match mode.toNat with
  | 1 => d.openDesk.answer .ok
  | 2 => d.closeDesk.answer .ok
  | _ => d.answer .badArg

/-- LOOKUP_REPLY by its answer byte (R47, R198). For not found R198 has 'the last six fields' not judged, but its layout has five
fields after the answer, 7 bytes; these are the bytes not judged, and the answer decides the case (log 27). -/
def Desk.lookupReply (d : Desk) (bs : List Byte) : Decision :=
  match (byteAt bs 8).toNat with
  | 1 => d.lookupFound (codeAt bs 0) (byteAt bs 9) (byteAt bs 10) (byteAt bs 11) (halfAt bs 12) (halfAt bs 14)
  | 2 => d.lookupNotFound (codeAt bs 0)
  | _ => d.answer .badArg

/-- A request of any kind but STATUS_READ and RESET, decoded from its payload. -/
def Desk.request (d : Desk) (kind : Nat) (bs : List Byte) : Decision :=
  match kind with
  | 0x01 => if 2 ≤ bs.length then d.tableWrite (byteAt bs 0) (byteAt bs 1) (bs.drop 2) else d.answer .badArg
  | 0x02 => if 2 ≤ bs.length then d.tableRead (byteAt bs 0) (byteAt bs 1) (bs.drop 2) else d.answer .badArg
  | 0x03 => d.sized 6 bs (d.writeSetting (byteAt bs 0) (byteAt bs 1) (wordAt bs 2))
  | 0x04 => d.sized 2 bs (d.readSetting (byteAt bs 0) (byteAt bs 1))
  | 0x05 => d.sized 5 bs (d.timeMark (halfAt bs 0) (halfAt bs 2) (byteAt bs 4))
  | 0x06 => d.sized 5 bs (d.clockSet (halfAt bs 0) (halfAt bs 2) (byteAt bs 4))
  | 0x07 => d.sized 1 bs (d.deskMode (byteAt bs 0))
  | 0x09 => d.sized 1 bs (d.stationStatus (byteAt bs 0))
  | 0x0a => d.sized 0 bs d.alarmRead
  | 0x0b => d.sized 2 bs (d.alarmClear (byteAt bs 0) (byteAt bs 1))
  | 0x0c => d.sized 2 bs ((d.promptClear (byteAt bs 0) (byteAt bs 1)).1.answer (d.promptClear (byteAt bs 0) (byteAt bs 1)).2)
  | 0x0d => d.sized 16 bs (d.lookupReply bs)
  | 0x0e => d.sized 0 bs d.uploadStart
  | 0x0f => d.sized 5 bs (d.uploadTaken (wordAt bs 0) (byteAt bs 4))
  | 0x10 => d.sized 0 bs d.uploadResume
  | 0x11 => d.sized 0 bs d.uploadAbort
  | _ => d.answer .badArg

/-- A valid frame, by its kind (R185). -/
def State.takeFrame (s : State) (kind tag : Byte) (payload : List Byte) : State :=
  if !isRequestKind kind then s.badKind tag
  else if kind = 0x08 && payload.isEmpty then s.statusRequest tag
  else if kind = 0x12 && payload.isEmpty then s.resetRequest tag
  else s.deskRequest tag fun d => d.request kind.toNat payload

/-! ## The receive framer (R183, R184) -/

/-- The receive gap timer's duration, ms. -/
def receiveGap : Nat := 50

def longestPayload : Nat := 1020

/-- What a byte leads to besides the framer's new state: nothing, a frame whose check differs, or a valid frame. -/
inductive FrameEvent
  | none
  | bad
  | valid (kind tag : Byte) (payload : List Byte)
  deriving DecidableEq, Repr

/-- The framer after the second length byte. -/
def Framer.afterHeader (kind tag : Byte) (length : Nat) : Framer :=
  if longestPayload < length then .hunting
  else if length = 0 then .check kind tag [] none
  else .payload kind tag length []

/-- The judgement of a frame whose second check byte has come (R184). -/
def judgeFrame (kind tag : Byte) (payload : List Byte) (first second : Byte) : FrameEvent :=
  if (crc16 ([kind, tag] ++ bytesOf 2 payload.length ++ payload)).toNat = numberOf [first, second] then
    .valid kind tag payload
  else .bad

/-- A received byte at the framer (R183); none is a broken byte. -/
def Framer.take (f : Framer) (b : Option Byte) : Framer × FrameEvent :=
  match f, b with
  | .hunting, some x => (if x = 0xa5 then .header [] else .hunting, .none)
  | _, none => (.hunting, .none)
  | .header kept, some x =>
    match kept with
    | [kind, tag, high] => (.afterHeader kind tag (numberOf [high, x]), .none)
    | _ => (.header (kept ++ [x]), .none)
  | .payload kind tag length kept, some x =>
    (if kept.length + 1 < length then .payload kind tag length (kept ++ [x]) else .check kind tag (kept ++ [x]) Option.none,
      .none)
  | .check kind tag body first, some x =>
    match first with
    | Option.none => (.check kind tag body (some x), .none)
    | some c => (.hunting, judgeFrame kind tag body c x)

def Framer.isHunting : Framer → Bool
  | .hunting => true
  | _ => false

/-- The framer takes its new state; the gap timer runs outside HUNTING and restarts at each byte kept. -/
def LinkLine.setFramer (l : LinkLine) (f : Framer) : LinkLine :=
  { l with framer := f, gapTimer := if f.isHunting then none else some receiveGap }

/-- A frame whose check differs is abandoned and counted (R184). -/
def LinkLine.badFrame (l : LinkLine) : LinkLine :=
  { l.setFramer .hunting with badFrames := saturate16 (l.badFrames + 1) }

/-- Expiry of the receive gap timer abandons the frame, uncounted (R183). -/
def LinkLine.gapExpiry (l : LinkLine) : LinkLine := if l.framer.isHunting then l else l.setFramer .hunting

/-- A byte received on the link. -/
def State.receive (s : State) (b : Option Byte) : State :=
  let r := s.line.framer.take b
  let s := s.onLine fun l => l.setFramer r.1
  match r.2 with
  | .none => s
  | .bad => s.onLine LinkLine.badFrame
  | .valid kind tag payload => s.takeFrame kind tag payload

/-! ## The link reset (R195) -/

/-- Every unit's part of a link reset (R19, R31, R70, R101, R136, R152, R153, R168, R181, R195). The notices of the reports
made after it stay in the pending set, which is emptied first. -/
def Desk.linkReset (d : Desk) : Desk :=
  let d := { d with
    link := .offline, lookupList := [], uploadList := [], notices := [], scan := .all .restart, sweep := none,
    clock := { d.clock with pendingMark := none }, arbiters := .all .restart }
  ((d.restartEngine.restartSlips d.slips.lastSlips).restartUpload.appendPlain none (.restart .link)).reportSync

/-- The link reset takes effect; a frame whose sending has begun is sent to its end (R195). -/
def State.linkReset (s : State) : State :=
  (s.onDesk Desk.linkReset).onLine fun l => { LinkLine.reset l.rate with transmitting := l.transmitting }

/-! ## Frames that have been sent (R173, R189, R195) -/

def State.frameSent (s : State) : State :=
  let free := s.onLine fun l => { l with transmitting := none }
  match s.line.transmitting with
  | some (.reply r) => if r.resets then free.linkReset else free
  | some (.upload (.block first count _ _)) => free.onDesk fun d => d.blockSent first count
  | _ => free

/-! ## The link becomes OFFLINE (R190, R195) -/

/-- The reply to a RESET is being sent. -/
def LinkLine.sendsReset (l : LinkLine) : Bool :=
  match l.transmitting with
  | some (.reply r) => r.resets
  | _ => false

/-- The link becomes OFFLINE with all its effects (R51, R176, R188, R190; log 10). -/
def Desk.linkLost (d : Desk) : Desk :=
  (({ d with link := .offline, lookupList := [], uploadList := [] }).endAllLookups).uploadLinkLost

/-- Expiry of the liveness timer; a RESET whose reply has not begun to be sent takes effect (R195; log 18). -/
def State.livenessExpiry (s : State) : State :=
  if s.desk.isOffline then s
  else
    let s := (s.onDesk Desk.linkLost).onLine fun l => { l with replies := [] }
    if s.line.resetWaiting && !s.line.sendsReset then s.linkReset else s

end Sys2Proof.Machine
end

