-- ==== Sys2Proof/Machine/Restart.lean ====
section
/-! DEFINITION. Power: the outage, the battery-good latch, the warm start and the cold start (R19, R20, R31, R101, R136, R152,
R166, R167, R181, R191, R196). -/

namespace Sys2Proof.Machine

/-! ## Straps (R182) -/

def LinkRate.ofStraps (x : Straps) : LinkRate :=
  match x.third, x.second, x.first with
  | false, false, false => .r19200
  | false, false, true => .r28800
  | false, true, false => .r38400
  | false, true, true => .r57600
  | true, false, false => .r76800
  | true, false, true => .r115200
  | true, true, false => .r230400
  | true, true, true => .r460800

/-! ## The outage -/

/-- An alarm without its flag, count and condition. POWER_RESTORED and COLD_START keep their counts (R191). -/
def AlarmSet.restart (a : AlarmSet) : AlarmSet :=
  { journalHigh := .clear, journalFull := .clear, printer0Fault := .clear, printer1Fault := .clear, clockUnsynced := .clear,
    uploadStalled := .clear, clockDispute := .clear, tableFull := .clear, linkOverrun := .clear,
    powerRestored := { a.powerRestored with active := false, holds := false },
    coldStart := { a.coldStart with active := false, holds := false } }

/-- The volatile state is lost with the power: everything outside the retained domain. -/
def Desk.loseVolatile (d : Desk) : Desk :=
  let d := { d with
    sweep := none, scan := .all .restart, arbiters := .all .restart, link := .offline, lookupList := [], uploadList := [],
    notices := [], alarms := d.alarms.restart }
  (d.restartEngine.restartSlips (.all none)).restartUpload

/-- Main power fails: the volatile state is lost and the latch of the battery-good input is armed (R196). -/
def State.powerFail (s : State) : State :=
  if s.desk.power.on then
    { s with desk := { s.desk.loseVolatile with power := ⟨false, false⟩ }, line := .reset s.line.rate }
  else s

/-- The battery-good input falls; the part latches it while main power is absent (R196). -/
def State.batteryFall (s : State) : State :=
  if s.desk.power.on then s else s.onDesk fun d => { d with power := ⟨false, true⟩ }

/-- A completed second. R20, R21, R22 and R29 exempt no outage: with power or without it, for as long as the battery holds, the
clock counts, raises the day-change event of a day that rose, announces a changed minute and reports the sync state. Without
power nothing is sent, and what the event and the reports write outside the retained domain is lost at the restart (log 5). -/
def State.second (s : State) : State :=
  if s.desk.power.on then s.poweredDesk Desk.second
  else if s.desk.power.batteryFell then s
  else s.onDesk Desk.second

/-! ## Power-up (R196) -/

/-- The cold start: every unit at its cold-start state. -/
def State.coldStart (s : State) (x : Straps) : State :=
  { s with desk := { Desk.reset with freeIndex := s.desk.freeIndex }, line := .reset (.ofStraps x) }

/-- The desk's part of a warm start: the alarm raises, the Journal's reports and its RESTART record, the pending mark applied
as the desk becomes CLOSED, the clock's report. A pending mark that lands on the upload minute sets upload-waiting (R170)
after the restart has cleared it (R171, R181), so that the flag is set after the warm start (log 19). -/
def Desk.warmStart (d : Desk) : Desk :=
  let d := ({ d.loseVolatile with power := ⟨true, false⟩ }).raiseAlarm .powerRestored
  ((d.evaluateJournal.appendPlain none (.restart .warm)).applyPendingMark).reportSync

/-- The warm start; with the latch fallen the restart is a cold start (log 6). -/
def State.warmStart (s : State) (x : Straps) : State :=
  if s.desk.power.batteryFell then s.coldStart x
  else { s with desk := s.desk.warmStart, line := .reset (.ofStraps x) }

/-! ## The reference (R20; log 2) -/

/-- One cycle of the 32,768 Hz reference: the prescaler counts it, and completes a second at 32,768. -/
def State.cycle (s : State) : State :=
  if !s.desk.power.on && s.desk.power.batteryFell then s
  else if s.desk.clock.prescaler + 1 < 32768 then
    s.onDesk fun d => { d with clock := { d.clock with prescaler := d.clock.prescaler + 1 } }
  else s.second

end Sys2Proof.Machine
end

