-- ==== Sys2Proof/Machine/ClockCommands.lean ====
section
/-! DEFINITION. The meanings of seconds, the sweep, and power. -/

namespace Sys2Proof.Machine

/-- SECOND_COMPLETE (R20, R29). -/
def execSecondComplete (s : State) : Host.Outcome State Fault Refusal :=
  .next (s.second)

/-- SWEEP_STEP (R59, R70, R71). -/
def execSweepStep (s : State) : Host.Outcome State Fault Refusal :=
  .next (s.poweredDesk fun d => d.sweepStep)

/-- MAIN_POWER_FAIL (R196, R158). -/
def execMainPowerFail (s : State) : Host.Outcome State Fault Refusal :=
  .next (s.powerFail)

/-- BATTERY_GOOD_FALL (R196). -/
def execBatteryGoodFall (s : State) : Host.Outcome State Fault Refusal :=
  .next (s.batteryFall)

/-- WARM_START (R196, R166). -/
def execWarmStart (straps : Straps) (s : State) : Host.Outcome State Fault Refusal :=
  .next (s.warmStart straps)

/-- COLD_START (R196, R167). -/
def execColdStart (straps : Straps) (s : State) : Host.Outcome State Fault Refusal :=
  .next (s.coldStart straps)

end Sys2Proof.Machine
end

