-- ==== Sys2Proof/Machine/LinkCommands.lean ====
section
/-! DEFINITION. The meanings of the link itself. -/

namespace Sys2Proof.Machine

/-- TAKEN_TIMEOUT (R176). -/
def execTakenTimeout (s : State) : Host.Outcome State Fault Refusal :=
  .next (s.poweredDesk fun d => d.takenExpiry)

/-- LINK_RESET (R195): the link reset takes effect. -/
def execLinkReset (s : State) : Host.Outcome State Fault Refusal :=
  .next (s.powered fun s => s.linkReset)

/-- BAD_KIND_FRAME (R185): a valid frame whose kind is not a server request. -/
def execBadKindFrame (tag kind : Byte) (s : State) : Host.Outcome State Fault Refusal :=
  .next (s.powered fun s => if isRequestKind kind then s else s.badKind tag)

/-- LINK_BAD_FRAME (R184). -/
def execLinkBadFrame (s : State) : Host.Outcome State Fault Refusal :=
  .next (s.powered fun s => s.onLine LinkLine.badFrame)

/-- RECEIVE_GAP_EXPIRY (R183). -/
def execReceiveGapExpiry (s : State) : Host.Outcome State Fault Refusal :=
  .next (s.powered fun s => s.onLine LinkLine.gapExpiry)

/-- LIVENESS_EXPIRY (R190). -/
def execLivenessExpiry (s : State) : Host.Outcome State Fault Refusal :=
  .next (s.powered fun s => s.livenessExpiry)

/-- FRAME_SENT (R189). -/
def execFrameSent (s : State) : Host.Outcome State Fault Refusal :=
  .next (s.powered fun s => s.frameSent)

/-- LINK_BYTE_RECEIVED (R183, R184): the framer takes a byte, with the request that it completes. -/
def execLinkByteReceived (b : Option Byte) (s : State) : Host.Outcome State Fault Refusal :=
  .next (s.powered fun s => s.receive b)

end Sys2Proof.Machine
end

