-- ==== Sys2Proof/Machine/PrinterCommands.lean ====
section
/-! DEFINITION. The meanings of the printers. -/

namespace Sys2Proof.Machine

/-- PRINTER_LINE_SENT (R146). -/
def execPrinterLineSent (p : PrinterId) (s : State) : Host.Outcome State Fault Refusal :=
  .next (s.poweredDesk fun d => d.lineSent p)

/-- PRINTER_READY_ANSWER (R146, R147): the character R. -/
def execPrinterReadyAnswer (p : PrinterId) (s : State) : Host.Outcome State Fault Refusal :=
  .next (s.poweredDesk fun d => d.readyAnswer p)

/-- PRINTER_PAPER_OUT_ANSWER (R147): the character P. -/
def execPrinterPaperOutAnswer (p : PrinterId) (s : State) : Host.Outcome State Fault Refusal :=
  .next (s.poweredDesk fun d => d.paperOutAnswer p)

/-- PRINTER_FAULT_ANSWER (R145, R147): F, any other character, or one with a framing error. -/
def execPrinterFaultAnswer (p : PrinterId) (c : Option Byte) (s : State) : Host.Outcome State Fault Refusal :=
  .next (s.poweredDesk fun d => d.printerCharacter p c)

/-- LINE_TIMEOUT (R147). -/
def execLineTimeout (p : PrinterId) (s : State) : Host.Outcome State Fault Refusal :=
  .next (s.poweredDesk fun d => d.lineExpiry p)

end Sys2Proof.Machine
end

