-- ==== Sys2Proof/Machine/RequestCommands.lean ====
section
/-! DEFINITION. The meanings of the server's requests but for settings and tables. -/

namespace Sys2Proof.Machine

/-- TIME_MARK (R24, R25). -/
def execTimeMark (tag : Byte) (day minute : Half) (second : Byte) (s : State) : Host.Outcome State Fault Refusal :=
  .next (s.powered fun s => s.deskRequest tag fun d => d.timeMark day minute second)

/-- CLOCK_SET (R28). -/
def execClockSet (tag : Byte) (day minute : Half) (second : Byte) (s : State) : Host.Outcome State Fault Refusal :=
  .next (s.powered fun s => s.deskRequest tag fun d => d.clockSet day minute second)

/-- DESK_MODE OPEN (R77). -/
def execDeskModeOpen (tag : Byte) (s : State) : Host.Outcome State Fault Refusal :=
  .next (s.powered fun s => s.deskRequest tag fun d => d.openDesk.answer .ok)

/-- DESK_MODE CLOSE (R77, R78). -/
def execDeskModeClose (tag : Byte) (s : State) : Host.Outcome State Fault Refusal :=
  .next (s.powered fun s => s.deskRequest tag fun d => d.closeDesk.answer .ok)

/-- STATUS_READ (R197). -/
def execStatusRead (tag : Byte) (s : State) : Host.Outcome State Fault Refusal :=
  .next (s.powered fun s => s.statusRequest tag)

/-- STATION_STATUS (R3, R81, R136, R151). -/
def execStationStatus (tag station : Byte) (s : State) : Host.Outcome State Fault Refusal :=
  .next (s.powered fun s => s.deskRequest tag fun d => d.stationStatus station)

/-- ALARM_READ (R192). -/
def execAlarmRead (tag : Byte) (s : State) : Host.Outcome State Fault Refusal :=
  .next (s.powered fun s => s.deskRequest tag fun d => d.alarmRead)

/-- ALARM_CLEAR (R192). -/
def execAlarmClear (tag alarm count : Byte) (s : State) : Host.Outcome State Fault Refusal :=
  .next (s.powered fun s => s.deskRequest tag fun d => d.alarmClear alarm count)

/-- PROMPT_CLEAR (R131). -/
def execPromptClear (tag station source : Byte) (s : State) : Host.Outcome State Fault Refusal :=
  .next (s.powered fun s => s.deskRequest tag fun d =>
    (d.promptClear station source).1.answer (d.promptClear station source).2)

/-- LOOKUP_REPLY, found (R47, R48, R52). -/
def execLookupReplyFound (tag : Byte) (card : CodeField) (category loansHeld holdsReady : Byte) (finesOwed expiryDay : Half)
    (s : State) : Host.Outcome State Fault Refusal :=
  .next (s.powered fun s => s.deskRequest tag fun d => d.lookupFound card category loansHeld holdsReady finesOwed expiryDay)

/-- LOOKUP_REPLY, not found (R47, R49, R53). -/
def execLookupReplyNotFound (tag : Byte) (card : CodeField) (s : State) : Host.Outcome State Fault Refusal :=
  .next (s.powered fun s => s.deskRequest tag fun d => d.lookupNotFound card)

/-- UPLOAD_START (R172). -/
def execUploadStart (tag : Byte) (s : State) : Host.Outcome State Fault Refusal :=
  .next (s.powered fun s => s.deskRequest tag fun d => d.uploadStart)

/-- UPLOAD_TAKEN (R174). -/
def execUploadTaken (tag : Byte) (first : Word) (count : Byte) (s : State) : Host.Outcome State Fault Refusal :=
  .next (s.powered fun s => s.deskRequest tag fun d => d.uploadTaken first count)

/-- UPLOAD_RESUME (R177). -/
def execUploadResume (tag : Byte) (s : State) : Host.Outcome State Fault Refusal :=
  .next (s.powered fun s => s.deskRequest tag fun d => d.uploadResume)

/-- UPLOAD_ABORT (R178). -/
def execUploadAbort (tag : Byte) (s : State) : Host.Outcome State Fault Refusal :=
  .next (s.powered fun s => s.deskRequest tag fun d => d.uploadAbort)

/-- RESET (R195). -/
def execReset (tag : Byte) (s : State) : Host.Outcome State Fault Refusal :=
  .next (s.powered fun s => s.resetRequest tag)

end Sys2Proof.Machine
end

