-- ==== Sys2Proof/Machine/SettingCommands.lean ====
section
/-! DEFINITION. The meanings of the settings. -/

namespace Sys2Proof.Machine

/-- CONFIG_READ (R187). -/
def execConfigRead (tag setting index : Byte) (s : State) : Host.Outcome State Fault Refusal :=
  .next (s.powered fun s => s.deskRequest tag fun d => d.readSetting setting index)

/-- CONFIG_WRITE_READS_REQUIRED (R187, R7). -/
def execConfigWriteReadsRequired (tag index : Byte) (value : Word) (s : State) : Host.Outcome State Fault Refusal :=
  .next (s.powered fun s => s.deskRequest tag fun d => d.writeReadsRequired index value)

/-- CONFIG_WRITE_PAIRING_WINDOW (R187, R7). -/
def execConfigWritePairingWindow (tag index : Byte) (value : Word) (s : State) : Host.Outcome State Fault Refusal :=
  .next (s.powered fun s => s.deskRequest tag fun d => d.writePairingWindow index value)

/-- CONFIG_WRITE_SUPPRESSION_WINDOW (R187, R9). -/
def execConfigWriteSuppressionWindow (tag index : Byte) (value : Word) (s : State) : Host.Outcome State Fault Refusal :=
  .next (s.powered fun s => s.deskRequest tag fun d => d.writeSuppressionWindow index value)

/-- CONFIG_WRITE_TIME_SOURCE (R187, R23). -/
def execConfigWriteTimeSource (tag : Byte) (value : Word) (s : State) : Host.Outcome State Fault Refusal :=
  .next (s.powered fun s => s.deskRequest tag fun d => d.writeTimeSource value)

/-- CONFIG_WRITE_STEP_LIMIT (R187, R30). -/
def execConfigWriteStepLimit (tag : Byte) (value : Word) (s : State) : Host.Outcome State Fault Refusal :=
  .next (s.powered fun s => s.deskRequest tag fun d => d.writeStepLimit value)

/-- CONFIG_WRITE_MARK_AGE_LIMIT (R187, R30). -/
def execConfigWriteMarkAgeLimit (tag : Byte) (value : Word) (s : State) : Host.Outcome State Fault Refusal :=
  .next (s.powered fun s => s.deskRequest tag fun d => d.writeMarkAgeLimit value)

/-- CONFIG_WRITE_LOOKUP_TIMEOUT (R187, R46). -/
def execConfigWriteLookupTimeout (tag : Byte) (value : Word) (s : State) : Host.Outcome State Fault Refusal :=
  .next (s.powered fun s => s.deskRequest tag fun d => d.writeLookupTimeout value)

/-- CONFIG_WRITE_STATION_ENABLED (R187, R80, R4). -/
def execConfigWriteStationEnabled (tag index : Byte) (value : Word) (s : State) : Host.Outcome State Fault Refusal :=
  .next (s.powered fun s => s.deskRequest tag fun d => d.writeStationEnabled index value)

/-- CONFIG_WRITE_IDLE_TIMEOUT (R187, R76, R82). -/
def execConfigWriteIdleTimeout (tag index : Byte) (value : Word) (s : State) : Host.Outcome State Fault Refusal :=
  .next (s.powered fun s => s.deskRequest tag fun d => d.writeIdleTimeout index value)

/-- CONFIG_WRITE_SLIP_PRINTING (R187, R76). -/
def execConfigWriteSlipPrinting (tag index : Byte) (value : Word) (s : State) : Host.Outcome State Fault Refusal :=
  .next (s.powered fun s => s.deskRequest tag fun d => d.writeSlipPrinting index value)

/-- CONFIG_WRITE_PAD_PULSE (R187, R76, R102). -/
def execConfigWritePadPulse (tag index : Byte) (value : Word) (s : State) : Host.Outcome State Fault Refusal :=
  .next (s.powered fun s => s.deskRequest tag fun d => d.writePadPulse index value)

/-- CONFIG_WRITE_CLOSING_GRACE (R187, R76, R78). -/
def execConfigWriteClosingGrace (tag : Byte) (value : Word) (s : State) : Host.Outcome State Fault Refusal :=
  .next (s.powered fun s => s.deskRequest tag fun d => d.writeClosingGrace value)

/-- CONFIG_WRITE_RETURNS_WHEN_CLOSED (R187, R76). -/
def execConfigWriteReturnsWhenClosed (tag : Byte) (value : Word) (s : State) : Host.Outcome State Fault Refusal :=
  .next (s.powered fun s => s.deskRequest tag fun d => d.writeReturnsWhenClosed value)

/-- CONFIG_WRITE_MINIMUM_REMAINING (R187, R106). -/
def execConfigWriteMinimumRemaining (tag : Byte) (value : Word) (s : State) : Host.Outcome State Fault Refusal :=
  .next (s.powered fun s => s.deskRequest tag fun d => d.writeMinimumRemaining value)

/-- CONFIG_WRITE_PRECEDENCE_LIST (R187, R123). -/
def execConfigWritePrecedenceList (tag : Byte) (value : Word) (s : State) : Host.Outcome State Fault Refusal :=
  .next (s.powered fun s => s.deskRequest tag fun d => d.writePrecedenceList value)

/-- CONFIG_WRITE_LEVEL_MASKS (R187, R124). -/
def execConfigWriteLevelMasks (tag index : Byte) (value : Word) (s : State) : Host.Outcome State Fault Refusal :=
  .next (s.powered fun s => s.deskRequest tag fun d => d.writeLevelMasks index value)

/-- CONFIG_WRITE_DISPLAY_TIME (R187, R128). -/
def execConfigWriteDisplayTime (tag : Byte) (value : Word) (s : State) : Host.Outcome State Fault Refusal :=
  .next (s.powered fun s => s.deskRequest tag fun d => d.writeDisplayTime value)

/-- CONFIG_WRITE_PRINTER_ASSIGNMENT (R187, R141, R143). -/
def execConfigWritePrinterAssignment (tag index : Byte) (value : Word) (s : State) : Host.Outcome State Fault Refusal :=
  .next (s.powered fun s => s.deskRequest tag fun d => d.writePrinterAssignment index value)

/-- CONFIG_WRITE_FAILOVER (R187, R141, R149). -/
def execConfigWriteFailover (tag index : Byte) (value : Word) (s : State) : Host.Outcome State Fault Refusal :=
  .next (s.powered fun s => s.deskRequest tag fun d => d.writeFailover index value)

/-- CONFIG_WRITE_LINE_TIMEOUT (R187, R141). -/
def execConfigWriteLineTimeout (tag index : Byte) (value : Word) (s : State) : Host.Outcome State Fault Refusal :=
  .next (s.powered fun s => s.deskRequest tag fun d => d.writeLineTimeout index value)

/-- CONFIG_WRITE_RETURN_RESERVE (R187, R162). -/
def execConfigWriteReturnReserve (tag : Byte) (value : Word) (s : State) : Host.Outcome State Fault Refusal :=
  .next (s.powered fun s => s.deskRequest tag fun d => d.writeReturnReserve value)

/-- CONFIG_WRITE_HIGH_WATER_PERCENTAGE (R187, R162). -/
def execConfigWriteHighWaterPercentage (tag : Byte) (value : Word) (s : State) : Host.Outcome State Fault Refusal :=
  .next (s.powered fun s => s.deskRequest tag fun d => d.writeHighWater value)

/-- CONFIG_WRITE_UPLOAD_MINUTE (R187, R169). -/
def execConfigWriteUploadMinute (tag : Byte) (value : Word) (s : State) : Host.Outcome State Fault Refusal :=
  .next (s.powered fun s => s.deskRequest tag fun d => d.writeUploadMinute value)

/-- CONFIG_WRITE_TAKEN_TIMEOUT (R187, R169). -/
def execConfigWriteTakenTimeout (tag : Byte) (value : Word) (s : State) : Host.Outcome State Fault Refusal :=
  .next (s.powered fun s => s.deskRequest tag fun d => d.writeTakenTimeout value)

/-- CONFIG_WRITE_LINK_TIMEOUT (R187, R190). -/
def execConfigWriteLinkTimeout (tag : Byte) (value : Word) (s : State) : Host.Outcome State Fault Refusal :=
  .next (s.powered fun s => s.deskRequest tag fun d => d.writeLinkTimeout value)

/-- CONFIG_WRITE_NOTICE_ROUTING (R187, R193). -/
def execConfigWriteNoticeRouting (tag index : Byte) (value : Word) (s : State) : Host.Outcome State Fault Refusal :=
  .next (s.powered fun s => s.deskRequest tag fun d => d.writeNoticeRouting index value)

end Sys2Proof.Machine
end

