-- ==== Sys2Proof/Machine/StationCommands.lean ====
section
/-! DEFINITION. The meanings of the stations' commands: wand characters, command cards, the engine's and the displays' timers. -/

namespace Sys2Proof.Machine

/-- WAND_CHARACTER (R1): the wand receiver takes a character, with everything it leads to (R2 to R18, R79 to R100). -/
def execWandCharacter (st : StationId) (c : Option Byte) (s : State) : Host.Outcome State Fault Refusal :=
  .next (s.poweredDesk fun d => d.wandCharacter st c)

/-- CHARACTER_GAP_EXPIRY (R2). -/
def execCharacterGapExpiry (st : StationId) (s : State) : Host.Outcome State Fault Refusal :=
  .next (s.poweredDesk fun d => d.onScan st ScanStation.gapExpiry)

/-- PAIRING_TIMER_EXPIRY (R6). -/
def execPairingTimerExpiry (st : StationId) (s : State) : Host.Outcome State Fault Refusal :=
  .next (s.poweredDesk fun d => d.onScan st ScanStation.pairingExpiry)

/-- SUPPRESSION_TIMER_EXPIRY (R8). -/
def execSuppressionTimerExpiry (st : StationId) (s : State) : Host.Outcome State Fault Refusal :=
  .next (s.poweredDesk fun d => d.onScan st ScanStation.suppressionExpiry)

/-- LOAN_MODE (R80, R98). -/
def execLoanMode (st : StationId) (s : State) : Host.Outcome State Fault Refusal :=
  .next (s.poweredDesk fun d => d.setMode st .loan)

/-- RETURN_MODE (R80, R98). -/
def execReturnMode (st : StationId) (s : State) : Host.Outcome State Fault Refusal :=
  .next (s.poweredDesk fun d => d.setMode st .ret)

/-- RENEW_MODE (R80, R98). -/
def execRenewMode (st : StationId) (s : State) : Host.Outcome State Fault Refusal :=
  .next (s.poweredDesk fun d => d.setMode st .renew)

/-- END (R98, R99). -/
def execEndCard (st : StationId) (s : State) : Host.Outcome State Fault Refusal :=
  .next (s.poweredDesk fun d => d.endCard st)

/-- CANCEL_LAST (R97, R98). -/
def execCancelLast (st : StationId) (s : State) : Host.Outcome State Fault Refusal :=
  .next (s.poweredDesk fun d => d.cancelCard st)

/-- OVERRIDE (R89, R98). -/
def execOverrideCard (st : StationId) (s : State) : Host.Outcome State Fault Refusal :=
  .next (s.poweredDesk fun d => d.overrideCard st)

/-- CLEAR (R98, R130). -/
def execClearCard (st : StationId) (s : State) : Host.Outcome State Fault Refusal :=
  .next (s.poweredDesk fun d => d.clearCard st)

/-- REPRINT (R98, R140). -/
def execReprint (st : StationId) (s : State) : Host.Outcome State Fault Refusal :=
  .next (s.poweredDesk fun d => d.reprintCard st)

/-- SKIP_SLIP (R98, R144). -/
def execSkipSlip (st : StationId) (s : State) : Host.Outcome State Fault Refusal :=
  .next (s.poweredDesk fun d => d.skipCard st)

/-- PAD_PULSE_EXPIRY (R102). -/
def execPadPulseExpiry (st : StationId) (s : State) : Host.Outcome State Fault Refusal :=
  .next (s.poweredDesk fun d => d.padQuiet st)

/-- IDLE_TIMEOUT (R82): the session ends as R99 states. -/
def execIdleTimeout (st : StationId) (s : State) : Host.Outcome State Fault Refusal :=
  .next (s.poweredDesk fun d => d.closeSession st)

/-- OVERRIDE_ARM_EXPIRY (R89). -/
def execOverrideArmExpiry (st : StationId) (s : State) : Host.Outcome State Fault Refusal :=
  .next (s.poweredDesk fun d => d.armExpiry st)

/-- CLOSING_GRACE_EXPIRY (R78). -/
def execClosingGraceExpiry (s : State) : Host.Outcome State Fault Refusal :=
  .next (s.poweredDesk fun d => d.graceExpiry)

/-- LOOKUP_TIMEOUT (R50, R51). -/
def execLookupTimeout (st : StationId) (s : State) : Host.Outcome State Fault Refusal :=
  .next (s.poweredDesk fun d => d.lookupExpiry st)

/-- DISPLAY_TIMER_EXPIRY (R128). -/
def execDisplayTimerExpiry (st : StationId) (s : State) : Host.Outcome State Fault Refusal :=
  .next (s.poweredDesk fun d => d.onArbiter st (Arbiter.displayExpiry (d.arbiterSettings st)))

/-- DISPLAY_RECORD_SENT (R127). -/
def execDisplayRecordSent (st : StationId) (s : State) : Host.Outcome State Fault Refusal :=
  .next (s.poweredDesk fun d => d.onArbiter st Arbiter.recordSent)

/-- TONE_PATTERN_END (R135). -/
def execTonePatternEnd (st : StationId) (s : State) : Host.Outcome State Fault Refusal :=
  .next (s.poweredDesk fun d => d.onArbiter st Arbiter.toneEnd)

end Sys2Proof.Machine
end

