-- ==== Sys2Proof/Machine/TableCommands.lean ====
section
/-! DEFINITION. The meanings of the tables. -/

namespace Sys2Proof.Machine

/-- TABLE_WRITE_PREFIX_PUT (R10). -/
def execTableWritePrefixPut (tag : Byte) (e : PrefixWire) (s : State) : Host.Outcome State Fault Refusal :=
  .next (s.powered fun s => s.deskRequest tag fun d => d.putPrefix e)

/-- TABLE_WRITE_PREFIX_DELETE (R11). -/
def execTableWritePrefixDelete (tag slot : Byte) (s : State) : Host.Outcome State Fault Refusal :=
  .next (s.powered fun s => s.deskRequest tag fun d => d.deletePrefix slot)

/-- TABLE_WRITE_PREFIX_CLEAR_ALL (R11). -/
def execTableWritePrefixClearAll (tag : Byte) (s : State) : Host.Outcome State Fault Refusal :=
  .next (s.powered fun s => s.deskRequest tag fun d => d.clearPrefixes)

/-- TABLE_WRITE_WEEKLY_HOURS_PUT (R32). -/
def execTableWriteWeeklyHoursPut (tag : Byte) (e : WeeklyWire) (s : State) : Host.Outcome State Fault Refusal :=
  .next (s.powered fun s => s.deskRequest tag fun d => d.putWeekly e)

/-- TABLE_WRITE_WEEKLY_HOURS_DELETE (R32). -/
def execTableWriteWeeklyHoursDelete (tag weekday : Byte) (s : State) : Host.Outcome State Fault Refusal :=
  .next (s.powered fun s => s.deskRequest tag fun d => d.deleteWeekly weekday)

/-- TABLE_WRITE_WEEKLY_HOURS_CLEAR_ALL (R32). -/
def execTableWriteWeeklyHoursClearAll (tag : Byte) (s : State) : Host.Outcome State Fault Refusal :=
  .next (s.powered fun s => s.deskRequest tag fun d => d.clearWeekly)

/-- TABLE_WRITE_EXCEPTION_PUT (R33). -/
def execTableWriteExceptionPut (tag : Byte) (e : ExceptionWire) (s : State) : Host.Outcome State Fault Refusal :=
  .next (s.powered fun s => s.deskRequest tag fun d => d.putException e)

/-- TABLE_WRITE_EXCEPTION_DELETE (R33). -/
def execTableWriteExceptionDelete (tag : Byte) (day : Half) (s : State) : Host.Outcome State Fault Refusal :=
  .next (s.powered fun s => s.deskRequest tag fun d => d.deleteException day)

/-- TABLE_WRITE_EXCEPTION_CLEAR_ALL (R33). -/
def execTableWriteExceptionClearAll (tag : Byte) (s : State) : Host.Outcome State Fault Refusal :=
  .next (s.powered fun s => s.deskRequest tag fun d => d.clearExceptions)

/-- TABLE_WRITE_BORROWER_PUT (R42). -/
def execTableWriteBorrowerPut (tag : Byte) (e : BorrowerWire) (s : State) : Host.Outcome State Fault Refusal :=
  .next (s.powered fun s => s.deskRequest tag fun d => d.putBorrowerEntry e)

/-- TABLE_WRITE_BORROWER_DELETE (R43). -/
def execTableWriteBorrowerDelete (tag : Byte) (card : CodeField) (s : State) : Host.Outcome State Fault Refusal :=
  .next (s.powered fun s => s.deskRequest tag fun d => d.deleteBorrower card)

/-- TABLE_WRITE_BORROWER_CLEAR_ALL (R43). -/
def execTableWriteBorrowerClearAll (tag : Byte) (s : State) : Host.Outcome State Fault Refusal :=
  .next (s.powered fun s => s.deskRequest tag fun d => d.clearBorrowers)

/-- TABLE_WRITE_BLOCK_PUT (R54, R58). -/
def execTableWriteBlockPut (tag : Byte) (e : BlockWire) (s : State) : Host.Outcome State Fault Refusal :=
  .next (s.powered fun s => s.deskRequest tag fun d => d.putBlock e)

/-- TABLE_WRITE_BLOCK_DELETE (R55). -/
def execTableWriteBlockDelete (tag : Byte) (key : BlockKeyWire) (s : State) : Host.Outcome State Fault Refusal :=
  .next (s.powered fun s => s.deskRequest tag fun d => d.deleteBlock key)

/-- TABLE_WRITE_BLOCK_CLEAR_ALL (R55). -/
def execTableWriteBlockClearAll (tag : Byte) (s : State) : Host.Outcome State Fault Refusal :=
  .next (s.powered fun s => s.deskRequest tag fun d => d.clearBlocks)

/-- TABLE_WRITE_ITEM_PUT (R63, R64). -/
def execTableWriteItemPut (tag : Byte) (e : ItemWire) (s : State) : Host.Outcome State Fault Refusal :=
  .next (s.powered fun s => s.deskRequest tag fun d => d.putItemEntry e)

/-- TABLE_WRITE_ITEM_DELETE (R65). -/
def execTableWriteItemDelete (tag : Byte) (code : CodeField) (s : State) : Host.Outcome State Fault Refusal :=
  .next (s.powered fun s => s.deskRequest tag fun d => d.deleteItem code)

/-- TABLE_WRITE_ITEM_CLEAR_ALL (R65). -/
def execTableWriteItemClearAll (tag : Byte) (s : State) : Host.Outcome State Fault Refusal :=
  .next (s.powered fun s => s.deskRequest tag fun d => d.clearItems)

/-- TABLE_WRITE_LOAN_RULE_PUT (R67). -/
def execTableWriteLoanRulePut (tag : Byte) (e : RuleWire) (s : State) : Host.Outcome State Fault Refusal :=
  .next (s.powered fun s => s.deskRequest tag fun d => d.putRule e)

/-- TABLE_WRITE_LOAN_RULE_DELETE (R67). -/
def execTableWriteLoanRuleDelete (tag category itemClass : Byte) (s : State) : Host.Outcome State Fault Refusal :=
  .next (s.powered fun s => s.deskRequest tag fun d => d.deleteRule category itemClass)

/-- TABLE_WRITE_LOAN_RULE_CLEAR_ALL (R67). -/
def execTableWriteLoanRuleClearAll (tag : Byte) (s : State) : Host.Outcome State Fault Refusal :=
  .next (s.powered fun s => s.deskRequest tag fun d => d.clearRules)

/-- TABLE_WRITE_CATEGORY_PUT (R69). -/
def execTableWriteCategoryPut (tag : Byte) (e : CategoryWire) (s : State) : Host.Outcome State Fault Refusal :=
  .next (s.powered fun s => s.deskRequest tag fun d => d.putCategory e)

/-- TABLE_WRITE_CATEGORY_DELETE (R69). -/
def execTableWriteCategoryDelete (tag category : Byte) (s : State) : Host.Outcome State Fault Refusal :=
  .next (s.powered fun s => s.deskRequest tag fun d => d.deleteCategory category)

/-- TABLE_WRITE_CATEGORY_CLEAR_ALL (R69). -/
def execTableWriteCategoryClearAll (tag : Byte) (s : State) : Host.Outcome State Fault Refusal :=
  .next (s.powered fun s => s.deskRequest tag fun d => d.clearCategories)

/-- TABLE_READ_PREFIX_KEY (R11). -/
def execTableReadPrefixKey (tag slot : Byte) (s : State) : Host.Outcome State Fault Refusal :=
  .next (s.powered fun s => s.deskRequest tag fun d => d.readPrefix slot)

/-- TABLE_READ_PREFIX_NEXT (R11). -/
def execTableReadPrefixNext (tag slot : Byte) (s : State) : Host.Outcome State Fault Refusal :=
  .next (s.powered fun s => s.deskRequest tag fun d => d.nextPrefix slot)

/-- TABLE_READ_WEEKLY_HOURS_KEY (R32). -/
def execTableReadWeeklyHoursKey (tag weekday : Byte) (s : State) : Host.Outcome State Fault Refusal :=
  .next (s.powered fun s => s.deskRequest tag fun d => d.readWeekly weekday)

/-- TABLE_READ_WEEKLY_HOURS_NEXT (R32). -/
def execTableReadWeeklyHoursNext (tag weekday : Byte) (s : State) : Host.Outcome State Fault Refusal :=
  .next (s.powered fun s => s.deskRequest tag fun d => d.nextWeekly weekday)

/-- TABLE_READ_EXCEPTION_KEY (R33). -/
def execTableReadExceptionKey (tag : Byte) (day : Half) (s : State) : Host.Outcome State Fault Refusal :=
  .next (s.powered fun s => s.deskRequest tag fun d => d.readException day)

/-- TABLE_READ_EXCEPTION_NEXT (R33). -/
def execTableReadExceptionNext (tag : Byte) (day : Half) (s : State) : Host.Outcome State Fault Refusal :=
  .next (s.powered fun s => s.deskRequest tag fun d => d.nextException day)

/-- TABLE_READ_BORROWER_KEY (R43). -/
def execTableReadBorrowerKey (tag : Byte) (card : CodeField) (s : State) : Host.Outcome State Fault Refusal :=
  .next (s.powered fun s => s.deskRequest tag fun d => d.readBorrower card)

/-- TABLE_READ_BORROWER_NEXT (R43). -/
def execTableReadBorrowerNext (tag : Byte) (card : CodeField) (s : State) : Host.Outcome State Fault Refusal :=
  .next (s.powered fun s => s.deskRequest tag fun d => d.nextBorrower card)

/-- TABLE_READ_BLOCK_KEY (R55). -/
def execTableReadBlockKey (tag : Byte) (key : BlockKeyWire) (s : State) : Host.Outcome State Fault Refusal :=
  .next (s.powered fun s => s.deskRequest tag fun d => d.readBlock key)

/-- TABLE_READ_BLOCK_NEXT (R55). -/
def execTableReadBlockNext (tag : Byte) (key : BlockKeyWire) (s : State) : Host.Outcome State Fault Refusal :=
  .next (s.powered fun s => s.deskRequest tag fun d => d.nextBlock key)

/-- TABLE_READ_ITEM_KEY (R65). -/
def execTableReadItemKey (tag : Byte) (code : CodeField) (s : State) : Host.Outcome State Fault Refusal :=
  .next (s.powered fun s => s.deskRequest tag fun d => d.readItem code)

/-- TABLE_READ_ITEM_NEXT (R65). -/
def execTableReadItemNext (tag : Byte) (code : CodeField) (s : State) : Host.Outcome State Fault Refusal :=
  .next (s.powered fun s => s.deskRequest tag fun d => d.nextItem code)

/-- TABLE_READ_LOAN_RULE_KEY (R67). -/
def execTableReadLoanRuleKey (tag category itemClass : Byte) (s : State) : Host.Outcome State Fault Refusal :=
  .next (s.powered fun s => s.deskRequest tag fun d => d.readRule category itemClass)

/-- TABLE_READ_LOAN_RULE_NEXT (R67). -/
def execTableReadLoanRuleNext (tag category itemClass : Byte) (s : State) : Host.Outcome State Fault Refusal :=
  .next (s.powered fun s => s.deskRequest tag fun d => d.nextRule category itemClass)

/-- TABLE_READ_CATEGORY_KEY (R69). -/
def execTableReadCategoryKey (tag category : Byte) (s : State) : Host.Outcome State Fault Refusal :=
  .next (s.powered fun s => s.deskRequest tag fun d => d.readCategory category)

/-- TABLE_READ_CATEGORY_NEXT (R69). -/
def execTableReadCategoryNext (tag category : Byte) (s : State) : Host.Outcome State Fault Refusal :=
  .next (s.powered fun s => s.deskRequest tag fun d => d.nextCategory category)

end Sys2Proof.Machine
end

