-- ==== Sys2Proof/Machine/Dispatch.lean ====
section
/-! DEFINITION. Every command to its meaning. -/

namespace Sys2Proof.Machine

def exec (i : Instr) (s : State) : Host.Outcome State Fault Refusal :=
  match i with
  | .wandCharacter st c => Sys2Proof.Machine.execWandCharacter st c s
  | .characterGapExpiry st => Sys2Proof.Machine.execCharacterGapExpiry st s
  | .pairingTimerExpiry st => Sys2Proof.Machine.execPairingTimerExpiry st s
  | .suppressionTimerExpiry st => Sys2Proof.Machine.execSuppressionTimerExpiry st s
  | .loanMode st => Sys2Proof.Machine.execLoanMode st s
  | .returnMode st => Sys2Proof.Machine.execReturnMode st s
  | .renewMode st => Sys2Proof.Machine.execRenewMode st s
  | .endCard st => Sys2Proof.Machine.execEndCard st s
  | .cancelLast st => Sys2Proof.Machine.execCancelLast st s
  | .overrideCard st => Sys2Proof.Machine.execOverrideCard st s
  | .clearCard st => Sys2Proof.Machine.execClearCard st s
  | .reprint st => Sys2Proof.Machine.execReprint st s
  | .skipSlip st => Sys2Proof.Machine.execSkipSlip st s
  | .padPulseExpiry st => Sys2Proof.Machine.execPadPulseExpiry st s
  | .idleTimeout st => Sys2Proof.Machine.execIdleTimeout st s
  | .overrideArmExpiry st => Sys2Proof.Machine.execOverrideArmExpiry st s
  | .closingGraceExpiry => Sys2Proof.Machine.execClosingGraceExpiry s
  | .lookupTimeout st => Sys2Proof.Machine.execLookupTimeout st s
  | .secondComplete => Sys2Proof.Machine.execSecondComplete s
  | .sweepStep => Sys2Proof.Machine.execSweepStep s
  | .timeMark tag day minute second => Sys2Proof.Machine.execTimeMark tag day minute second s
  | .clockSet tag day minute second => Sys2Proof.Machine.execClockSet tag day minute second s
  | .deskModeOpen tag => Sys2Proof.Machine.execDeskModeOpen tag s
  | .deskModeClose tag => Sys2Proof.Machine.execDeskModeClose tag s
  | .statusRead tag => Sys2Proof.Machine.execStatusRead tag s
  | .stationStatus tag station => Sys2Proof.Machine.execStationStatus tag station s
  | .alarmRead tag => Sys2Proof.Machine.execAlarmRead tag s
  | .alarmClear tag alarm count => Sys2Proof.Machine.execAlarmClear tag alarm count s
  | .promptClear tag station source => Sys2Proof.Machine.execPromptClear tag station source s
  | .lookupReplyFound tag card category loansHeld holdsReady finesOwed expiryDay => Sys2Proof.Machine.execLookupReplyFound tag card category loansHeld holdsReady finesOwed expiryDay s
  | .lookupReplyNotFound tag card => Sys2Proof.Machine.execLookupReplyNotFound tag card s
  | .uploadStart tag => Sys2Proof.Machine.execUploadStart tag s
  | .uploadTaken tag first count => Sys2Proof.Machine.execUploadTaken tag first count s
  | .uploadResume tag => Sys2Proof.Machine.execUploadResume tag s
  | .uploadAbort tag => Sys2Proof.Machine.execUploadAbort tag s
  | .takenTimeout => Sys2Proof.Machine.execTakenTimeout s
  | .reset tag => Sys2Proof.Machine.execReset tag s
  | .linkReset => Sys2Proof.Machine.execLinkReset s
  | .badKindFrame tag kind => Sys2Proof.Machine.execBadKindFrame tag kind s
  | .linkBadFrame => Sys2Proof.Machine.execLinkBadFrame s
  | .receiveGapExpiry => Sys2Proof.Machine.execReceiveGapExpiry s
  | .livenessExpiry => Sys2Proof.Machine.execLivenessExpiry s
  | .frameSent => Sys2Proof.Machine.execFrameSent s
  | .displayTimerExpiry st => Sys2Proof.Machine.execDisplayTimerExpiry st s
  | .displayRecordSent st => Sys2Proof.Machine.execDisplayRecordSent st s
  | .tonePatternEnd st => Sys2Proof.Machine.execTonePatternEnd st s
  | .printerLineSent p => Sys2Proof.Machine.execPrinterLineSent p s
  | .printerReadyAnswer p => Sys2Proof.Machine.execPrinterReadyAnswer p s
  | .printerPaperOutAnswer p => Sys2Proof.Machine.execPrinterPaperOutAnswer p s
  | .printerFaultAnswer p c => Sys2Proof.Machine.execPrinterFaultAnswer p c s
  | .lineTimeout p => Sys2Proof.Machine.execLineTimeout p s
  | .mainPowerFail => Sys2Proof.Machine.execMainPowerFail s
  | .batteryGoodFall => Sys2Proof.Machine.execBatteryGoodFall s
  | .warmStart straps => Sys2Proof.Machine.execWarmStart straps s
  | .coldStart straps => Sys2Proof.Machine.execColdStart straps s
  | .configRead tag setting index => Sys2Proof.Machine.execConfigRead tag setting index s
  | .configWriteReadsRequired tag index value => Sys2Proof.Machine.execConfigWriteReadsRequired tag index value s
  | .configWritePairingWindow tag index value => Sys2Proof.Machine.execConfigWritePairingWindow tag index value s
  | .configWriteSuppressionWindow tag index value => Sys2Proof.Machine.execConfigWriteSuppressionWindow tag index value s
  | .configWriteTimeSource tag value => Sys2Proof.Machine.execConfigWriteTimeSource tag value s
  | .configWriteStepLimit tag value => Sys2Proof.Machine.execConfigWriteStepLimit tag value s
  | .configWriteMarkAgeLimit tag value => Sys2Proof.Machine.execConfigWriteMarkAgeLimit tag value s
  | .configWriteLookupTimeout tag value => Sys2Proof.Machine.execConfigWriteLookupTimeout tag value s
  | .configWriteStationEnabled tag index value => Sys2Proof.Machine.execConfigWriteStationEnabled tag index value s
  | .configWriteIdleTimeout tag index value => Sys2Proof.Machine.execConfigWriteIdleTimeout tag index value s
  | .configWriteSlipPrinting tag index value => Sys2Proof.Machine.execConfigWriteSlipPrinting tag index value s
  | .configWritePadPulse tag index value => Sys2Proof.Machine.execConfigWritePadPulse tag index value s
  | .configWriteClosingGrace tag value => Sys2Proof.Machine.execConfigWriteClosingGrace tag value s
  | .configWriteReturnsWhenClosed tag value => Sys2Proof.Machine.execConfigWriteReturnsWhenClosed tag value s
  | .configWriteMinimumRemaining tag value => Sys2Proof.Machine.execConfigWriteMinimumRemaining tag value s
  | .configWritePrecedenceList tag value => Sys2Proof.Machine.execConfigWritePrecedenceList tag value s
  | .configWriteLevelMasks tag index value => Sys2Proof.Machine.execConfigWriteLevelMasks tag index value s
  | .configWriteDisplayTime tag value => Sys2Proof.Machine.execConfigWriteDisplayTime tag value s
  | .configWritePrinterAssignment tag index value => Sys2Proof.Machine.execConfigWritePrinterAssignment tag index value s
  | .configWriteFailover tag index value => Sys2Proof.Machine.execConfigWriteFailover tag index value s
  | .configWriteLineTimeout tag index value => Sys2Proof.Machine.execConfigWriteLineTimeout tag index value s
  | .configWriteReturnReserve tag value => Sys2Proof.Machine.execConfigWriteReturnReserve tag value s
  | .configWriteHighWaterPercentage tag value => Sys2Proof.Machine.execConfigWriteHighWaterPercentage tag value s
  | .configWriteUploadMinute tag value => Sys2Proof.Machine.execConfigWriteUploadMinute tag value s
  | .configWriteTakenTimeout tag value => Sys2Proof.Machine.execConfigWriteTakenTimeout tag value s
  | .configWriteLinkTimeout tag value => Sys2Proof.Machine.execConfigWriteLinkTimeout tag value s
  | .configWriteNoticeRouting tag index value => Sys2Proof.Machine.execConfigWriteNoticeRouting tag index value s
  | .tableWritePrefixPut tag e => Sys2Proof.Machine.execTableWritePrefixPut tag e s
  | .tableWritePrefixDelete tag slot => Sys2Proof.Machine.execTableWritePrefixDelete tag slot s
  | .tableWritePrefixClearAll tag => Sys2Proof.Machine.execTableWritePrefixClearAll tag s
  | .tableWriteWeeklyHoursPut tag e => Sys2Proof.Machine.execTableWriteWeeklyHoursPut tag e s
  | .tableWriteWeeklyHoursDelete tag weekday => Sys2Proof.Machine.execTableWriteWeeklyHoursDelete tag weekday s
  | .tableWriteWeeklyHoursClearAll tag => Sys2Proof.Machine.execTableWriteWeeklyHoursClearAll tag s
  | .tableWriteExceptionPut tag e => Sys2Proof.Machine.execTableWriteExceptionPut tag e s
  | .tableWriteExceptionDelete tag day => Sys2Proof.Machine.execTableWriteExceptionDelete tag day s
  | .tableWriteExceptionClearAll tag => Sys2Proof.Machine.execTableWriteExceptionClearAll tag s
  | .tableWriteBorrowerPut tag e => Sys2Proof.Machine.execTableWriteBorrowerPut tag e s
  | .tableWriteBorrowerDelete tag card => Sys2Proof.Machine.execTableWriteBorrowerDelete tag card s
  | .tableWriteBorrowerClearAll tag => Sys2Proof.Machine.execTableWriteBorrowerClearAll tag s
  | .tableWriteBlockPut tag e => Sys2Proof.Machine.execTableWriteBlockPut tag e s
  | .tableWriteBlockDelete tag key => Sys2Proof.Machine.execTableWriteBlockDelete tag key s
  | .tableWriteBlockClearAll tag => Sys2Proof.Machine.execTableWriteBlockClearAll tag s
  | .tableWriteItemPut tag e => Sys2Proof.Machine.execTableWriteItemPut tag e s
  | .tableWriteItemDelete tag code => Sys2Proof.Machine.execTableWriteItemDelete tag code s
  | .tableWriteItemClearAll tag => Sys2Proof.Machine.execTableWriteItemClearAll tag s
  | .tableWriteLoanRulePut tag e => Sys2Proof.Machine.execTableWriteLoanRulePut tag e s
  | .tableWriteLoanRuleDelete tag category itemClass => Sys2Proof.Machine.execTableWriteLoanRuleDelete tag category itemClass s
  | .tableWriteLoanRuleClearAll tag => Sys2Proof.Machine.execTableWriteLoanRuleClearAll tag s
  | .tableWriteCategoryPut tag e => Sys2Proof.Machine.execTableWriteCategoryPut tag e s
  | .tableWriteCategoryDelete tag category => Sys2Proof.Machine.execTableWriteCategoryDelete tag category s
  | .tableWriteCategoryClearAll tag => Sys2Proof.Machine.execTableWriteCategoryClearAll tag s
  | .tableReadPrefixKey tag slot => Sys2Proof.Machine.execTableReadPrefixKey tag slot s
  | .tableReadPrefixNext tag slot => Sys2Proof.Machine.execTableReadPrefixNext tag slot s
  | .tableReadWeeklyHoursKey tag weekday => Sys2Proof.Machine.execTableReadWeeklyHoursKey tag weekday s
  | .tableReadWeeklyHoursNext tag weekday => Sys2Proof.Machine.execTableReadWeeklyHoursNext tag weekday s
  | .tableReadExceptionKey tag day => Sys2Proof.Machine.execTableReadExceptionKey tag day s
  | .tableReadExceptionNext tag day => Sys2Proof.Machine.execTableReadExceptionNext tag day s
  | .tableReadBorrowerKey tag card => Sys2Proof.Machine.execTableReadBorrowerKey tag card s
  | .tableReadBorrowerNext tag card => Sys2Proof.Machine.execTableReadBorrowerNext tag card s
  | .tableReadBlockKey tag key => Sys2Proof.Machine.execTableReadBlockKey tag key s
  | .tableReadBlockNext tag key => Sys2Proof.Machine.execTableReadBlockNext tag key s
  | .tableReadItemKey tag code => Sys2Proof.Machine.execTableReadItemKey tag code s
  | .tableReadItemNext tag code => Sys2Proof.Machine.execTableReadItemNext tag code s
  | .tableReadLoanRuleKey tag category itemClass => Sys2Proof.Machine.execTableReadLoanRuleKey tag category itemClass s
  | .tableReadLoanRuleNext tag category itemClass => Sys2Proof.Machine.execTableReadLoanRuleNext tag category itemClass s
  | .tableReadCategoryKey tag category => Sys2Proof.Machine.execTableReadCategoryKey tag category s
  | .tableReadCategoryNext tag category => Sys2Proof.Machine.execTableReadCategoryNext tag category s
  | .linkByteReceived b => Sys2Proof.Machine.execLinkByteReceived b s

end Sys2Proof.Machine
end

