-- ==== Sys2Proof/Machine/Requests.lean ====
section
/-! DEFINITION. The frames of the server's requests (R198): the kind, the tag and the payload that each request row stands for.
A statement uses it to say that a row and its frame are one request. -/

namespace Sys2Proof.Machine

/-- A frame of the server. -/
structure RequestFrame where
  kind : Byte
  tag : Byte
  payload : List Byte
  deriving DecidableEq, Repr

def tableWriteFrame (tag table op : Byte) (entry : List Byte) : Option RequestFrame := some ⟨0x01, tag, table :: op :: entry⟩

def tableReadFrame (tag table mode : Byte) (key : List Byte) : Option RequestFrame := some ⟨0x02, tag, table :: mode :: key⟩

def configFrame (tag setting index : Byte) (value : Word) : Option RequestFrame :=
  some ⟨0x03, tag, setting :: index :: bytesOf 4 value.toNat⟩

def timePayload (day minute : Half) (second : Byte) : List Byte := bytesOf 2 day.toNat ++ bytesOf 2 minute.toNat ++ [second]

/-- The frame of a request row; none for a row that is no request. `index` is the index byte of a desk-wide setting, which R198
has not judged, and also the last byte of a loan rule entry, which R198 does not name (log 24). `rest` is the 7 bytes after the
answer of a LOOKUP_REPLY that is not found, the five fields that are not judged (log 27). -/
def requestFrame (index : Byte) (rest : List Byte) : Instr → Option RequestFrame
  | .timeMark tag day minute second => some ⟨0x05, tag, timePayload day minute second⟩
  | .clockSet tag day minute second => some ⟨0x06, tag, timePayload day minute second⟩
  | .deskModeOpen tag => some ⟨0x07, tag, [1]⟩
  | .deskModeClose tag => some ⟨0x07, tag, [2]⟩
  | .statusRead tag => some ⟨0x08, tag, []⟩
  | .stationStatus tag station => some ⟨0x09, tag, [station]⟩
  | .alarmRead tag => some ⟨0x0a, tag, []⟩
  | .alarmClear tag alarm count => some ⟨0x0b, tag, [alarm, count]⟩
  | .promptClear tag station source => some ⟨0x0c, tag, [station, source]⟩
  | .lookupReplyFound tag card category loansHeld holdsReady finesOwed expiryDay =>
    some ⟨0x0d, tag, codeBytes card ++ [1, category, loansHeld, holdsReady] ++ bytesOf 2 finesOwed.toNat ++
      bytesOf 2 expiryDay.toNat⟩
  | .lookupReplyNotFound tag card => some ⟨0x0d, tag, codeBytes card ++ [2] ++ rest⟩
  | .uploadStart tag => some ⟨0x0e, tag, []⟩
  | .uploadTaken tag first count => some ⟨0x0f, tag, bytesOf 4 first.toNat ++ [count]⟩
  | .uploadResume tag => some ⟨0x10, tag, []⟩
  | .uploadAbort tag => some ⟨0x11, tag, []⟩
  | .reset tag => some ⟨0x12, tag, []⟩
  | .configRead tag setting index => some ⟨0x04, tag, [setting, index]⟩
  | .configWriteReadsRequired tag i value => configFrame tag 1 i value
  | .configWritePairingWindow tag i value => configFrame tag 2 i value
  | .configWriteSuppressionWindow tag i value => configFrame tag 3 i value
  | .configWriteTimeSource tag value => configFrame tag 4 index value
  | .configWriteStepLimit tag value => configFrame tag 5 index value
  | .configWriteMarkAgeLimit tag value => configFrame tag 6 index value
  | .configWriteLookupTimeout tag value => configFrame tag 7 index value
  | .configWriteStationEnabled tag i value => configFrame tag 8 i value
  | .configWriteIdleTimeout tag i value => configFrame tag 9 i value
  | .configWriteSlipPrinting tag i value => configFrame tag 10 i value
  | .configWritePadPulse tag i value => configFrame tag 11 i value
  | .configWriteClosingGrace tag value => configFrame tag 12 index value
  | .configWriteReturnsWhenClosed tag value => configFrame tag 13 index value
  | .configWriteMinimumRemaining tag value => configFrame tag 14 index value
  | .configWritePrecedenceList tag value => configFrame tag 15 index value
  | .configWriteLevelMasks tag i value => configFrame tag 16 i value
  | .configWriteDisplayTime tag value => configFrame tag 17 index value
  | .configWritePrinterAssignment tag i value => configFrame tag 18 i value
  | .configWriteFailover tag i value => configFrame tag 19 i value
  | .configWriteLineTimeout tag i value => configFrame tag 20 i value
  | .configWriteReturnReserve tag value => configFrame tag 21 index value
  | .configWriteHighWaterPercentage tag value => configFrame tag 22 index value
  | .configWriteUploadMinute tag value => configFrame tag 23 index value
  | .configWriteTakenTimeout tag value => configFrame tag 24 index value
  | .configWriteLinkTimeout tag value => configFrame tag 25 index value
  | .configWriteNoticeRouting tag i value => configFrame tag 26 i value
  | .tableWritePrefixPut tag e => tableWriteFrame tag 1 1 e.bytes
  | .tableWritePrefixDelete tag slot => tableWriteFrame tag 1 2 [slot]
  | .tableWritePrefixClearAll tag => tableWriteFrame tag 1 3 []
  | .tableWriteWeeklyHoursPut tag e => tableWriteFrame tag 2 1 e.bytes
  | .tableWriteWeeklyHoursDelete tag weekday => tableWriteFrame tag 2 2 [weekday]
  | .tableWriteWeeklyHoursClearAll tag => tableWriteFrame tag 2 3 []
  | .tableWriteExceptionPut tag e => tableWriteFrame tag 3 1 e.bytes
  | .tableWriteExceptionDelete tag day => tableWriteFrame tag 3 2 (bytesOf 2 day.toNat)
  | .tableWriteExceptionClearAll tag => tableWriteFrame tag 3 3 []
  | .tableWriteBorrowerPut tag e => tableWriteFrame tag 4 1 e.bytes
  | .tableWriteBorrowerDelete tag card => tableWriteFrame tag 4 2 (codeBytes card)
  | .tableWriteBorrowerClearAll tag => tableWriteFrame tag 4 3 []
  | .tableWriteBlockPut tag e => tableWriteFrame tag 5 1 e.bytes
  | .tableWriteBlockDelete tag key => tableWriteFrame tag 5 2 key.bytes
  | .tableWriteBlockClearAll tag => tableWriteFrame tag 5 3 []
  | .tableWriteItemPut tag e => tableWriteFrame tag 6 1 e.bytes
  | .tableWriteItemDelete tag code => tableWriteFrame tag 6 2 (codeBytes code)
  | .tableWriteItemClearAll tag => tableWriteFrame tag 6 3 []
  | .tableWriteLoanRulePut tag e => tableWriteFrame tag 7 1 (e.fieldBytes ++ [index])
  | .tableWriteLoanRuleDelete tag category itemClass => tableWriteFrame tag 7 2 [category, itemClass]
  | .tableWriteLoanRuleClearAll tag => tableWriteFrame tag 7 3 []
  | .tableWriteCategoryPut tag e => tableWriteFrame tag 8 1 e.bytes
  | .tableWriteCategoryDelete tag category => tableWriteFrame tag 8 2 [category]
  | .tableWriteCategoryClearAll tag => tableWriteFrame tag 8 3 []
  | .tableReadPrefixKey tag slot => tableReadFrame tag 1 1 [slot]
  | .tableReadPrefixNext tag slot => tableReadFrame tag 1 2 [slot]
  | .tableReadWeeklyHoursKey tag weekday => tableReadFrame tag 2 1 [weekday]
  | .tableReadWeeklyHoursNext tag weekday => tableReadFrame tag 2 2 [weekday]
  | .tableReadExceptionKey tag day => tableReadFrame tag 3 1 (bytesOf 2 day.toNat)
  | .tableReadExceptionNext tag day => tableReadFrame tag 3 2 (bytesOf 2 day.toNat)
  | .tableReadBorrowerKey tag card => tableReadFrame tag 4 1 (codeBytes card)
  | .tableReadBorrowerNext tag card => tableReadFrame tag 4 2 (codeBytes card)
  | .tableReadBlockKey tag key => tableReadFrame tag 5 1 key.bytes
  | .tableReadBlockNext tag key => tableReadFrame tag 5 2 key.bytes
  | .tableReadItemKey tag code => tableReadFrame tag 6 1 (codeBytes code)
  | .tableReadItemNext tag code => tableReadFrame tag 6 2 (codeBytes code)
  | .tableReadLoanRuleKey tag category itemClass => tableReadFrame tag 7 1 [category, itemClass]
  | .tableReadLoanRuleNext tag category itemClass => tableReadFrame tag 7 2 [category, itemClass]
  | .tableReadCategoryKey tag category => tableReadFrame tag 8 1 [category]
  | .tableReadCategoryNext tag category => tableReadFrame tag 8 2 [category]
  | _ => none

end Sys2Proof.Machine
end

