-- ==== Sys2Proof/Safety.lean ====
section
/-! DEFINITION. What the statements name: the state after a command that completes, and the invariants that hold of the part at
reset and after every step. -/

namespace Sys2Proof.Machine

/-! ## The state after a command that completes -/

/-- The state after a command that makes the desk `d`: the arbiter may then take a frame (log 7). -/
def State.afterDesk (s : State) (d : Desk) : State := ({ s with desk := d }).transmit

/-- A request that arrives now is dispatched: the part has power, no RESET waits, and the reply queue has room (R185). -/
structure State.Dispatches (s : State) : Prop where
  power : s.desk.power.on = true
  noReset : s.line.resetWaiting = false
  room : s.line.replies.length < replyCapacity

/-- The state after a dispatched request with the decision `x`: its desk, and its reply at the tail of the reply queue. -/
def State.afterReply (s : State) (tag : Byte) (x : Decision) : State :=
  ({ s with
      desk := x.desk
      line := { s.line with replies := s.line.replies ++ [Reply.mk tag x.status x.data false] } }).transmit

/-! ## The line (R183, R184, R185, R188) -/

/-- The framer has kept no more than its state allows. -/
def Framer.bounded : Framer → Prop
  | .hunting => True
  | .header kept => kept.length < 4
  | .payload _ _ length kept => kept.length < length ∧ length ≤ longestPayload
  | .check _ _ body _ => body.length ≤ longestPayload

/-- At most 8 replies wait, both counts lie in 0 to 65,535, and the framer's bytes are within its frame. -/
structure LineBounded (l : LinkLine) : Prop where
  replies : l.replies.length ≤ replyCapacity
  badFrames : l.badFrames ≤ 65535
  overruns : l.overruns ≤ 65535
  framer : l.framer.bounded

/-! ## The scan stations (R1, R3, R5, R17) -/

def WandState.bounded : WandState → Prop
  | .hunting => True
  | .inFrame digits => digits.length ≤ 16

structure ScanBounded (s : ScanStation) : Prop where
  wand : s.wand.bounded
  readErrors : s.readErrors ≤ 65535
  queue : s.queue.length ≤ scanQueueCapacity

/-! ## The journal (R156, R157) -/

/-- The held records are numbered from released + 1 to newest without gaps, and there are at most 16,384. -/
structure Journal.Coherent (j : Journal) : Prop where
  newest : j.newest ≤ lastSeq
  released : j.released ≤ lastSeq
  count : j.held.length = seqDistance j.released j.newest
  room : j.held.length ≤ journalPlaces
  numbered : ∀ i, i < j.held.length → (j.held[i]?).map JournalRecord.seq = some (seqForward j.released (i + 1))

/-! ## The tables (R12, R32, R33, R40, R55, R60, R67, R69) -/

/-- Each table is sorted strictly by its key: no two entries of one key, read in the order of its rule. -/
structure Tables.Sorted (t : Tables) : Prop where
  prefixes : Table.Sorted PrefixEntry.key t.prefixes
  weekly : Table.Sorted WeekdayHours.key t.weekly
  exceptions : Table.Sorted ExceptionEntry.key t.exceptions
  borrowers : Table.Sorted Borrower.key t.borrowers
  blocks : Table.Sorted BlockEntry.rank t.blocks
  items : Table.Sorted ItemEntry.key t.items
  rules : Table.Sorted LoanRule.key t.rules
  categories : Table.Sorted CategoryEntry.key t.categories

/-! ## The alarms (R191) -/

/-- Every occurrence count lies in 0 to 255, and no event alarm has a condition. -/
def AlarmSet.Bounded (s : AlarmSet) : Prop :=
  ∀ a, (s.get a).count ≤ 255 ∧ (a.isCondition = false → (s.get a).holds = false)

/-! ## The shown prompt (R122, R125, R134) -/

/-- The place of a pending entry in the order of R122: its level's place in the precedence list, then its source number. -/
def promptRank (precedence : List Level) (p : Prompt) : Nat := precedence.idxOf p.source.level * 32 + p.source.number

/-- What is shown is the first pending entry, in the order of R122, whose level is not masked. -/
def showsHighest (precedence : List Level) (masks : LevelMasks) (pending : List Prompt) : Option Source → Prop
  | none => ∀ p ∈ pending, masks.get p.source.level = true
  | some s => ∃ p ∈ pending, p.source = s ∧ masks.get p.source.level = false ∧
      ∀ q ∈ pending, masks.get q.source.level = false → promptRank precedence p ≤ promptRank precedence q

/-- One arbiter: one entry for each source at most, the right prompt shown, and the lamp in the colour of its level. -/
structure ArbiterRight (precedence : List Level) (masks : LevelMasks) (a : Arbiter) : Prop where
  pending : Table.Sorted Prompt.key a.pending
  shown : showsHighest precedence masks a.pending a.shown
  lamp : a.lamp = lampOf a.shown

/-- The precedence list names each of the four levels once, and every station's arbiter is right. -/
structure Desk.PromptsRight (d : Desk) : Prop where
  precedence : d.settings.precedence.Perm [.urgent, .refusal, .action, .info]
  arbiters : ∀ st, ArbiterRight d.settings.precedence (d.stationSettings.get st).masks (d.arbiters.get st)

/-- The shown prompt changes: the selection gives another source, or the source shown has just taken an occurrence (R126). -/
def Arbiter.Changes (a : Arbiter) (occurrence : Option Source) (b : Arbiter) : Prop :=
  b.shown ≠ a.shown ∨ (occurrence ≠ none ∧ occurrence = b.shown)

/-- The arbiter `b` shows what the selection over its pending set gives. Where the shown prompt has changed, the lamp, the display
record, the tone and the display timer have followed; elsewhere all of them stand as in `a` (R125 to R128, R134, R135). -/
structure Arbiter.Turns (a : Arbiter) (x : ArbiterSettings) (occurrence : Option Source) (b : Arbiter) : Prop where
  shown : showsHighest x.precedence x.masks b.pending b.shown
  stands : ¬ a.Changes occurrence b → b = { a with pending := b.pending }
  lamp : a.Changes occurrence b → b.lamp = lampOf b.shown
  record : a.Changes occurrence b → ∀ q ∈ b.pending, b.shown = some q.source → b.display = a.display.hand (.prompt q)
  blank : a.Changes occurrence b → b.shown = none → b.display = a.display.hand .blank
  tone : a.Changes occurrence b → b.tone = match b.shown with
    | some s => if occurrence = some s then .playing s.level else a.tone
    | none => a.tone
  timer : a.Changes occurrence b → b.displayTimer = match b.shown with
    | some s => if s.clearKind = .transient then some x.displayTime else none
    | none => none

/-! ## The desk mode (R77, R78) -/

/-- A CLOSED desk serves at no station, and a CLOSING desk serves at some station. -/
structure Desk.ModeAgrees (d : Desk) : Prop where
  closed : d.mode = .closed → d.anyServing = false
  closing : d.mode = .closing → d.anyServing = true

/-! ## The clock (R20, R25) -/

structure Clock.Ranged (c : Clock) : Prop where
  day : c.day ≤ 65535
  minute : c.minute ≤ 1439
  second : c.second ≤ 59
  prescaler : c.prescaler < 32768
  markAge : c.markAge ≤ 172801
  pendingMark : ∀ p, c.pendingMark = some p → p.day ≤ 65535 ∧ p.minute ≤ 1439 ∧ p.second ≤ 59

/-! ## The borrower counts (R40, R41) -/

structure Borrower.Ranged (b : Borrower) : Prop where
  loansHeld : b.loansHeld ≤ 99
  holdsReady : b.holdsReady ≤ 15
  finesOwed : b.finesOwed ≤ 65535

/-! ## The settings with a numeric range (R187, and the rule of each setting) -/

structure StationSettings.Ranged (x : StationSettings) : Prop where
  readsRequired : 1 ≤ x.readsRequired ∧ x.readsRequired ≤ 3
  pairingWindow : 50 ≤ x.pairingWindow ∧ x.pairingWindow ≤ 2000
  suppressionWindow : x.suppressionWindow ≤ 10
  idleTimeout : 15 ≤ x.idleTimeout ∧ x.idleTimeout ≤ 600
  padPulse : 50 ≤ x.padPulse ∧ x.padPulse ≤ 1000

structure Settings.Ranged (x : Settings) : Prop where
  stepLimit : x.stepLimit ≤ 1440
  markAgeLimit : 1 ≤ x.markAgeLimit ∧ x.markAgeLimit ≤ 48
  lookupTimeout : 2 ≤ x.lookupTimeout ∧ x.lookupTimeout ≤ 30
  closingGrace : x.closingGrace ≤ 600
  minimumRemaining : x.minimumRemaining ≤ 120
  displayTime : 1 ≤ x.displayTime ∧ x.displayTime ≤ 10
  lineTimeout : ∀ p, 1 ≤ x.lineTimeout.get p ∧ x.lineTimeout.get p ≤ 10
  returnReserve : x.returnReserve ≤ 256
  highWater : 50 ≤ x.highWater ∧ x.highWater ≤ 99
  uploadMinute : ∀ m, x.uploadMinute = some m → m ≤ 1439
  takenTimeout : 5 ≤ x.takenTimeout ∧ x.takenTimeout ≤ 120
  linkTimeout : 10 ≤ x.linkTimeout ∧ x.linkTimeout ≤ 600

/-- The clock, every borrower's counts, and every setting lie within their ranges. -/
structure Desk.Ranged (d : Desk) : Prop where
  clock : d.clock.Ranged
  borrowers : ∀ b ∈ d.tables.borrowers, b.Ranged
  settings : d.settings.Ranged
  stations : ∀ st, (d.stationSettings.get st).Ranged

/-! ## Item lists, print queues and deferred slips (R81, R100, R142, R143) -/

/-- An item list holds at most 24 entries and no code twice, a print queue at most 8 jobs, and each station at most one deferred
slip, which only a station that is neither OPEN nor in LOOKUP holds. -/
structure Desk.WithinCapacities (d : Desk) : Prop where
  lists : ∀ st x, d.context st = .opened x → x.items.length ≤ 24 ∧ (x.items.map ListEntry.code).Nodup
  queues : ∀ p, (d.slips.printers.get p).queue.length ≤ 8
  deferrals : (d.slips.deferrals.map SlipJob.station).Nodup
  unserved : ∀ j ∈ d.slips.deferrals, (d.context j.station).serving = false

/-! ## The upload (10.1, R173, R176) -/

/-- While an upload runs, a block of 1 to 16 records from released + 1 on is in flight, sent is its last seq, and
released ≤ sent ≤ cut ≤ newest in sequence order; in IDLE none is in flight and sent is released. The TAKEN timer runs, and a
JOURNAL_BLOCK waits to be sent, in SENDING only. Newest is never 0, which no record has as its seq. -/
structure Desk.UploadBounded (d : Desk) : Prop where
  newest : 1 ≤ d.journal.newest
  idle : d.upload.state = .idle → d.upload.block = none ∧ d.upload.sent = d.journal.released
  running : d.upload.state ≠ .idle → 1 ≤ d.upload.cut ∧ d.upload.cut ≤ lastSeq ∧ ∃ n, 1 ≤ n ∧ n ≤ 16 ∧
    d.upload.block = some ⟨seqForward d.journal.released 1, n⟩ ∧ d.upload.sent = seqForward d.journal.released n ∧
    n ≤ seqDistance d.journal.released d.upload.cut ∧
    seqDistance d.journal.released d.upload.cut ≤ seqDistance d.journal.released d.journal.newest
  timer : d.upload.takenTimer ≠ none → d.upload.state = .sending
  waiting : ∀ f ∈ d.uploadList, f.isBlock = true → d.upload.state = .sending

end Sys2Proof.Machine
end

