-- ==== Sys2Proof/Certificates/Slice0/Obligations.lean ====
section
/-! DEFINITION. The statements for the provers. Most say that `exec` answers a next state, for every state and operands that
meet conditions on these alone, and give that state whole: what it does not name is unchanged. `State.afterDesk` and
`State.afterReply` (Sys2Proof/Safety.lean) are the state after a command of the desk and after a dispatched request; in both
the transmit arbiter then takes a frame when it may, as TransmitTakesInOrder states. A dispatched request acts on
`s.desk.frameArrives`, the desk once the frame has restarted the liveness timer, as FramesThatArrive states. -/

open Sys2Proof Sys2Proof.Machine

/-! ## The queue and the whole machine -/

/-- A step with a command at the front of the queue is that command on the queue's rest. The queue is the model's own (log 2). -/
def Obligations.StepRunsFrontCommand : Prop :=
  ∀ (c : Instr) (s : State), step { s with pending := c :: s.pending } = exec c s

/-- The commands that act on a part without power. -/
def Sys2Proof.Instr.actsUnpowered : Instr → Bool
  | .secondComplete => true
  | .batteryGoodFall => true
  | .warmStart _ => true
  | .coldStart _ => true
  | _ => false

/-- A step on an empty queue is one cycle of the reference (the model's choice, log 2): R20's prescaler counts it, and the
32,768th completes a second; in an outage it counts for as long as the battery holds. Every command answers a next state, and
leaves the queue of waiting commands as it stands. Without main power every command but those of `actsUnpowered` changes nothing
(the model's choice, log 5). -/
def Obligations.IdleStepsAndCommandsAnswerNext : Prop :=
  (∀ s : State, s.pending = [] →
     (s.desk.power.on = false → s.desk.power.batteryFell = true → step s = .next s) ∧
     ((s.desk.power.on = true ∨ s.desk.power.batteryFell = false) →
       (s.desk.clock.prescaler + 1 < 32768 →
         step s = .next { s with desk := { s.desk with
           clock := { s.desk.clock with prescaler := s.desk.clock.prescaler + 1 } } }) ∧
       (32768 ≤ s.desk.clock.prescaler + 1 → step s = exec .secondComplete s))) ∧
  ((∀ (c : Instr) (s : State), ∃ t, exec c s = .next t ∧ t.pending = s.pending) ∧
   (∀ (c : Instr) (s : State), c.actsUnpowered = false → s.desk.power.on = false → exec c s = .next s))

/-! ## Scan acceptance -/

/-- A read error: the frame is gone and the count rises by 1, at most to 65,535. -/
def Sys2Proof.Machine.ScanStation.counted (x : ScanStation) : ScanStation :=
  { x with wand := .hunting, gapTimer := none, readErrors := min (x.readErrors + 1) 65535 }

/-- A character that is no start character, no end-of-read character and no digit, or that came with a framing error. -/
def Sys2Proof.isForeign (c : Option Byte) : Prop :=
  c = none ∨ ∃ b : Byte, c = some b ∧ b ≠ 0x02 ∧ b ≠ 0x0d ∧ (b.toNat < 0x30 ∨ 0x39 < b.toNat)

/-- WAND_CHARACTER, by the wand receiver's state and the character. -/
def Obligations.WandReceiverTable : Prop :=
  ∀ (s : State) (st : StationId) (c : Option Byte), s.desk.power.on = true →
    let d := s.desk
    (d.context st = .disabled → exec (.wandCharacter st c) s = .next (s.afterDesk d)) ∧
    (d.context st ≠ .disabled →
      ((d.scan.get st).wand = .hunting →
        (c = some 0x02 → exec (.wandCharacter st c) s =
          .next (s.afterDesk (d.onScan st fun x => { x with wand := .inFrame [], gapTimer := some 20 }))) ∧
        (c ≠ some 0x02 → exec (.wandCharacter st c) s = .next (s.afterDesk d))) ∧
      ∀ digits, (d.scan.get st).wand = .inFrame digits →
        (c = some 0x02 → exec (.wandCharacter st c) s =
          .next (s.afterDesk (d.onScan st fun x => { x.counted with wand := .inFrame [], gapTimer := some 20 }))) ∧
        (∀ n : Digit, c = some (BitVec.ofNat 8 (0x30 + n.val)) →
          (digits.length ≤ 15 → exec (.wandCharacter st c) s =
            .next (s.afterDesk (d.onScan st fun x => { x with wand := .inFrame (digits ++ [n]), gapTimer := some 20 }))) ∧
          (16 ≤ digits.length → exec (.wandCharacter st c) s = .next (s.afterDesk (d.onScan st ScanStation.counted)))) ∧
        (c = some 0x0d →
          (6 ≤ digits.length → exec (.wandCharacter st c) s =
            .next (s.afterDesk ((d.onScan st fun x => { x with wand := .hunting, gapTimer := none }).takeRead st digits))) ∧
          (digits.length ≤ 5 → exec (.wandCharacter st c) s = .next (s.afterDesk (d.onScan st ScanStation.counted)))) ∧
        (isForeign c → exec (.wandCharacter st c) s = .next (s.afterDesk (d.onScan st ScanStation.counted))))

/-- The three timers of a scan station expire, and a timer that does not run has no effect (the model's choice, log 4). The
station's outputs: the pad pulse ends, the display timer expires, a display record has been sent, a tone pattern ends; what the
pattern of each level is; and what a post, a removal, a redone selection and an accepted scan make of the pending set, the shown
prompt, the lamp, the display output, the tone and the display timer, and an accepted scan of the idle timer. -/
def Obligations.StationTimersAndOutputs : Prop :=
  (∀ (s : State) (st : StationId), s.desk.power.on = true →
     let d := s.desk
     ((d.scan.get st).wand = .hunting → exec (.characterGapExpiry st) s = .next (s.afterDesk d)) ∧
     ((d.scan.get st).wand ≠ .hunting →
       exec (.characterGapExpiry st) s = .next (s.afterDesk (d.onScan st ScanStation.counted))) ∧
     ((d.scan.get st).pairingTimer = none → exec (.pairingTimerExpiry st) s = .next (s.afterDesk d)) ∧
     ((d.scan.get st).pairingTimer ≠ none → exec (.pairingTimerExpiry st) s =
       .next (s.afterDesk (d.onScan st fun x => { x with candidate := none, pairingTimer := none }))) ∧
     exec (.suppressionTimerExpiry st) s =
       .next (s.afterDesk (d.onScan st fun x => { x with suppressionTimer := none }))) ∧
  (∀ (s : State) (st : StationId), s.desk.power.on = true →
     let d := s.desk
     let a := d.arbiters.get st
     exec (.padPulseExpiry st) s = .next (s.afterDesk (d.onStation st fun x => { x with pad := .quiet })) ∧
     exec (.tonePatternEnd st) s = .next (s.afterDesk (d.onArbiter st fun x => { x with tone := .quiet })) ∧
     (∀ r w, a.display = .sending r (some w) → exec (.displayRecordSent st) s =
       .next (s.afterDesk (d.onArbiter st fun x => { x with display := .sending w none }))) ∧
     (∀ r, a.display = .sending r none → exec (.displayRecordSent st) s =
       .next (s.afterDesk (d.onArbiter st fun x => { x with display := .idle }))) ∧
     (a.display = .idle → exec (.displayRecordSent st) s = .next (s.afterDesk d)) ∧
     (∀ p, a.displayTimer ≠ none → a.shown = some p → p.clearKind = .transient →
       exec (.displayTimerExpiry st) s = .next (s.afterDesk (d.removePrompt st p))) ∧
     (a.displayTimer = none → exec (.displayTimerExpiry st) s = .next (s.afterDesk d))) ∧
  ((Tone.playing .urgent).plays = [.tone .high 150, .gap 100, .tone .high 150, .gap 100, .tone .high 150] ∧
   (Tone.playing .refusal).plays = [.tone .low 200, .gap 100, .tone .low 200] ∧
   (Tone.playing .action).plays = [.tone .high 300] ∧ (Tone.playing .info).plays = [.tone .high 60] ∧
   Tone.quiet.plays = [] ∧ Pitch.high.hertz = 2048 ∧ Pitch.low.hertz = 1024 ∧
   [Level.urgent, .refusal, .action, .info].map (fun l => patternLength l.pattern) = [650, 500, 300, 60]) ∧
  ((∀ r, DisplayOutput.idle.hand r = .sending r none) ∧
   (∀ c w r, (DisplayOutput.sending c w).hand r = .sending c (some r)) ∧
   lampOf none = .off ∧ (∀ s, lampOf (some s) = match s.level with
     | .urgent => .red
     | .refusal => .red
     | .action => .amber
     | .info => .green)) ∧
  ∀ (d : Desk) (st : StationId), d.settings.precedence.Perm [.urgent, .refusal, .action, .info] →
    Table.Sorted Prompt.key (d.arbiters.get st).pending →
    let a := d.arbiters.get st
    let x : ArbiterSettings := ⟨d.settings.precedence, (d.stationSettings.get st).masks, d.settings.displayTime⟩
    let turns := fun (after : Desk) (occurrence : Option Source) (pending : Prompt → Prop) =>
      ∃ b, after = { d with arbiters := d.arbiters.set st b } ∧ a.Turns x occurrence b ∧ ∀ q, q ∈ b.pending ↔ pending q
    (∀ p, turns (d.post st p) (some p.source) fun q => q = p ∨ (q ∈ a.pending ∧ q.source ≠ p.source)) ∧
    (∀ s, turns (d.removePrompt st s) none fun q => q ∈ a.pending ∧ q.source ≠ s) ∧
    turns (d.reselect st) none (fun q => q ∈ a.pending) ∧
    turns { d.acceptScan st with stations := d.stations } none
      (fun q => q ∈ a.pending ∧ q.source.clearKind ≠ .transient) ∧
    (∀ y, d.context st = .opened y → (d.acceptScan st).stations = (d.onStation st fun e => { e with
      context := .opened { y with idleTimer := (d.stationSettings.get st).idleTimeout } }).stations) ∧
    ((d.context st).isOpen = false → (d.acceptScan st).stations = d.stations)

/-- A read at the pairing stage: held, or read-accepted; a read-accepted code equal to the suppression memory is dropped
while the suppression timer runs, and any other is classified. -/
def Obligations.PairingAndSuppression : Prop :=
  ∀ (d : Desk) (st : StationId) (c : Code),
    let x := d.scan.get st
    let required := (d.stationSettings.get st).readsRequired
    let window := (d.stationSettings.get st).pairingWindow
    let accepted := fun d' : Desk =>
      if x.suppression = some c ∧ x.suppressionTimer ≠ none then d' else d'.classifyRead st c
    (x.candidate = none → 1 < required →
      d.takeRead st c = d.onScan st fun x => { x with candidate := some ⟨c, 1⟩, pairingTimer := some window }) ∧
    (x.candidate = none → required ≤ 1 → d.takeRead st c = accepted d) ∧
    ∀ k n, x.candidate = some ⟨k, n⟩ →
      (k ≠ c →
        d.takeRead st c = d.onScan st fun x => { x with candidate := some ⟨c, 1⟩, pairingTimer := some window }) ∧
      (k = c → n + 1 < required →
        d.takeRead st c = d.onScan st fun x => { x with candidate := some ⟨c, n + 1⟩ }) ∧
      (k = c → required ≤ n + 1 →
        d.takeRead st c = accepted (d.onScan st fun x => { x with candidate := none, pairingTimer := none }))

/-- R12: the match, the winner, and a code that fails the winner's check. -/
def Obligations.LongestPrefixWins : Prop :=
  ∀ (table : List PrefixEntry) (c : Code), Table.Sorted PrefixEntry.key table →
    let fits := fun e : PrefixEntry => e.lead = c.take e.lead.length ∧ e.minLength ≤ c.length ∧ c.length ≤ e.maxLength
    (∀ e, winnerOf table c = some e ↔
      e ∈ table ∧ fits e ∧ ∀ o ∈ table, fits o →
        o.lead.length < e.lead.length ∨ (o.lead.length = e.lead.length ∧ e.slot ≤ o.slot)) ∧
    (winnerOf table c = none ↔ ∀ o ∈ table, ¬ fits o) ∧
    ∀ e, winnerOf table c = some e → e.cls ≠ .ignore → e.check = .weighted10 → passesWeighted10 c = false →
      classifyScan table c = .invalid

/-- The weight of the digit at a place counted leftward from the one next to the check digit: 3, 1, 3, 1 and so on. -/
def Sys2Proof.Machine.weightAt (place : Nat) : Nat := if place % 2 = 0 then 3 else 1

/-- The WEIGHTED10 check, the command that the last two digits name, and the outcomes of a code that passed repeat suppression, in
their order. An accepted scan is reported to the arbiter before the refusal's prompt is posted or the code is offered to the
queue. -/
def Obligations.ClassificationOutcomes : Prop :=
  ((∀ (body : Code) (check : Digit), passesWeighted10 (body ++ [check]) = true ↔
     check.val = (10 - ((body.reverse.mapIdx fun i x => weightAt i * x.val).sum) % 10) % 10) ∧
   ∀ (body : Code) (a b : Digit), commandOf (body ++ [a, b]) =
     match a.val, b.val with
     | 0, 1 => some .loanMode
     | 0, 2 => some .returnMode
     | 0, 3 => some .renewMode
     | 1, 0 => some .endSession
     | 1, 1 => some .cancelLast
     | 1, 2 => some .overrideCard
     | 1, 3 => some .clear
     | 1, 4 => some .reprint
     | 1, 5 => some .skipSlip
     | _, _ => none) ∧
  (∀ (d : Desk) (st : StationId) (c : Code),
     (winnerOf d.tables.prefixes c = none → d.classifyRead st c = (d.acceptScan st).post st .scanInvalid) ∧
     ∀ e, winnerOf d.tables.prefixes c = some e →
       (e.cls = .ignore → d.classifyRead st c = d) ∧
       (e.cls ≠ .ignore → e.check = .weighted10 → passesWeighted10 c = false →
         d.classifyRead st c = (d.acceptScan st).post st .scanInvalid) ∧
       ((e.check = .none ∨ passesWeighted10 c = true) →
         (e.cls = .command → commandOf c = none → d.classifyRead st c = (d.acceptScan st).post st .scanInvalid) ∧
         (∀ k, e.cls = .command → commandOf c = some k →
           d.classifyRead st c = (d.acceptScan st).offerScan st (.command c k)) ∧
         (∀ n, e.cls = .borrower n → d.classifyRead st c = (d.acceptScan st).offerScan st (.borrower c n)) ∧
         (∀ n, e.cls = .item n → d.classifyRead st c = (d.acceptScan st).offerScan st (.item c n))))

/-- A classified code is placed at the tail of a queue that holds fewer than four, with the suppression memory written; the codes
are then taken. Four waiting codes refuse it. The head is taken at an IDLE or OPEN station only, and each new head in turn until
the queue is empty or the station has entered LOOKUP. -/
def Obligations.ScanQueueHoldsFour : Prop :=
  (∀ (d : Desk) (st : StationId) (e : QueueEntry),
     let window := (d.stationSettings.get st).suppressionWindow
     ((d.scan.get st).queue.length < 4 →
       d.offerScan st e = (d.onScan st fun x =>
         { x with
           queue := x.queue ++ [e]
           suppression := some e.code
           suppressionTimer := if window = 0 then none else some window }).drain st) ∧
     (4 ≤ (d.scan.get st).queue.length → d.offerScan st e = d.post st .queueOverflow) ∧
     ((d.context st).takes = false → d.drain st = d) ∧
     ((d.scan.get st).queue = [] → d.drain st = d) ∧
     ((d.scan.get st).queue = [e] → (d.context st).takes = true →
       d.drain st = (d.onScan st fun x => { x with queue := [] }).takeEntry st e) ∧
     (∀ rest, (d.scan.get st).queue = e :: rest → (d.context st).takes = true →
       d.drain st = ((d.onScan st fun x => { x with queue := rest }).takeEntry st e).drain st)) ∧
  (∀ (d : Desk) (st : StationId), (d.context st).takes = true →
     ((d.drain st).scan.get st).queue = [] ∨ ∃ r, (d.drain st).context st = .lookup r)

/-- The desk once a block check of a card has raised its notice. -/
def Sys2Proof.Machine.Desk.blockChecked (d : Desk) (st : StationId) (card : Code) : Desk :=
  match d.blockCheck card with
  | some e => d.raiseNotice (match e.action with
    | .watch => .watchHit st card e.reason
    | action => .blockHit st card action e.reason)
  | none => d

/-- The desk once a session on a card with the entry `b` has opened, the winner of its block check told. -/
def Sys2Proof.Machine.Desk.withSession (d : Desk) (st : StationId) (card : Code) (b : Borrower) (winner : Option BlockEntry) :
    Desk :=
  let session : Session := { borrower := card, provisional := b.provisional, items := [], arm := none,
                             idleTimer := (d.stationSettings.get st).idleTimeout }
  let told := (d.setContext st (.opened session)).post st
    (.sessionOpen (card.drop (card.length - 4)) b.loansHeld b.holdsReady b.finesOwed)
  match winner with
  | some e => if e.action = .refer then told.post st (.refer e.reason) else told
  | none => told

/-- What the engine does with a code that it takes at an IDLE or OPEN station. A borrower card: the open session ends; a deferred
slip, a REFUSE block and a card in use elsewhere refuse it; a card with an entry opens its session; a card without one is looked
up while the link is ONLINE, and asks for a provisional entry while it is OFFLINE. An item, by the state, the station mode and the
desk mode. A command card acts as its row. In LOOKUP's entry the model posts JOURNAL_FULL, when it holds, before LOOKUP_WAIT, and a
full table's alarm before its prompt (the model's choices, log 16). -/
def Obligations.CodesAreTaken : Prop :=
  (∀ (d : Desk) (st : StationId) (card : Code) (category : Nat), (d.context st).takes = true →
     let a := d.takeEntry st (.borrower card category)
     let ended := match d.context st with
       | .opened x => d.endSession st x .idle
       | _ => d
     let winner := ended.blockCheck card
     let noticed := ended.blockChecked st card
     let elsewhere := ∃ o, o ≠ st ∧ (noticed.context o).card = some card
     let opens := fun (d : Desk) (b : Borrower) => d.withSession st card b winner
     let waits := noticed.setContext st (.lookup ⟨card, category, noticed.settings.lookupTimeout⟩)
     let entry : Borrower := { card := card, category := category, loansHeld := 0, holdsReady := 0, finesOwed := 0,
                               expiryDay := noticed.clock.day, provisional := true }
     (d.mode ≠ .opened → a = d.post st .deskClosed) ∧
     (d.mode = .opened → ended.deferredAt st ≠ none → a = ended) ∧
     (d.mode = .opened → ended.deferredAt st = none →
       (∀ e, winner = some e → e.action = .refuse → a = noticed.post st (.borrowerBlocked e.reason)) ∧
       ((∀ e, winner = some e → e.action ≠ .refuse) →
         (elsewhere → a = noticed.post st (.loanRefused .borrowerElsewhere none)) ∧
         (¬ elsewhere →
           (∀ b, noticed.borrower card = some b → a = opens noticed b) ∧
           (noticed.borrower card = none →
             (noticed.link ≠ .offline →
               a = ({ waits with lookupList := noticed.lookupList ++ [LookupFrame.mk st card] }).post st .lookupWait) ∧
             (noticed.link = .offline →
               ((noticed.category category).offlineCap = 0 → a = noticed.post st .unknownBorrower) ∧
               ((noticed.category category).offlineCap ≠ 0 → 65536 ≤ noticed.tables.borrowers.length →
                 a = (noticed.raiseAlarm .tableFull).post st (.loanRefused .tableFull none)) ∧
               ((noticed.category category).offlineCap ≠ 0 → noticed.tables.borrowers.length < 65536 →
                 a = opens ((noticed.putBorrower entry).raiseNotice (.provisionalOpened st card)) entry))))))) ∧
  (∀ (d : Desk) (st : StationId) (item : Code) (scanned : Nat),
     let a := d.takeEntry st (.item item scanned)
     let mode := (d.stations.get st).mode
     (d.context st = .idle →
       (mode = .ret → (d.mode ≠ .closed ∨ d.settings.returnsWhenClosed = true) → a = d.returnItem st item scanned) ∧
       (mode = .ret → d.mode = .closed → d.settings.returnsWhenClosed = false → a = d.post st .deskClosed) ∧
       (mode ≠ .ret → d.mode = .opened → a = d.post st (.loanRefused .noSession none)) ∧
       (mode ≠ .ret → d.mode ≠ .opened → a = d.post st .deskClosed)) ∧
     ∀ x, d.context st = .opened x →
       (mode = .loan → a = d.loan st x item scanned) ∧
       (mode = .ret → a = d.returnItem st item scanned) ∧
       (mode = .renew → a = d.renewal st x item scanned)) ∧
  ∀ (s : State) (st : StationId) (c : Code), s.desk.power.on = true →
    let acts := fun (row : Instr) (k : Command) => exec row s = .next (s.afterDesk (s.desk.takeEntry st (.command c k)))
    acts (.loanMode st) .loanMode ∧ acts (.returnMode st) .returnMode ∧ acts (.renewMode st) .renewMode ∧
    acts (.endCard st) .endSession ∧ acts (.cancelLast st) .cancelLast ∧ acts (.overrideCard st) .overrideCard ∧
    acts (.clearCard st) .clear ∧ acts (.reprint st) .reprint ∧ acts (.skipSlip st) .skipSlip

/-! ## Command cards and the engine's timers -/

/-- The command cards but CANCEL_LAST and END at an OPEN station. The mode cards set the station mode in every state but DISABLED.
END, CANCEL_LAST and OVERRIDE without a session: END has no effect, the other two are refused with NO_SESSION at an IDLE station.
In LOOKUP and in DISABLED the engine takes no code, so the rows have no effect there (the model's choice, log 3). OVERRIDE arms an
open session for 60 s and the expiry clears the arm, and neither touches anything else of the session. CLEAR removes the shown
prompt when it is of kind STAFF, and has no effect otherwise. REPRINT hands over the last-slip copy, marked, for this station;
SKIP_SLIP discards the station's deferred slip. -/
def Obligations.CommandCardsAct : Prop :=
  (∀ (s : State) (st : StationId), s.desk.power.on = true →
     let d := s.desk
     let becomes := fun (c : Instr) (m : StationMode) =>
       exec c s = .next (s.afterDesk (d.onStation st fun x => { x with mode := m }))
     (d.context st ≠ .disabled →
       becomes (.loanMode st) .loan ∧ becomes (.returnMode st) .ret ∧ becomes (.renewMode st) .renew) ∧
     (d.context st = .disabled →
       exec (.loanMode st) s = .next (s.afterDesk d) ∧ exec (.returnMode st) s = .next (s.afterDesk d) ∧
         exec (.renewMode st) s = .next (s.afterDesk d))) ∧
  ((∀ (s : State) (st : StationId), s.desk.power.on = true →
      let d := s.desk
      ((d.context st).isOpen = false → exec (.endCard st) s = .next (s.afterDesk d)) ∧
      (d.context st = .idle →
        exec (.cancelLast st) s = .next (s.afterDesk (d.post st (.loanRefused .noSession none))) ∧
        exec (.overrideCard st) s = .next (s.afterDesk (d.post st (.loanRefused .noSession none)))) ∧
      ((d.context st).takes = false →
        exec (.cancelLast st) s = .next (s.afterDesk d) ∧ exec (.overrideCard st) s = .next (s.afterDesk d) ∧
        exec (.clearCard st) s = .next (s.afterDesk d) ∧ exec (.reprint st) s = .next (s.afterDesk d) ∧
        exec (.skipSlip st) s = .next (s.afterDesk d))) ∧
   (∀ (s : State) (st : StationId) (x : Session), s.desk.power.on = true → s.desk.context st = .opened x →
      exec (.overrideCard st) s =
        .next (s.afterDesk (s.desk.onStation st fun e => { e with context := .opened { x with arm := some 60 } })) ∧
      exec (.overrideArmExpiry st) s =
        .next (s.afterDesk (s.desk.onStation st fun e => { e with context := .opened { x with arm := none } })))) ∧
  (∀ (s : State) (st : StationId), s.desk.power.on = true → (s.desk.context st).takes = true →
     let d := s.desk
     (∀ p, (d.arbiters.get st).shown = some p → p.clearKind = .staff →
       exec (.clearCard st) s = .next (s.afterDesk (d.removePrompt st p))) ∧
     ((∀ p, (d.arbiters.get st).shown = some p → p.clearKind ≠ .staff) →
       exec (.clearCard st) s = .next (s.afterDesk d))) ∧
  (∀ (s : State) (st : StationId), s.desk.power.on = true → (s.desk.context st).takes = true →
     let d := s.desk
     (d.slips.lastSlips.get st = none → exec (.reprint st) s = .next (s.afterDesk d)) ∧
     (∀ j, d.slips.lastSlips.get st = some j →
       exec (.reprint st) s = .next (s.afterDesk (d.handOver { j with reprint := true, station := st }))) ∧
     (d.deferredAt st = none → exec (.skipSlip st) s = .next (s.afterDesk d)) ∧
     ∀ j, d.deferredAt st = some j →
       exec (.skipSlip st) s = .next (s.afterDesk
         (((d.onSlips fun x => { x with deferrals := x.deferrals.filter fun o => o.station != st }).removePrompt st
           .slipWaiting).append (some j.station) .none (.slipDiscarded j.borrower j.kind.item .skipped))))

/-- R131. Which of two things that come at once is first is the order of the queue. -/
def Obligations.PromptClearTable : Prop :=
  ∀ (s : State) (tag station source : Byte), s.Dispatches →
    let d := s.desk.frameArrives
    let answers := fun x => exec (.promptClear tag station source) s = .next (s.afterReply tag x)
    (StationId.ofNumber station.toNat = none ∨ Source.ofNumber source.toNat = none → answers (d.answer .badArg)) ∧
    ∀ st p, StationId.ofNumber station.toNat = some st → Source.ofNumber source.toNat = some p →
      (p.clearKind ≠ .staff → answers (d.answer .badState)) ∧
      (p.clearKind = .staff → (∀ q ∈ (d.arbiters.get st).pending, q.source ≠ p) → answers (d.answer .notFound)) ∧
      (p.clearKind = .staff → (∃ q ∈ (d.arbiters.get st).pending, q.source = p) →
        answers ((d.removePrompt st p).answer .ok))

/-- CANCEL_LAST at an OPEN station. With no LENT entry it is refused with NOTHING_TO_CANCEL, and without a free place with
JOURNAL_FULL; otherwise the item entry is what it was before the loan, the borrower holds one loan fewer, a CANCEL record
names the LOAN record, the newest LENT entry leaves the list, the pad resensitises and SESSION_OPEN is posted. A lapsed hold
of the item is lapsed at the decision's read of it, which comes after the test for a LENT entry and before the test for a free
place (the model's choice, log 16). -/
def Obligations.CancelLastUndoesTheNewestLoan : Prop :=
  ∀ (s : State) (st : StationId) (x : Session), s.desk.power.on = true → s.desk.context st = .opened x →
    ((∀ e ∈ x.items, e.isLent = false) →
      exec (.cancelLast st) s = .next (s.afterDesk (s.desk.post st (.loanRefused .nothingToCancel none)))) ∧
    ∀ before item due seq prior after, x.items = before ++ .lent item due seq prior :: after →
      (∀ e ∈ after, e.isLent = false) →
      let d := s.desk.lapseAtRead st item
      (d.anyRoom = false →
        exec (.cancelLast st) s = .next (s.afterDesk (d.post st (.loanRefused .journalFull none)))) ∧
      (d.anyRoom = true →
        let restored := match prior with
          | some e => match e.status with
            | .onHoldShelf hold _ => (d.putItem e).changeBorrower hold Borrower.holdUp
            | _ => d.putItem e
          | none => d.eraseItem item
        let recorded := (restored.changeBorrower x.borrower Borrower.returnOne).append (some st) .none
          (.cancel x.borrower item seq)
        let ended := recorded.onStation st fun e =>
          { e with context := .opened { x with items := before ++ after },
                   pad := .resensitising (recorded.stationSettings.get st).padPulse }
        exec (.cancelLast st) s = .next (s.afterDesk (ended.postSessionOpen st x.borrower)))

/-- A session ends by END and by the idle timeout: the loan slip is composed and kept when slip printing is on and the list
holds a LENT or RENEWED entry, SESSION_END is posted with the number of those entries, the station becomes IDLE, the slip is
handed over, and a CLOSING desk that now serves no station becomes CLOSED. The other ends of a session are the same but for that
test, the station becoming IDLE or DISABLED. -/
def Obligations.SessionEnds : Prop :=
  (∀ (s : State) (st : StationId) (x : Session), s.desk.power.on = true → s.desk.context st = .opened x →
     let d := s.desk
     let count := x.items.countP fun e => !e.isReturned
     let told := fun d : Desk => (d.post st (.sessionEnd count)).setContext st .idle
     (∀ j, (d.stationSettings.get st).slipPrinting = true → x.loanSlip st = some j →
       let kept := d.onSlips fun x => { x with lastSlips := x.lastSlips.set st (some j) }
       exec (.endCard st) s = .next (s.afterDesk ((told kept).handOver j).testClosing) ∧
       exec (.idleTimeout st) s = .next (s.afterDesk ((told kept).handOver j).testClosing)) ∧
     ((d.stationSettings.get st).slipPrinting = false ∨ x.loanSlip st = none →
       exec (.endCard st) s = .next (s.afterDesk (told d).testClosing) ∧
       exec (.idleTimeout st) s = .next (s.afterDesk (told d).testClosing))) ∧
  ∀ (d : Desk) (st : StationId) (x : Session) (next : Context),
    let count := x.items.countP fun e => !e.isReturned
    let told := fun d : Desk => (d.post st (.sessionEnd count)).setContext st next
    (∀ j, (d.stationSettings.get st).slipPrinting = true → x.loanSlip st = some j →
      d.endSession st x next = (told (d.onSlips fun x => { x with lastSlips := x.lastSlips.set st (some j) })).handOver j) ∧
    ((d.stationSettings.get st).slipPrinting = false ∨ x.loanSlip st = none → d.endSession st x next = told d)

/-! ## The desk mode and lookups -/

/-- The desk after every session has ended and every lookup has been abandoned, station by station. -/
def Sys2Proof.Machine.Desk.emptied (d : Desk) : Desk :=
  [StationId.st0, .st1, .st2, .st3].foldl (fun d st => d.stopStation .idle st) d

/-- DESK_MODE OPEN and CLOSE and the expiry of the closing grace timer. A forced closing stops every station; a CLOSING desk that
serves no station becomes CLOSED. The order of a closing's effects is the model's choice (log 8), and so is that the expiry of a
stopped timer has no effect (log 4). -/
def Obligations.DeskModeChanges : Prop :=
  (∀ (s : State) (tag : Byte), s.Dispatches →
     let d := s.desk.frameArrives
     let opens := fun d' : Desk => exec (.deskModeOpen tag) s = .next (s.afterReply tag (d'.answer .ok))
     let closes := fun d' : Desk => exec (.deskModeClose tag) s = .next (s.afterReply tag (d'.answer .ok))
     let closing := ({ d with mode := .closing, closingTimer := some d.settings.closingGrace }).append none .none
       (.deskMode .closing)
     (d.mode = .opened → opens d) ∧
     (d.mode ≠ .opened →
       opens (({ d with mode := .opened, closingTimer := none }).append none .none (.deskMode .opened))) ∧
     (d.mode = .closed → closes d) ∧
     (d.mode = .opened → d.settings.closingGrace = 0 → closes closing.forceClose) ∧
     (d.mode = .opened → d.settings.closingGrace ≠ 0 → d.anyServing = true → closes closing) ∧
     (d.mode = .opened → d.settings.closingGrace ≠ 0 → d.anyServing = false → closes closing.becomeClosed) ∧
     (d.mode = .closing → closes d.forceClose)) ∧
  (∀ s : State, s.desk.power.on = true →
     (s.desk.mode = .closing → s.desk.closingTimer ≠ none →
       exec .closingGraceExpiry s = .next (s.afterDesk s.desk.forceClose)) ∧
     ((s.desk.mode ≠ .closing ∨ s.desk.closingTimer = none) →
       exec .closingGraceExpiry s = .next (s.afterDesk s.desk))) ∧
  ∀ d : Desk,
    (d.anyServing = true ↔ ∃ st, (∃ x, d.context st = .opened x) ∨ ∃ r, d.context st = .lookup r) ∧
    (∀ st next,
      (∀ x, d.context st = .opened x → d.stopStation next st = d.endSession st x next) ∧
      (∀ r, d.context st = .lookup r → d.stopStation next st = d.leaveLookup st next) ∧
      ((d.context st = .idle ∨ d.context st = .disabled) → d.stopStation next st = d)) ∧
    (d.forceClose = ([StationId.st0, .st1, .st2, .st3].foldl Desk.drain d.emptied.becomeClosed)) ∧
    (d.becomeClosed =
      (((({ d with mode := .closed, closingTimer := none }).append none .none (.deskMode .closed)).applyPendingMark)).tryWaitingUpload) ∧
    (d.mode = .closing → d.anyServing = false → d.testClosing = d.becomeClosed) ∧
    ((d.mode ≠ .closing ∨ d.anyServing = true) → d.testClosing = d)

/-- Expiry of a lookup timer: with an offline cap of 0 UNKNOWN_BORROWER, with a full borrower table TABLE_FULL, otherwise a
provisional entry and what the fresh block check allows. Then a CLOSING desk is tested and the waiting codes are taken, in that
order, which is the model's choice (log 8). At a station not in LOOKUP the timer does not run, and its expiry has no effect (the
model's choice, log 4). Whatever the path by which a station leaves LOOKUP, its waiting LOOKUP frame is withdrawn and LOOKUP_WAIT
removed; the fresh block check then refuses the card at an IDLE station or opens the session. Every change of a station's state
tells its arbiter of JOURNAL_FULL. Which of the prompts of one such step goes or comes first is the model's choice (log 16). -/
def Obligations.LookupTimesOut : Prop :=
  (∀ (s : State) (st : StationId), s.desk.power.on = true →
     let d := s.desk
     ((∀ r, d.context st ≠ .lookup r) → exec (.lookupTimeout st) s = .next (s.afterDesk d)) ∧
     ∀ r, d.context st = .lookup r →
       let ends := fun d' : Desk => exec (.lookupTimeout st) s = .next (s.afterDesk (d'.testClosing.drain st))
       let entry : Borrower := { card := r.card, category := r.category, loansHeld := 0, holdsReady := 0, finesOwed := 0,
                                 expiryDay := d.clock.day, provisional := true }
       ((d.category r.category).offlineCap = 0 → ends ((d.leaveLookup st .idle).post st .unknownBorrower)) ∧
       ((d.category r.category).offlineCap ≠ 0 → d.borrowerTableFull = true →
         ends (((d.raiseAlarm .tableFull).leaveLookup st .idle).post st (.loanRefused .tableFull none))) ∧
       ((d.category r.category).offlineCap ≠ 0 → d.borrowerTableFull = false →
         ends (((d.putBorrower entry).raiseNotice (.provisionalOpened st r.card)).openFromLookup st r.card))) ∧
  (∀ (d : Desk) (st : StationId),
     let left := ({ d with lookupList := d.lookupList.filter fun f => f.station != st }).removePrompt st .lookupWait
     (∀ next, d.leaveLookup st next = left.setContext st next) ∧
     ∀ card b, d.borrower card = some b →
       let noticed := left.blockChecked st card
       (∀ e, d.blockCheck card = some e → e.action = .refuse →
         d.openFromLookup st card = (noticed.setContext st .idle).post st (.borrowerBlocked e.reason)) ∧
       ((∀ e, d.blockCheck card = some e → e.action ≠ .refuse) →
         d.openFromLookup st card = noticed.withSession st card b (d.blockCheck card))) ∧
  ∀ (d : Desk) (st : StationId) (next : Context),
    let changed := d.onStation st fun e => { e with context := next }
    let serving := (∃ x, next = .opened x) ∨ ∃ r, next = .lookup r
    let full := 16384 - d.journal.held.length ≤ d.settings.returnReserve
    let told := ∃ q ∈ (d.arbiters.get st).pending, q.source = .journalFull
    (serving → full → ¬ told → d.setContext st next = changed.post st .journalFull) ∧
    (serving → (¬ full ∨ told) → d.setContext st next = changed) ∧
    (¬ serving → told → d.setContext st next = changed.removePrompt st .journalFull) ∧
    (¬ serving → ¬ told → d.setContext st next = changed)

/-- LOOKUP_REPLY by what it says and by whether a station waits for its card. After a reply in time a CLOSING desk is tested
before the waiting codes are taken, which is the model's choice (log 8). -/
def Obligations.LookupRepliesAnswered : Prop :=
  ∀ (s : State) (tag : Byte) (card : CodeField) (category loansHeld holdsReady : Byte) (finesOwed expiryDay : Half),
    s.Dispatches →
    let d := s.desk.frameArrives
    let found := fun x => exec (.lookupReplyFound tag card category loansHeld holdsReady finesOwed expiryDay) s =
      .next (s.afterReply tag x)
    let notFound := fun x => exec (.lookupReplyNotFound tag card) s = .next (s.afterReply tag x)
    let entry := fun c : Code => (⟨c, category.toNat, loansHeld.toNat, holdsReady.toNat, finesOwed.toNat, expiryDay.toNat,
      false⟩ : Borrower)
    let inRange := category.toNat ≤ 15 ∧ loansHeld.toNat ≤ 99 ∧ holdsReady.toNat ≤ 15
    (CodeField.code card = none → found (d.answer .badArg) ∧ notFound (d.answer .badArg)) ∧
    (¬ inRange → found (d.answer .badArg)) ∧
    ∀ c, CodeField.code card = some c →
      (∀ st, d.lookingFor c = some st →
        (inRange → d.borrower c = none → d.borrowerTableFull = true →
          found (((((d.raiseAlarm .tableFull).leaveLookup st .idle).post st (.loanRefused .tableFull none)).testClosing.drain
            st).answer .full)) ∧
        (inRange → (d.borrower c ≠ none ∨ d.borrowerTableFull = false) →
          found (((((d.putBorrower (entry c)).openFromLookup st c).testClosing).drain st).answer .ok)) ∧
        notFound (((((d.leaveLookup st .idle).post st .unknownBorrower).testClosing).drain st).answer .ok)) ∧
      (d.lookingFor c = none →
        (inRange → d.borrower c = none → d.borrowerTableFull = true →
          found ((d.raiseAlarm .tableFull).answer .full)) ∧
        (inRange → d.borrower c = none → d.borrowerTableFull = false → found ((d.putBorrower (entry c)).answer .ok)) ∧
        (d.borrower c = none → notFound (d.answer .ok)) ∧
        ∀ old, d.borrower c = some old →
          (inRange → old.provisional = false → found (d.answer .ok)) ∧
          (inRange → old.provisional = true →
            found (((d.putBorrower { entry c with
              loansHeld := min (loansHeld.toNat + old.loansHeld) 99
              finesOwed := min (finesOwed.toNat + old.finesOwed) 65535 }).confirmSessions c).answer .ok)) ∧
          (old.provisional = false → notFound (d.answer .ok)) ∧
          (old.provisional = true →
            notFound ((d.raiseNotice (.borrowerUnknown (d.sessionFor c) c)).answer .ok)))

/-- A block check of a card: which entries match it today, and which of them wins. -/
def Obligations.BlockCheckPicksTheWinner : Prop :=
  ∀ (d : Desk) (card : Code),
    let fits := fun e : BlockEntry => card.length = e.key.cardLength ∧ card.take (card.length - e.key.k) = e.key.pattern ∧
      ∀ day, e.expiryDay = some day → d.clock.day ≤ day
    let place := fun a : BlockAction => match a with
      | .refuse => 0
      | .refer => 1
      | .watch => 2
    (d.blockCheck card = none ↔ ∀ e ∈ d.tables.blocks, ¬ fits e) ∧
    ∀ e, d.blockCheck card = some e → e ∈ d.tables.blocks ∧ fits e ∧
      ∀ o ∈ d.tables.blocks, fits o →
        e.key.k < o.key.k ∨ (e.key.k = o.key.k ∧ place e.action ≤ place o.action)

/-! ## The clock and the calendar -/

/-- The clock one second later. -/
def Sys2Proof.Machine.Clock.secondLater (c : Clock) : Clock :=
  let aged : Clock := { c with
    prescaler := 0
    markAge := min (c.markAge + 1) 172801
    pendingMark := c.pendingMark.map fun p => { p with elapsed := p.elapsed + 1 } }
  if c.second < 59 then { aged with second := c.second + 1 }
  else if c.minute < 1439 then { aged with second := 0, minute := c.minute + 1 }
  else { aged with second := 0, minute := 0, day := min (c.day + 1) 65535 }

/-- SECOND_COMPLETE: the count, the day-change event of a day that rose, the announcement of a changed minute, and the sync
state. In an outage all of it stands while the battery holds, and nothing once it has fallen (the model's choice, log 5); the
day-change event of an outage prunes the exceptions as any other does. The sync state by the time source and the mark age, and
its report to the alarm set. -/
def Obligations.SecondCompletes : Prop :=
  (∀ s : State,
     let d := s.desk
     let counted : Desk := { d with clock := d.clock.secondLater }
     let dayed := if d.clock.day < counted.clock.day then counted.dayChange counted.clock.day else counted
     let told := if d.clock.day = counted.clock.day ∧ d.clock.minute = counted.clock.minute then dayed
       else dayed.announceMinute
     (d.power.on = true → exec .secondComplete s = .next (s.afterDesk told.reportSync)) ∧
     (d.power.on = false → d.power.batteryFell = false → exec .secondComplete s = .next { s with desk := told.reportSync }) ∧
     (d.power.on = false → d.power.batteryFell = true → exec .secondComplete s = .next s)) ∧
  ∀ d : Desk,
    let limit := d.settings.markAgeLimit * 3600
    (d.settings.timeSource = .localTime → d.syncState = .localTime) ∧
    (d.settings.timeSource = .marks → d.clock.markAge ≤ limit → d.syncState = .synced) ∧
    (d.settings.timeSource = .marks → limit < d.clock.markAge → d.syncState = .unsynced) ∧
    d.reportSync = d.reportCondition .clockUnsynced (decide (d.syncState = .unsynced))

/-- The day-change event of day `t`: the sweep starts anew, exceptions of days below t − 400 go, and a waiting upload of an
earlier day is cleared; nothing else changes. The announcement of a changed minute: at the upload minute an upload starts when
the engine is IDLE, the desk CLOSED and the link ONLINE, and else upload-waiting is set with today. A setting of the clock: what
the clock then holds; the day-change event, the announcement and the CLOCK_CHANGE record are made with the new day and minute
(their order is the model's choice, log 9). -/
def Obligations.ClockEventsAndSettings : Prop :=
  ((∀ (d : Desk) (t : Nat), d.dayChange t =
      { d with
        sweep := some ⟨t, .items none⟩
        tables := { d.tables with
          exceptions := d.tables.exceptions.filter fun e => decide (t < 400) || decide (t - 400 ≤ e.day) }
        upload := { d.upload with waiting := d.upload.waiting.filter fun w => decide (t ≤ w) } }) ∧
   (∀ d : Desk,
      let may := d.upload.state = .idle ∧ d.mode = .closed ∧ d.link ≠ .offline
      (d.settings.uploadMinute ≠ some d.clock.minute → d.announceMinute = d) ∧
      (d.settings.uploadMinute = some d.clock.minute → may → d.announceMinute = d.startUpload) ∧
      (d.settings.uploadMinute = some d.clock.minute → ¬ may →
        d.announceMinute = { d with upload := { d.upload with waiting := some d.clock.day } }))) ∧
  (∀ (d : Desk) (cause : ClockCause) (day minute second : Nat),
     let old := d.clock
     let set : Desk := { d with clock :=
       { day := day, minute := minute, second := second, prescaler := 0,
         markAge := if cause = .set then old.markAge else 0, pendingMark := none } }
     let dayed := if old.day < day then set.dayChange day else set
     let told := if old.day = day ∧ old.minute = minute then dayed else dayed.announceMinute
     let recorded := if cause = .set ∨ day ≠ old.day then told.append none .none (.clockChange cause) else told
     d.setClock cause day minute second = recorded.reportSync ∧
     (d.setClock cause day minute second).clock = set.clock)

/-- TIME_MARK and CLOCK_SET. The application of a pending mark, advanced by the seconds since it arrived, at most to the last second
of day 65,535; after it no mark is pending. -/
def Obligations.MarksAndClockSets : Prop :=
  (∀ (s : State) (tag : Byte) (day minute : Half) (second : Byte), s.Dispatches →
     let d := s.desk.frameArrives
     let marks := fun x => exec (.timeMark tag day minute second) s = .next (s.afterReply tag x)
     let sets := fun x => exec (.clockSet tag day minute second) s = .next (s.afterReply tag x)
     let mark := day.toNat * 86400 + minute.toNat * 60 + second.toNat
     let now := d.clock.day * 86400 + d.clock.minute * 60 + d.clock.second
     let within := mark ≤ now + d.settings.stepLimit * 60 ∧ now ≤ mark + d.settings.stepLimit * 60
     let wellFormed := minute.toNat ≤ 1439 ∧ second.toNat ≤ 59
     (¬ wellFormed → marks (d.answer .badArg) ∧ sets (d.answer .badArg)) ∧
     (wellFormed → sets ((d.setClock .set day.toNat minute.toNat second.toNat).answer .ok)) ∧
     (wellFormed → d.settings.timeSource = .localTime → marks (d.answer .ok)) ∧
     (wellFormed → d.settings.timeSource = .marks →
       (d.mode = .closed ∨ within → marks ((d.setClock .mark day.toNat minute.toNat second.toNat).answer .ok)) ∧
       (d.mode ≠ .closed → ¬ within →
         marks ((({ d with clock := { d.clock with
           pendingMark := some ⟨day.toNat, minute.toNat, second.toNat, 0⟩ } }).raiseAlarm .clockDispute).answer .badState)))) ∧
  ∀ d : Desk,
    (d.clock.pendingMark = none → d.applyPendingMark = d) ∧
    (∀ p, d.clock.pendingMark = some p →
      let due := min (p.day * 86400 + p.minute * 60 + p.second + p.elapsed) (65535 * 86400 + 1439 * 60 + 59)
      d.applyPendingMark = d.setClock .pendingMark (due / 86400) (due % 86400 / 60) (due % 60)) ∧
    d.applyPendingMark.clock.pendingMark = none

/-- R35 and R39. -/
def Obligations.OpenDaysHoursAndCivilDates : Prop :=
  (∀ (t : Tables) (day : Nat), t.Sorted →
     let has := fun w h => ∃ e ∈ t.weekly, e.weekday = w ∧ e.hours = h
     let w := (day + 5) % 7
     (∀ e ∈ t.exceptions, e.day = day →
       (e.kind = .closed → t.dayHours day = none) ∧
       (∀ h, e.kind = .openWith (some h) → t.dayHours day = some h) ∧
       (e.kind = .openWith none →
         (∀ h, has w h → t.dayHours day = some h) ∧
         ((∀ h, ¬ has w h) → ∀ v h, has v h → (∀ v', v' < v → ∀ h', ¬ has v' h') → t.dayHours day = some h) ∧
         ((∀ v h, ¬ has v h) → t.dayHours day = some ⟨0, 1439⟩))) ∧
     ((∀ e ∈ t.exceptions, e.day ≠ day) →
       (∀ h, has w h → t.dayHours day = some h) ∧ ((∀ h, ¬ has w h) → t.dayHours day = none)) ∧
     (t.isOpenDay day = true ↔ t.dayHours day ≠ none)) ∧
  (∀ (d z era doe yoe year doy mp dayOfMonth month : Nat),
     z = d + 730425 → era = z / 146097 → doe = z - 146097 * era →
     yoe = (doe - doe / 1460 + doe / 36524 - doe / 146096) / 365 → year = yoe + 400 * era →
     doy = doe - (365 * yoe + yoe / 4 - yoe / 100) → mp = (5 * doy + 2) / 153 →
     dayOfMonth = doy - (153 * mp + 2) / 5 + 1 → month = (if mp < 10 then mp + 3 else mp - 9) →
     civilDate d = ⟨if month = 1 ∨ month = 2 then year + 1 else year, month, dayOfMonth⟩ ∧
     weekdayOf d = (d + 5) % 7)

/-- R37 and the two searches of R36. R38: the three steps count the days that R35 calls open. -/
def Obligations.DaySearchesAndOpenDaysBetween : Prop :=
  (∀ t : Tables,
     (∀ first last, first ≤ last → last ≤ first + 21 →
       let f := min first 65535
       let l := min last 65535
       (∀ d, t.forwardSearch first last = some d ↔
         f ≤ d ∧ d ≤ l ∧ t.isOpenDay d = true ∧ ∀ d', f ≤ d' → d' < d → t.isOpenDay d' = false) ∧
       (t.forwardSearch first last = none ↔ ∀ d, f ≤ d → d ≤ l → t.isOpenDay d = false)) ∧
     (∀ s, s ≤ 65535 →
       (∀ d, t.forwardSearch s (s + 21) = some d → t.closureSearch s = (d, false)) ∧
       (t.forwardSearch s (s + 21) = none → t.closureSearch s = (s, true)) ∧
       (t.isOpenDay s = true → t.closureSearch s = (s, false))) ∧
     ∀ top floor, floor ≤ top → top ≤ floor + 21 →
       (∀ d, t.backwardSearch top floor = some d ↔
         floor ≤ d ∧ d ≤ top ∧ t.isOpenDay d = true ∧ ∀ d', d < d' → d' ≤ top → t.isOpenDay d' = false) ∧
       (t.backwardSearch top floor = none ↔ ∀ d, floor ≤ d → d ≤ top → t.isOpenDay d = false) ∧
       ∀ q : DueQuestion, q.tables = t → q.capDay = top → max q.today (top - 21) = floor →
         t.backwardSearch top floor = none → q.cappedDay = top) ∧
  ∀ (t : Tables) (a b : Nat), t.Sorted → (∀ e ∈ t.weekly, e.weekday ≤ 6) →
    t.openDaysBetween a b = (List.range (b + 1)).countP (fun day => decide (a < day) && t.isOpenDay day) ∧
    t.openDaysBetween a b ≤ b - a

/-- One step of the sweep: the entry after the position is examined, and taken out when it has lapsed or expired; when none
follows, the phase changes or the sweep ends (where one step ends is the model's choice, log 15). A decision's read of an item whose
pickup-by day lies before today lapses its hold, with the deciding station in the record. -/
def Obligations.SweepSteps : Prop :=
  (∀ s : State, s.desk.power.on = true →
     let d := s.desk
     let sweeps := fun d' : Desk => exec .sweepStep s = .next (s.afterDesk d'.settleSweep)
     (d.sweep = none → exec .sweepStep s = .next (s.afterDesk d)) ∧
     (∀ day position e, d.sweep = some ⟨day, .items position⟩ → d.followingItem position = some e →
       let at_ : Desk := { d with sweep := some ⟨day, .items (some e.code)⟩ }
       (∀ hold pickup, e.status = .onHoldShelf hold pickup → pickup < day →
         sweeps (((at_.eraseItem e.code).changeBorrower hold Borrower.holdDown).append none .none
           (.holdLapsed hold e.code pickup))) ∧
       ((∀ hold pickup, e.status = .onHoldShelf hold pickup → day ≤ pickup) → sweeps at_)) ∧
     (∀ day position e, d.sweep = some ⟨day, .blocks position⟩ → d.followingBlock position = some e →
       let at_ : Desk := { d with sweep := some ⟨day, .blocks (some e.key)⟩ }
       (∀ x, e.expiryDay = some x → x < day →
         sweeps { at_ with tables := { d.tables with blocks := Table.erase BlockEntry.rank e.rank d.tables.blocks } }) ∧
       ((∀ x, e.expiryDay = some x → day ≤ x) → sweeps at_)) ∧
     (∀ day position, d.sweep = some ⟨day, .items position⟩ → d.followingItem position = none →
       exec .sweepStep s = exec .sweepStep { s with desk := { d with sweep := some ⟨day, .blocks none⟩ } }) ∧
     (∀ day position, d.sweep = some ⟨day, .blocks position⟩ → d.followingBlock position = none →
       exec .sweepStep s = .next (s.afterDesk { d with sweep := none }))) ∧
  (∀ d : Desk,
     let blocks := fun (day : Nat) (position : Option BlockKey) =>
       (d.followingBlock position ≠ none → d.settleSweep = { d with sweep := some ⟨day, .blocks position⟩ }) ∧
       (d.followingBlock position = none → d.settleSweep = { d with sweep := none })
     (d.sweep = none → d.settleSweep = d) ∧
     (∀ day position, d.sweep = some ⟨day, .items position⟩ →
       (d.followingItem position ≠ none → d.settleSweep = d) ∧ (d.followingItem position = none → blocks day none)) ∧
     ∀ day position, d.sweep = some ⟨day, .blocks position⟩ → blocks day position) ∧
  ∀ (d : Desk) (st : StationId) (item : Code),
    (∀ itemClass hold pickup, d.item item = some ⟨item, itemClass, .onHoldShelf hold pickup⟩ → pickup < d.clock.day →
      d.lapseAtRead st item = ((d.eraseItem item).changeBorrower hold fun b => { b with holdsReady := b.holdsReady - 1 }).append
        (some st) .none (.holdLapsed hold item pickup)) ∧
    ((∀ e hold pickup, d.item item = some e → e.status = .onHoldShelf hold pickup → d.clock.day ≤ pickup) →
      d.lapseAtRead st item = d)

/-! ## What the server reads, and the alarms -/

/-- A flag as R198 sends it. -/
def Sys2Proof.flagByte (b : Bool) : Byte := if b then 1 else 0

/-- A pending entry of STATION_STATUS (R198, R127): its source, four values, day and minute, FFFFh for no minute. -/
def Sys2Proof.Machine.Prompt.laidOut (p : Prompt) : List Byte :=
  let laid := fun (source first second third fourth day minute : Nat) =>
    [BitVec.ofNat 8 source] ++ bytesOf 2 first ++ bytesOf 2 second ++ bytesOf 2 third ++ bytesOf 2 fourth ++ bytesOf 2 day ++
      bytesOf 2 minute
  match p with
  | .borrowerBlocked reason => laid 1 reason 0 0 0 0 0xffff
  | .journalFull => laid 2 0 0 0 0 0 0xffff
  | .deskClosed => laid 3 0 0 0 0 0 0xffff
  | .loanRefused reason block => laid 4 reason.number (block.getD 0) 0 0 0 0xffff
  | .scanInvalid => laid 5 0 0 0 0 0 0xffff
  | .queueOverflow => laid 6 0 0 0 0 0 0xffff
  | .unknownBorrower => laid 7 0 0 0 0 0 0xffff
  | .holdFor short day => laid 8 (Code.value short) 0 0 0 day 0xffff
  | .refer reason => laid 9 reason 0 0 0 0 0xffff
  | .slipWaiting printer => laid 10 (if printer = .p0 then 0 else 1) 0 0 0 0 0xffff
  | .lookupWait => laid 11 0 0 0 0 0 0xffff
  | .lent due => laid 12 0 0 0 0 due.day (due.minute.getD 0xffff)
  | .returned fine => laid 13 fine 0 0 0 0 0xffff
  | .renewed due => laid 14 0 0 0 0 due.day (due.minute.getD 0xffff)
  | .sessionOpen short loans holds fines => laid 15 (Code.value short) loans holds fines 0 0xffff
  | .sessionEnd count => laid 16 count 0 0 0 0 0xffff

/-- STATUS_READ and STATION_STATUS report what stands, field by field, and set the counts they report to 0. The mark's time is the
one at which it would now be applied. Beyond 255 frames in the upload send list the byte of their number is a free value, which
the reading spends (the model's choice, log 26). -/
def Obligations.StatusReadsClearTheirCounts : Prop :=
  (∀ (s : State) (tag station : Byte), s.Dispatches →
    let d := s.desk.frameArrives
    let c := d.clock
    let j := d.journal
    let u := d.upload
    let one := fun n : Nat => BitVec.ofNat 8 n
    let due := match c.pendingMark with
      | some p => min (p.day * 86400 + p.minute * 60 + p.second + p.elapsed) 5662310399
      | none => 0
    let clock := bytesOf 2 c.day ++ bytesOf 2 c.minute ++
      [one c.second, if d.settings.timeSource = .marks then 1 else 2,
        match d.syncState with | .synced => 1 | .unsynced => 2 | .localTime => 3] ++
      bytesOf 4 c.markAge ++ [flagByte c.pendingMark.isSome] ++ bytesOf 2 (due / 86400) ++ bytesOf 2 (due % 86400 / 60) ++
      [one (due % 60)]
    let sweep := flagByte d.sweep.isSome :: bytesOf 2 (match d.sweep with | some w => w.day | none => 0)
    let printer := fun p => let x := d.slips.printers.get p
      [match x.status with | .ready => (1 : Byte) | .busy => 2 | .paperOut => 3 | .offline => 4, one x.queue.length,
        flagByte (x.status == .busy)]
    let mark := 16384 * d.settings.highWater / 100
    let journal := bytesOf 4 j.newest ++ bytesOf 4 j.released ++ bytesOf 2 j.held.length ++ bytesOf 2 (16384 - j.held.length) ++
      bytesOf 2 d.settings.returnReserve ++ [one d.settings.highWater] ++ bytesOf 2 mark ++
      [flagByte (mark ≤ j.held.length), flagByte (16384 - j.held.length ≤ d.settings.returnReserve)]
    let block := match u.block with | some b => (b.first, b.count) | none => (0, 0)
    let upload := [match u.state with | .idle => (1 : Byte) | .sending => 2 | .stalled => 3] ++ bytesOf 4 u.cut ++
      bytesOf 4 u.sent ++ [flagByte u.block.isSome] ++ bytesOf 4 block.1 ++
      [one block.2, flagByte u.takenTimer.isSome, flagByte u.waiting.isSome] ++
      bytesOf 2 (u.waiting.getD 0)
    let link := [if d.link = .offline then 2 else 1, one s.line.replies.length, one d.lookupList.length,
        if 255 < d.uploadList.length then Config.freeUploadFrames d.freeIndex else one d.uploadList.length,
        one d.notices.length] ++ bytesOf 2 s.line.badFrames ++ bytesOf 2 s.line.overruns
    exec (.statusRead tag) s =
      .next (({ s with line := { s.line with badFrames := 0, overruns := 0 } }).afterReply tag
        ⟨if 255 < d.uploadList.length then { d with freeIndex := d.freeIndex + 1 } else d, .ok,
          clock ++ sweep ++ printer .p0 ++ printer .p1 ++ journal ++ upload ++ link⟩) ∧
    (∀ st, StationId.ofNumber station.toNat = some st → exec (.stationStatus tag station) s =
      .next (s.afterReply tag ⟨d.onScan st fun x => { x with readErrors := 0 }, .ok, d.stationBytes st⟩)) ∧
    (StationId.ofNumber station.toNat = none → exec (.stationStatus tag station) s =
      .next (s.afterReply tag ⟨d, .badArg, []⟩))) ∧
  (∀ (d : Desk) (st : StationId), d.settings.precedence.Perm [.urgent, .refusal, .action, .info] →
    Table.Sorted Prompt.key (d.arbiters.get st).pending →
    let x := d.scan.get st
    let e := d.stations.get st
    let a := d.arbiters.get st
    let y := d.stationSettings.get st
    let one := fun n : Nat => BitVec.ofNat 8 n
    let bit := fun (b : Bool) (n : Nat) => if b then n else 0
    let card := match e.context with
      | .opened z => CodeField.ofCode z.borrower
      | .lookup r => CodeField.ofCode r.card
      | _ => BitVec.allOnes 64
    let items := match e.context with | .opened z => z.items | _ => []
    let provisional := match e.context with | .opened z => z.provisional | _ => false
    let armed := match e.context with | .opened z => z.arm.isSome | _ => false
    let kind := fun job : Option SlipJob => match job.map SlipJob.kind with
      | some .loan => (1 : Byte)
      | some (.hold _) => 2
      | none => 0
    let slip := d.slips.deferrals.find? fun job => job.station = st
    let place := if slip = none then 0 else (d.slips.deferrals.takeWhile fun job => job.station ≠ st).length + 1
    let copy := d.slips.lastSlips.get st
    let state : Byte := match e.context with | .idle => 1 | .opened _ => 2 | .lookup _ => 3 | .disabled => 4
    ∃ pending : List Prompt, pending.Perm a.pending ∧
      pending.Pairwise (fun p q => promptRank d.settings.precedence p < promptRank d.settings.precedence q) ∧
      d.stationBytes st =
        [state, match e.mode with | .loan => 1 | .ret => 2 | .renew => 3] ++ bytesOf 2 x.readErrors ++ [one x.queue.length] ++
        bytesOf 8 card.toNat ++ [flagByte provisional, one items.length,
          one (items.countP fun i => match i with | .lent _ _ _ _ => true | _ => false),
          one (items.countP fun i => match i with | .renewed _ _ => true | _ => false),
          one (items.countP fun i => match i with | .returned _ => true | _ => false), flagByte armed,
          match a.shown with | some source => one source.number | none => 0,
          one (bit y.masks.urgent 1 + bit y.masks.refusal 2 + bit y.masks.action 4 + bit y.masks.info 8),
          match a.lamp with | .off => 0 | .red => 1 | .amber => 2 | .green => 3, flagByte slip.isSome, kind slip,
          if slip.isSome ∧ y.printer = .p1 then 1 else 0, one place, flagByte copy.isSome, kind copy, one a.pending.length] ++
        pending.flatMap Prompt.laidOut) ∧
  (∀ p : Prompt, p.laidOut.length = 13 ∧ p.laidOut.head? = some (BitVec.ofNat 8 p.source.number)) ∧
  ∀ n v : Nat, bytesOf 0 v = [] ∧ bytesOf (n + 1) v = bytesOf n (v / 256) ++ [BitVec.ofNat 8 v]

/-- R192. Which of two things that come at once is first is the order of the queue. -/
def Obligations.AlarmReadAndClear : Prop :=
  ∀ (s : State) (tag alarm count : Byte), s.Dispatches →
    let d := s.desk.frameArrives
    let clears := fun x => exec (.alarmClear tag alarm count) s = .next (s.afterReply tag x)
    let shown := fun a => [if (d.alarms.get a).active then (1 : Byte) else 0, BitVec.ofNat 8 (d.alarms.get a).count,
      if (d.alarms.get a).holds then 1 else 0]
    exec (.alarmRead tag) s = .next (s.afterReply tag ⟨d, .ok,
      shown .journalHigh ++ shown .journalFull ++ shown .printer0Fault ++ shown .printer1Fault ++ shown .clockUnsynced ++
      shown .uploadStalled ++ shown .clockDispute ++ shown .tableFull ++ shown .linkOverrun ++ shown .powerRestored ++
      shown .coldStart⟩) ∧
    (alarm.toNat = 0 ∨ 11 < alarm.toNat → clears (d.answer .badArg)) ∧
    ∀ a, AlarmId.ofNumber alarm.toNat = some a →
      let x := d.alarms.get a
      (x.count ≠ count.toNat → clears (d.answer .stale)) ∧
      (x.count = count.toNat → a.isCondition = true → x.holds = true → clears (d.answer .stillActive)) ∧
      (x.count = count.toNat → (a.isCondition = false ∨ x.holds = false) →
        clears (({ d with alarms := d.alarms.set a { x with active := false } }).answer .ok))

/-- A raise of an alarm, the reports of a condition, and an occurrence of a notice. -/
def Obligations.AlarmsAndNotices : Prop :=
  (∀ (d : Desk) (a : AlarmId),
    let raised : AlarmState := { d.alarms.get a with active := true, count := ((d.alarms.get a).count + 1) % 256 }
    d.raiseAlarm a = ({ d with alarms := d.alarms.set a raised }).raiseNotice (.alarm a raised)) ∧
  (∀ (d : Desk) (a : AlarmId),
    let x := d.alarms.get a
    (x.holds = true → d.reportCondition a true = d) ∧
    (x.holds = false → d.reportCondition a false = d) ∧
    (x.holds = false →
      d.reportCondition a true = ({ d with alarms := d.alarms.set a { x with holds := true } }).raiseAlarm a) ∧
    (x.holds = true → d.reportCondition a false = { d with alarms := d.alarms.set a { x with holds := false } })) ∧
  ∀ (d : Desk) (b : NoticeBody), Table.Sorted Notice.key d.notices →
    let after := d.raiseNotice b
    { after with notices := d.notices } = d ∧ Table.Sorted Notice.key after.notices ∧
    (d.settings.routing.get b.kind = false → after.notices = d.notices) ∧
    (d.settings.routing.get b.kind = true →
      (∀ n ∈ d.notices, n.key = b.key → ⟨b, min (n.coalesced + 1) 255⟩ ∈ after.notices) ∧
      ((∀ n ∈ d.notices, n.key ≠ b.key) → ⟨b, 0⟩ ∈ after.notices) ∧
      ∀ n, n.key ≠ b.key → (n ∈ after.notices ↔ n ∈ d.notices))

/-! ## The journal and the upload -/

/-- An append: what is written, what is dropped, and what is raised. A release. The two conditions, evaluated after each, with
their reports to the alarm set and, for JOURNAL_FULL, to the arbiters. -/
def Obligations.JournalAppendsAndConditions : Prop :=
  ((∀ (d : Desk) (station : Option StationId) (flags : RecordFlags) (body : RecordBody),
     let reserved := body.kind = 1 ∨ body.kind = 3 ∨ body.kind = 4
     let free := 16384 - d.journal.held.length
     let record : JournalRecord :=
       { seq := if d.journal.newest < 4294967295 then d.journal.newest + 1 else d.journal.newest + 1 - 4294967295
         day := d.clock.day, minute := d.clock.minute, station := station, body := body
         flags := { flags with offline := d.link == .offline, unsynced := d.syncState == .unsynced } }
     let written : Desk := { d with journal := { d.journal with
       held := d.journal.held ++ [record], newest := record.seq } }
     (reserved → d.settings.returnReserve < free → d.append station flags body = written.evaluateJournal) ∧
     (reserved → free ≤ d.settings.returnReserve → d.append station flags body = d) ∧
     (¬ reserved → 0 < free → d.append station flags body = written.evaluateJournal) ∧
     (¬ reserved → free = 0 → d.append station flags body = d.raiseAlarm .journalFull)) ∧
   ∀ (d : Desk) (first count : Nat),
     let taken := first = seqForward d.journal.released 1 ∧ 1 ≤ count ∧ count ≤ d.journal.held.length
     (taken → d.release first count = ({ d with journal := { d.journal with
       held := d.journal.held.drop count, released := seqForward d.journal.released count } }).evaluateJournal) ∧
     (¬ taken → d.release first count = d)) ∧
  (∀ d : Desk,
     let held := d.journal.held.length
     let high := decide (16384 * d.settings.highWater / 100 ≤ held)
     let full := decide (16384 - held ≤ d.settings.returnReserve)
     let reported := (d.reportCondition .journalHigh high).reportCondition .journalFull full
     let stations := [StationId.st0, .st1, .st2, .st3]
     (d.alarms.journalFull.holds = full → d.evaluateJournal = reported) ∧
     (d.alarms.journalFull.holds = false → full = true → d.evaluateJournal =
       stations.foldl (fun d st => if (d.context st).serving then d.post st .journalFull else d) reported) ∧
     (d.alarms.journalFull.holds = true → full = false → d.evaluateJournal =
       stations.foldl (fun d st => if (d.arbiters.get st).has .journalFull then d.removePrompt st .journalFull else d)
         reported))

/-- UPLOAD_START, UPLOAD_RESUME, UPLOAD_ABORT and TAKEN_TIMEOUT. That a JOURNAL_BLOCK which still waits when the TAKEN timer
expires is withdrawn is the model's choice (log 25), and so is that the expiry of a stopped timer has no effect (log 4). -/
def Obligations.UploadCommands : Prop :=
  ∀ (s : State) (tag : Byte),
    (s.Dispatches →
      let d := s.desk.frameArrives
      let started : Desk := { d with upload := { d.upload with waiting := none, cut := d.journal.newest } }
      let ended := d.reportCondition .uploadStalled false
      let aborted : Desk := { ended with
        uploadList := d.uploadList.filter fun f => !f.isBlock
        upload := { d.upload with state := .idle, takenTimer := none, block := none, sent := d.journal.released } }
      (d.upload.state = .idle → d.journal.released = d.journal.newest →
        exec (.uploadStart tag) s = .next (s.afterReply tag (started.finishUpload.answer .ok))) ∧
      (d.upload.state = .idle → d.journal.released ≠ d.journal.newest →
        exec (.uploadStart tag) s = .next (s.afterReply tag (started.composeBlock.answer .ok))) ∧
      (d.upload.state ≠ .idle → exec (.uploadStart tag) s = .next (s.afterReply tag (d.answer .badState))) ∧
      (d.upload.state = .stalled →
        exec (.uploadResume tag) s = .next (s.afterReply tag (ended.composeBlock.answer .ok))) ∧
      (d.upload.state ≠ .stalled → exec (.uploadResume tag) s = .next (s.afterReply tag (d.answer .badState))) ∧
      (d.upload.state ≠ .idle →
        exec (.uploadAbort tag) s = .next (s.afterReply tag (aborted.tryWaitingUpload.answer .ok))) ∧
      (d.upload.state = .idle → exec (.uploadAbort tag) s = .next (s.afterReply tag (d.answer .badState)))) ∧
    (s.desk.power.on = true →
      (s.desk.upload.state = .sending → s.desk.upload.takenTimer ≠ none →
        exec .takenTimeout s = .next (s.afterDesk (({ s.desk with
          upload := { s.desk.upload with state := .stalled, takenTimer := none }
          uploadList := s.desk.uploadList.filter fun f => !f.isBlock }).reportCondition .uploadStalled true))) ∧
      ((s.desk.upload.state ≠ .sending ∨ s.desk.upload.takenTimer = none) →
        exec .takenTimeout s = .next (s.afterDesk s.desk)))

/-- UPLOAD_TAKEN: the block in flight is released, and the next block or the end of the upload follows. A block carries the first
records after released, at most 16 and none beyond the cut, as the journal holds them. An upload that ends hands over UPLOAD_END
with the cut and newest and is IDLE. An upload that starts fixes the cut, and ends at once or composes its first block; a waiting one
starts when the engine is IDLE, the desk CLOSED and the link ONLINE. -/
def Obligations.UploadTakenReleases : Prop :=
  (∀ (s : State) (tag : Byte) (first : Word) (count : Byte), s.Dispatches →
     let d := s.desk.frameArrives
     let answers := fun x => exec (.uploadTaken tag first count) s = .next (s.afterReply tag x)
     (d.upload.state = .idle → answers (d.answer .badState)) ∧
     (d.upload.state ≠ .idle → d.upload.block ≠ some ⟨first.toNat, count.toNat⟩ → answers (d.answer .badArg)) ∧
     (d.upload.state ≠ .idle → d.upload.block = some ⟨first.toNat, count.toNat⟩ →
       let ended := d.reportCondition .uploadStalled false
       let released := ({ ended with
         upload := { d.upload with takenTimer := none, block := none }
         uploadList := d.uploadList.filter fun f => !f.isBlock }).release first.toNat count.toNat
       (released.journal.released = d.upload.cut → answers (released.finishUpload.tryWaitingUpload.answer .ok)) ∧
       (released.journal.released ≠ d.upload.cut → answers (released.composeBlock.answer .ok)))) ∧
  (∀ d : Desk, d.journal.Coherent →
     seqDistance d.journal.released d.upload.cut ≤ d.journal.held.length → 0 < seqDistance d.journal.released d.upload.cut →
     let count := min 16 (seqDistance d.journal.released d.upload.cut)
     let first := seqForward d.journal.released 1
     d.composeBlock = { d with
       upload := { d.upload with
         state := .sending, sent := seqForward d.journal.released count, block := some ⟨first, count⟩ }
       uploadList := d.uploadList ++ [.block first count d.upload.cut (d.journal.held.take count)] }) ∧
  ∀ d : Desk,
    let started : Desk := { d with upload := { d.upload with waiting := none, cut := d.journal.newest } }
    let may := d.upload.waiting ≠ none ∧ d.upload.state = .idle ∧ d.mode = .closed ∧ d.link ≠ .offline
    d.finishUpload = { d with
      upload := { d.upload with state := .idle, sent := d.journal.released, block := none, takenTimer := none }
      uploadList := d.uploadList ++ [.finish d.upload.cut d.journal.newest] } ∧
    (d.journal.released = d.journal.newest → d.startUpload = started.finishUpload) ∧
    (d.journal.released ≠ d.journal.newest → d.startUpload = started.composeBlock) ∧
    (may → d.tryWaitingUpload = d.startUpload) ∧ (¬ may → d.tryWaitingUpload = d)

/-! ## The Desk Link -/

/-- The desk of a link reset that takes effect. -/
def Sys2Proof.Machine.Desk.linkRestarted (d : Desk) : Desk :=
  let restarted := { d with
    link := .offline, lookupList := [], uploadList := [], notices := [], sweep := none
    scan := .all { wand := .hunting, gapTimer := none, readErrors := 0, candidate := none, pairingTimer := none,
                   suppression := none, suppressionTimer := none, queue := [] }
    clock := { d.clock with pendingMark := none }
    arbiters := .all { pending := [], shown := none, lamp := .off, displayTimer := none, display := .sending .blank none,
                       tone := .quiet }
    mode := .closed, closingTimer := none
    stations := ⟨.restart d.stationSettings.st0.enabled, .restart d.stationSettings.st1.enabled,
      .restart d.stationSettings.st2.enabled, .restart d.stationSettings.st3.enabled⟩
    slips := { printers := ⟨.restart, .restart⟩, deferrals := [], lastSlips := d.slips.lastSlips }
    upload := { state := .idle, cut := d.journal.released, sent := d.journal.released, block := none, takenTimer := none,
                waiting := none } }
  ((((restarted.reportCondition .printer0Fault false).reportCondition .printer1Fault false).reportCondition .uploadStalled
    false).append none .none (.restart .link)).reportSync

/-- RESET is answered OK and from then on waits; LINK_RESET is its taking effect. A frame whose sending has begun is sent to its
end. LINK_RESET makes the link reset whether or not a RESET waits, which is the model's choice (log 22). -/
def Obligations.ResetTakesEffect : Prop :=
  ∀ (s : State) (tag : Byte),
    (s.Dispatches → exec (.reset tag) s = .next
      (({ s with line := { s.line with
          replies := s.line.replies ++ [Reply.mk tag .ok [] true], resetWaiting := true } }).afterDesk s.desk.frameArrives)) ∧
    (s.desk.power.on = true → exec .linkReset s = .next { s with
      desk := s.desk.linkRestarted
      line := { rate := s.line.rate, framer := .hunting, gapTimer := none, badFrames := 0, overruns := 0, replies := [],
                transmitting := s.line.transmitting, resetWaiting := false } })

/-- The tables by their numbers, each with the lengths of its entry and of its key (R198; a loan rule entry has the 14 bytes it is
headed with, log 24). -/
def Sys2Proof.Machine.tableLengths : List (Nat × Nat × Nat) :=
  [(1, 15, 1), (2, 7, 1), (3, 8, 2), (4, 16, 8), (5, 15, 10), (6, 34, 8), (7, 14, 2), (8, 7, 1)]

/-- The payloads that R198 gives a request of a kind: its length, and its table, operation, mode, setting or answer among those
listed. (A CONFIG_READ of any setting number is a request of its row, which answers an unknown number.) -/
def Sys2Proof.Machine.payloadFits (kind : Byte) (payload : List Byte) : Bool :=
  match kind.toNat, payload with
  | 0x01, table :: op :: entry => tableLengths.any fun x => x.1 == table.toNat &&
      ((op == 1 && entry.length == x.2.1) || (op == 2 && entry.length == x.2.2) || (op == 3 && entry.length == 0))
  | 0x02, table :: mode :: key => tableLengths.any fun x => x.1 == table.toNat &&
      (mode == 1 || mode == 2) && key.length == x.2.2
  | 0x03, setting :: rest => 1 ≤ setting.toNat && setting.toNat ≤ 26 && rest.length == 5
  | 0x04, _ => payload.length == 2
  | 0x05, _ => payload.length == 5
  | 0x06, _ => payload.length == 5
  | 0x07, _ => payload == [1] || payload == [2]
  | 0x08, _ => payload == []
  | 0x09, _ => payload.length == 1
  | 0x0a, _ => payload == []
  | 0x0b, _ => payload.length == 2
  | 0x0c, _ => payload.length == 2
  | 0x0d, _ => payload.length == 16 && (payload[8]? == some 1 || payload[8]? == some 2)
  | 0x0e, _ => payload == []
  | 0x0f, _ => payload.length == 5
  | 0x10, _ => payload == []
  | 0x11, _ => payload == []
  | 0x12, _ => payload == []
  | _, _ => false

/-- Every valid frame restarts the liveness timer, and brings an OFFLINE link ONLINE, when a waiting upload may start. One that
comes while a RESET waits is discarded, and one that finds eight replies waiting is discarded, counted and raises
LINK_OVERRUN. One whose kind is no request is answered BAD_KIND, and a request whose payload is none of those that R198 gives its
kind is answered BAD_ARG, with no further effect. The frames of the other requests are those of the request rows, as FrameIsItsRow
says. -/
def Obligations.FramesThatArrive : Prop :=
  (∀ d : Desk,
    let online : Desk := { d with link := .online d.settings.linkTimeout }
    (d.link ≠ .offline → d.frameArrives = online) ∧
    (d.link = .offline → d.upload.waiting ≠ none → d.upload.state = .idle → d.mode = .closed →
      d.frameArrives = online.startUpload) ∧
    (d.link = .offline → (d.upload.waiting = none ∨ d.upload.state ≠ .idle ∨ d.mode ≠ .closed) →
      d.frameArrives = online)) ∧
  (∀ (s : State) (kind tag : Byte) (payload : List Byte), s.desk.power.on = true →
    let taken := (s.takeFrame kind tag payload).transmit
    let d := s.desk.frameArrives
    (s.line.resetWaiting = true → taken = s.afterDesk d) ∧
    (s.line.resetWaiting = false → 8 ≤ s.line.replies.length → taken =
      ({ s with line := { s.line with overruns := min (s.line.overruns + 1) 65535 } }).afterDesk (d.raiseAlarm .linkOverrun)) ∧
    (s.Dispatches → (kind = 0 ∨ 0x12 < kind.toNat) → taken = s.afterReply tag ⟨d, .badKind, []⟩) ∧
    (s.Dispatches → 1 ≤ kind.toNat → kind.toNat ≤ 0x12 → payloadFits kind payload = false →
      taken = s.afterReply tag ⟨d, .badArg, []⟩)) ∧
  (∀ (s : State) (c : Instr) (index : Byte) (rest : List Byte), s.desk.power.on = true →
    ((requestFrame index rest c).isSome = true ∨ ∃ tag kind, c = .badKindFrame tag kind ∧ c.wellFormed = true) →
    (s.line.resetWaiting = true → exec c s = .next (s.afterDesk s.desk.frameArrives)) ∧
    (s.line.resetWaiting = false → 8 ≤ s.line.replies.length →
      exec c s = .next (({ s with line := { s.line with overruns := min (s.line.overruns + 1) 65535 } }).afterDesk
        (s.desk.frameArrives.raiseAlarm .linkOverrun)))) ∧
  ∀ (s : State) (tag kind : Byte), s.Dispatches → Instr.wellFormed (.badKindFrame tag kind) = true →
    exec (.badKindFrame tag kind) s = .next (s.afterReply tag (s.desk.frameArrives.answer .badKind))

/-- LINK_BYTE_RECEIVED by the framer's state and the byte, LINK_BAD_FRAME and RECEIVE_GAP_EXPIRY. LINK_BAD_FRAME takes the frame
as given (the model's choice, log 22), and in HUNTING, where the gap timer does not run, its expiry has no effect (the model's
choice, log 4). -/
def Obligations.ReceiveFramer : Prop :=
  ∀ s : State, s.desk.power.on = true →
    let idle : LinkLine := { s.line with framer := .hunting, gapTimer := none }
    let bad : LinkLine := { idle with badFrames := min (s.line.badFrames + 1) 65535 }
    let keeps := fun (x : Byte) (f : Framer) => exec (.linkByteReceived (some x)) s =
      .next (({ s with line := { s.line with framer := f, gapTimer := some 50 } }).afterDesk s.desk)
    let drops := fun b => exec (.linkByteReceived b) s = .next (({ s with line := idle }).afterDesk s.desk)
    exec .linkBadFrame s = .next (({ s with line := bad }).afterDesk s.desk) ∧
    (s.line.framer ≠ .hunting → exec .receiveGapExpiry s = .next (({ s with line := idle }).afterDesk s.desk)) ∧
    (s.line.framer = .hunting → exec .receiveGapExpiry s = .next (s.afterDesk s.desk)) ∧
    drops none ∧
    (s.line.framer = .hunting → keeps 0xa5 (.header []) ∧ ∀ x, x ≠ 0xa5 → drops (some x)) ∧
    (∀ kept, s.line.framer = .header kept → kept.length ≤ 2 → ∀ x, keeps x (.header (kept ++ [x]))) ∧
    (∀ kind tag high, s.line.framer = .header [kind, tag, high] → ∀ low : Byte,
      let n := 256 * high.toNat + low.toNat
      (1020 < n → drops (some low)) ∧
      (n = 0 → keeps low (.check kind tag [] none)) ∧
      (0 < n → n ≤ 1020 → keeps low (.payload kind tag n []))) ∧
    (∀ kind tag n kept, s.line.framer = .payload kind tag n kept → ∀ x,
      (kept.length + 1 < n → keeps x (.payload kind tag n (kept ++ [x]))) ∧
      (n ≤ kept.length + 1 → keeps x (.check kind tag (kept ++ [x]) none))) ∧
    (∀ kind tag body, s.line.framer = .check kind tag body none → ∀ x, keeps x (.check kind tag body (some x))) ∧
    ∀ kind tag body first, s.line.framer = .check kind tag body (some first) → ∀ x : Byte,
      let crc := (crc16 ([kind, tag] ++ bytesOf 2 body.length ++ body)).toNat
      (crc = 256 * first.toNat + x.toNat → exec (.linkByteReceived (some x)) s =
        .next (({ s with line := idle }).takeFrame kind tag body).transmit) ∧
      (crc ≠ 256 * first.toNat + x.toNat → exec (.linkByteReceived (some x)) s =
        .next (({ s with line := bad }).afterDesk s.desk))

/-- The liveness timer expires: the lists and the replies are discarded, every lookup ends as by timeout, a SENDING upload
stalls, and a RESET whose reply has not begun to be sent takes effect (how far the effects before it go is the model's choice,
logs 10 and 18, and so is that a waiting JOURNAL_BLOCK is withdrawn, log 25). While the link is OFFLINE the timer does not run and
its expiry has no effect (the model's choice, log 4). The sent frame leaves the line: a RESET's reply brings the reset, a block in flight starts the TAKEN timer. -/
def Obligations.LivenessExpiresAndFramesAreSent : Prop :=
  ∀ s : State, s.desk.power.on = true →
    let d := s.desk
    let looked := [StationId.st0, .st1, .st2, .st3].foldl (fun d st => match d.context st with
      | .lookup r => d.lookupTimesOut st r
      | _ => d) { d with link := .offline, lookupList := [], uploadList := [] }
    let drained := [StationId.st0, .st1, .st2, .st3].foldl Desk.drain looked.testClosing
    let lost := if drained.upload.state = .sending
      then ({ drained with
        upload := { drained.upload with state := .stalled, takenTimer := none }
        uploadList := drained.uploadList.filter fun f => !f.isBlock }).reportCondition .uploadStalled true
      else drained
    let after : State := { s with desk := lost, line := { s.line with replies := [] } }
    let sendsReset := ∃ r, s.line.transmitting = some (.reply r) ∧ r.resets = true
    let free : State := { s with line := { s.line with transmitting := none } }
    (d.link = .offline → exec .livenessExpiry s = .next (s.afterDesk d)) ∧
    (d.link ≠ .offline → (s.line.resetWaiting = false ∨ sendsReset) → exec .livenessExpiry s = .next after) ∧
    (d.link ≠ .offline → s.line.resetWaiting = true → ¬ sendsReset →
      exec .livenessExpiry s = exec .linkReset after) ∧
    (sendsReset → exec .frameSent s = exec .linkReset free) ∧
    (∀ first count cut records, s.line.transmitting = some (.upload (.block first count cut records)) →
      (d.upload.state = .sending → d.upload.block = some ⟨first, count⟩ → exec .frameSent s =
        .next (free.afterDesk { d with upload := { d.upload with takenTimer := some d.settings.takenTimeout } })) ∧
      ((d.upload.state ≠ .sending ∨ d.upload.block ≠ some ⟨first, count⟩) →
        exec .frameSent s = .next (free.afterDesk d))) ∧
    (¬ sendsReset → (∀ first count cut records, s.line.transmitting ≠ some (.upload (.block first count cut records))) →
      exec .frameSent s = .next (free.afterDesk d))

/-- The transmit arbiter: nothing while a frame is being sent or the link is OFFLINE; else the oldest reply, then the oldest
LOOKUP, then the first notice of the pending set's order, then the oldest upload frame. That it takes a frame at the end of a
command is the model's choice (log 7). -/
def Obligations.TransmitTakesInOrder : Prop :=
  ∀ s : State,
    let sends := fun (f : TxFrame) (d : Desk) (replies : List Reply) =>
      s.transmit = { s with desk := d, line := { s.line with transmitting := some f, replies := replies } }
    let d := s.desk
    ((s.line.transmitting ≠ none ∨ d.link = .offline) → s.transmit = s) ∧
    (s.line.transmitting = none → d.link ≠ .offline →
      (∀ r rest, s.line.replies = r :: rest → sends (.reply r) d rest) ∧
      (s.line.replies = [] →
        (∀ f rest, d.lookupList = f :: rest → sends (.lookup f) { d with lookupList := rest } []) ∧
        (d.lookupList = [] →
          (∀ n rest, d.notices = n :: rest → sends (.notice n) { d with notices := rest } []) ∧
          (d.notices = [] →
            (∀ f rest, d.uploadList = f :: rest → sends (.upload f) { d with uploadList := rest } []) ∧
            (d.uploadList = [] → s.transmit = s)))))

/-- What a framer makes of bytes, one after the other. -/
def Sys2Proof.Machine.Framer.takeAll : Framer → List Byte → Framer × List FrameEvent
  | f, [] => (f, [])
  | f, b :: bs =>
    let r := f.take (some b)
    let rest := r.1.takeAll bs
    (rest.1, r.2 :: rest.2)

/-- The framer reads every frame of a payload of at most 1,020 bytes back, at the last byte and not before. -/
def Obligations.FramerReadsEveryEnvelope : Prop :=
  ∀ (kind tag : Byte) (payload : List Byte), payload.length ≤ 1020 →
    Framer.hunting.takeAll (envelope kind tag payload) =
      (.hunting, List.replicate (payload.length + 6) .none ++ [.valid kind tag payload])

/-- The frame of every request row is taken as that row: no bit of an operand is dropped. The rows' frames are all of those whose
payload R198 gives their kind; what the other valid frames do, FramesThatArrive says. The last of the 14 bytes that R198 gives a
loan rule entry, which none of its fields fills, may be any byte (the model's choice, log 24), and so may be the 7 bytes after the
answer of a LOOKUP_REPLY that is not found (which bytes R198's 'last six fields' are: the model's choice, log 27). -/
def Obligations.FrameIsItsRow : Prop :=
  (∀ (c : Instr) (index : Byte) (rest : List Byte) (f : RequestFrame) (s : State), rest.length = 7 →
    requestFrame index rest c = some f →
    exec c s = .next (s.powered fun s => s.takeFrame f.kind f.tag f.payload) ∧ f.payload.length ≤ 1020) ∧
  ∀ (kind tag : Byte) (payload : List Byte), payloadFits kind payload = true ↔
    ∃ c index rest, rest.length = 7 ∧ requestFrame index rest c = some ⟨kind, tag, payload⟩

/-! ## Slip printing -/

/-- The lines of a loan slip and of a hold slip, as they stand and as they are sent, the copy that a slip's composition keeps, which its
hand-over leaves as it stands, and where a slip that is handed over goes: the first case that applies. What follows a change of the
queues and the printers, of deferred slips that are one for each station at most: while a printer's queue has room, its oldest
deferred slip takes the place and its SLIP_WAITING goes; with none to be placed, the jobs of AUTOMATIC stations move from a failed
printer, headed by such a job, to the other one while it has room; with none to be moved, each READY printer starts its head job. -/
def Obligations.SlipsComposedAndHandedOver : Prop :=
  (∀ (x : Session) (st : StationId),
     let line := fun (c : Code) (due : Due) =>
       LineRecord.item (c.drop (c.length - 8)) (some (civilDate due.day)) due.minute
     let lines := x.items.filterMap fun e => match e with
       | .lent c due _ _ => some (line c due)
       | .renewed c due => some (line c due)
       | .returned _ => none
     (lines = [] → x.loanSlip st = none) ∧
     (lines ≠ [] → x.loanSlip st = some
       { kind := .loan, reprint := false, station := st, borrower := x.borrower,
         lines := [.header, .borrower (x.borrower.drop (x.borrower.length - 4))] ++ lines ++
           [.total lines.length, .footer] })) ∧
  (∀ (st : StationId) (hold item : Code) (pickup : Nat), holdSlip st hold item pickup =
     { kind := .hold item, reprint := false, station := st, borrower := hold,
       lines := [.header, .hold (hold.drop (hold.length - 4)) (civilDate pickup),
         .item (item.drop (item.length - 8)) none none, .footer] }) ∧
  ((∀ (d : Desk) (j : SlipJob), (d.handOver j).slips.lastSlips = d.slips.lastSlips) ∧
   (∀ (d : Desk) (st : StationId) (x : Session) (next : Context), (d.endSession st x next).slips.lastSlips =
     match x.loanSlip st with
     | some j => if (d.stationSettings.get st).slipPrinting then d.slips.lastSlips.set st (some j) else d.slips.lastSlips
     | none => d.slips.lastSlips) ∧
   ∀ (d : Desk) (st : StationId) (e : ItemEntry) (hold : Code) (found : Bool) (loan : Option ReturnedLoan),
     (d.returnRouted st e hold found loan).slips.lastSlips =
       d.slips.lastSlips.set st (some (holdSlip st hold e.code (d.pickupDay hold).1))) ∧
  (∀ (d : Desk) (j : SlipJob),
     let p := (d.stationSettings.get j.station).printer
     let discarded := fun cause => d.append (some j.station) .none (.slipDiscarded j.borrower j.kind.item cause)
     let room := (d.slips.printers.get p).queue.length < 8
     let held := ∃ o ∈ d.slips.deferrals, o.station = j.station
     (held → d.handOver j = discarded .deferredHeld) ∧
     (¬ held → room →
       d.handOver j = (d.onPrinter p fun x => { x with queue := x.queue ++ [j] }).settleSlips) ∧
     (¬ held → ¬ room → (d.context j.station).isOpen = true → d.handOver j = discarded .queueFull) ∧
     (¬ held → ¬ room → (d.context j.station).isOpen = false → d.handOver j =
       ({ d with slips := { d.slips with deferrals := d.slips.deferrals ++ [j] } }).post j.station (.slipWaiting p))) ∧
  (∀ j : SlipJob, (j.reprint = false → j.sendLines = j.lines) ∧
     ∀ first rest, j.reprint = true → j.lines = first :: rest → j.sendLines = first :: .reprint :: rest) ∧
  ∀ d : Desk, (d.slips.deferrals.map SlipJob.station).Nodup →
    let queue := fun p => (d.slips.printers.get p).queue
    let assigned := fun j : SlipJob => (d.stationSettings.get j.station).printer
    let automatic := fun j : SlipJob => (d.stationSettings.get j.station).failover == .automatic
    let failed := fun p => (d.slips.printers.get p).status = .paperOut ∨ (d.slips.printers.get p).status = .offline
    let places := fun p => (∃ j ∈ d.slips.deferrals, assigned j = p) ∧ (queue p).length < 8
    let moves := fun p : PrinterId => failed p ∧ ¬ failed p.other ∧ (queue p.other).length < 8 ∧
      ∃ j rest, queue p = j :: rest ∧ automatic j = true
    let starts := fun x : Printer => match x.status, x.queue with
      | .ready, j :: _ => { x with status := .busy, position := 0, sending := j.sendLines.head?, lineTimer := none }
      | _, _ => x
    (∀ p before j after, d.slips.deferrals = before ++ j :: after → (∀ o ∈ before, assigned o ≠ p) → assigned j = p →
      (queue p).length < 8 → (p = .p1 → ¬ places .p0) →
      d.settleSlips = (((d.onSlips fun x => { x with deferrals := before ++ after }).onPrinter p fun x =>
        { x with queue := x.queue ++ [j] }).removePrompt j.station .slipWaiting).settleSlips) ∧
    (∀ p front back, ¬ places .p0 → ¬ places .p1 → moves p → queue p = front ++ back →
      (front.filter automatic).length ≤ 8 - (queue p.other).length →
      (back = [] ∨ (front.filter automatic).length = 8 - (queue p.other).length) →
      d.settleSlips = ((d.onPrinter p fun x => { x with queue := (front.filter fun j => !automatic j) ++ back }).onPrinter
        p.other fun x => { x with queue := x.queue ++ front.filter automatic }).settleSlips) ∧
    (¬ places .p0 → ¬ places .p1 → ¬ moves .p0 → ¬ moves .p1 →
      d.settleSlips = (d.onPrinter .p0 starts).onPrinter .p1 starts)

/-- The printers' rows, by the printer's status: a line has been sent, the three answers, and the line timeout. What follows a
change of the queues and the printers is `settleSlips`, which SlipsComposedAndHandedOver states. An answer while a line is being sent counts for that line (the model's
choice, log 17), and a line timer that does not run has no effect when it expires (the model's choice, log 4). -/
def Obligations.PrinterRows : Prop :=
  ∀ (s : State) (p : PrinterId) (c : Option Byte), s.desk.power.on = true →
    let d := s.desk
    let x := d.slips.printers.get p
    let alarm := if p = .p0 then AlarmId.printer0Fault else .printer1Fault
    let fails := fun status => ((d.onPrinter p fun x => { x.interrupt with status := status }).reportCondition alarm
      true).settleSlips
    let faulty := c ≠ some 0x52 ∧ c ≠ some 0x50
    (x.sending = none → exec (.printerLineSent p) s = .next (s.afterDesk d)) ∧
    (x.sending ≠ none → x.status = .busy → exec (.printerLineSent p) s = .next (s.afterDesk (d.onPrinter p fun x =>
      { x with sending := none, lineTimer := some (d.settings.lineTimeout.get p) }))) ∧
    (x.status = .ready → exec (.printerReadyAnswer p) s = .next (s.afterDesk d)) ∧
    (x.status = .paperOut ∨ x.status = .offline → exec (.printerReadyAnswer p) s = .next (s.afterDesk
      (((d.onPrinter p fun x => { x with status := .ready }).reportCondition alarm false).settleSlips))) ∧
    (∀ j rest, x.status = .busy → x.queue = j :: rest →
      (∀ line, j.sendLines[x.position + 1]? = some line → exec (.printerReadyAnswer p) s = .next (s.afterDesk
        ((d.onPrinter p fun x =>
          { x with position := x.position + 1, sending := some line, lineTimer := none }).settleSlips))) ∧
      (j.sendLines[x.position + 1]? = none → exec (.printerReadyAnswer p) s = .next (s.afterDesk
        ((d.onPrinter p fun x =>
          { x with status := .ready, queue := rest, position := 0, sending := none, lineTimer := none }).settleSlips)))) ∧
    exec (.printerPaperOutAnswer p) s = .next (s.afterDesk (fails .paperOut)) ∧
    (faulty → exec (.printerFaultAnswer p c) s = .next (s.afterDesk (fails .offline))) ∧
    (x.status = .busy → x.lineTimer ≠ none → exec (.lineTimeout p) s = .next (s.afterDesk (fails .offline))) ∧
    ((x.status ≠ .busy ∨ x.lineTimer = none) → exec (.lineTimeout p) s = .next (s.afterDesk d)) ∧
    (x.status ≠ .busy → x.interrupt = x) ∧
    ∀ j rest, x.status = .busy → x.queue = j :: rest →
      x.interrupt = { x with
        queue := { j with reprint := j.reprint || decide (0 < x.position) } :: rest
        position := 0, sending := none, lineTimer := none }

/-! ## Power -/

/-- The desk whose volatile state is lost: only the retained domain is as it was. -/
def Sys2Proof.Machine.Desk.retained (d : Desk) (power : Power) : Desk :=
  let clear : AlarmState := ⟨false, 0, false⟩
  { d with
    power := power
    sweep := none, mode := .closed, closingTimer := none, link := .offline, lookupList := [], uploadList := [], notices := []
    scan := .all { wand := .hunting, gapTimer := none, readErrors := 0, candidate := none, pairingTimer := none,
                   suppression := none, suppressionTimer := none, queue := [] }
    arbiters := .all { pending := [], shown := none, lamp := .off, displayTimer := none, display := .sending .blank none,
                       tone := .quiet }
    stations := ⟨.restart d.stationSettings.st0.enabled, .restart d.stationSettings.st1.enabled,
      .restart d.stationSettings.st2.enabled, .restart d.stationSettings.st3.enabled⟩
    slips := { printers := ⟨.restart, .restart⟩, deferrals := [], lastSlips := .all none }
    upload := { state := .idle, cut := d.journal.released, sent := d.journal.released, block := none, takenTimer := none,
                waiting := none }
    alarms := { journalHigh := clear, journalFull := clear, printer0Fault := clear, printer1Fault := clear,
                clockUnsynced := clear, uploadStalled := clear, clockDispute := clear, tableFull := clear,
                linkOverrun := clear, powerRestored := ⟨false, d.alarms.powerRestored.count, false⟩,
                coldStart := ⟨false, d.alarms.coldStart.count, false⟩ } }

/-- A line right after a restart. -/
def Sys2Proof.Machine.LinkLine.fresh (rate : LinkRate) : LinkLine :=
  { rate := rate, framer := .hunting, gapTimer := none, badFrames := 0, overruns := 0, replies := [], transmitting := none,
    resetWaiting := false }

/-- MAIN_POWER_FAIL leaves the retained domain and arms the latch, which BATTERY_GOOD_FALL trips while power is absent. That
volatile state stands at its restart values during an outage is the model's choice (log 5). A restart with the latch untripped
is a warm start and with it tripped a cold start, and COLD_START is one whatever the latch (log 6). A warm start raises
POWER_RESTORED, has the Journal report and append its RESTART record, applies a pending mark and reports the sync state (in the
order of log 19). A cold start is the state of reset. The straps choose the rate. -/
def Obligations.OutagesAndRestarts : Prop :=
  (∀ s : State,
     (s.desk.power.on = true → exec .mainPowerFail s =
       .next { s with desk := s.desk.retained ⟨false, false⟩, line := .fresh s.line.rate }) ∧
     (s.desk.power.on = true → exec .batteryGoodFall s = .next s) ∧
     (s.desk.power.on = false → exec .batteryGoodFall s =
       .next { s with desk := { s.desk with power := ⟨false, true⟩ } })) ∧
  ((∀ (s : State) (x : Straps),
     let cold : State := { s with
       desk := { Desk.reset with freeIndex := s.desk.freeIndex }, line := .fresh (LinkRate.ofStraps x) }
     let raised := (s.desk.retained ⟨true, false⟩).raiseAlarm .powerRestored
     exec (.coldStart x) s = .next cold ∧
     (s.desk.power.batteryFell = true → exec (.warmStart x) s = .next cold) ∧
     (s.desk.power.batteryFell = false → exec (.warmStart x) s = .next { s with
       desk := ((raised.evaluateJournal.append none .none (.restart .warm)).applyPendingMark).reportSync
       line := .fresh (LinkRate.ofStraps x) })) ∧
   LinkRate.ofStraps ⟨false, false, false⟩ = .r19200 ∧ LinkRate.ofStraps ⟨false, false, true⟩ = .r28800 ∧
   LinkRate.ofStraps ⟨false, true, false⟩ = .r38400 ∧ LinkRate.ofStraps ⟨false, true, true⟩ = .r57600 ∧
   LinkRate.ofStraps ⟨true, false, false⟩ = .r76800 ∧ LinkRate.ofStraps ⟨true, false, true⟩ = .r115200 ∧
   LinkRate.ofStraps ⟨true, true, false⟩ = .r230400 ∧ LinkRate.ofStraps ⟨true, true, true⟩ = .r460800)

/-! ## Settings -/

/-- A numeric setting's decision: the value within its range is stored, and a written value outside it is CLAMPED, with the
stored value in four bytes. -/
def Sys2Proof.Machine.clampedDecision (low high : Nat) (v : Word) (stored : Nat → Desk) : Decision :=
  if v.toNat < low then ⟨stored low, .clamped, bytesOf 4 low⟩
  else if high < v.toNat then ⟨stored high, .clamped, bytesOf 4 high⟩
  else ⟨stored v.toNat, .ok, []⟩

/-- The desk with a setting of its own changed. -/
def Sys2Proof.Machine.Desk.withSettings (d : Desk) (f : Settings → Settings) : Desk := { d with settings := f d.settings }

/-- CONFIG_WRITE of the settings with a numeric range. -/
def Obligations.NumericSettingsAreClamped : Prop :=
  ∀ (s : State) (tag index : Byte) (v : Word), s.Dispatches →
    let d := s.desk.frameArrives
    let answers := fun (c : Instr) (x : Decision) => exec c s = .next (s.afterReply tag x)
    let desk := fun (c : Instr) (low high : Nat) (f : Nat → Settings → Settings) (after : Desk → Desk) =>
      answers c (clampedDecision low high v fun n => after (d.withSettings (f n)))
    let unpaired := fun (st : StationId) (d : Desk) => d.onScan st fun x => { x with candidate := none, pairingTimer := none }
    desk (.configWriteStepLimit tag v) 0 1440 (fun n x => { x with stepLimit := n }) id ∧
    desk (.configWriteMarkAgeLimit tag v) 1 48 (fun n x => { x with markAgeLimit := n }) Desk.reportSync ∧
    desk (.configWriteLookupTimeout tag v) 2 30 (fun n x => { x with lookupTimeout := n }) id ∧
    desk (.configWriteClosingGrace tag v) 0 600 (fun n x => { x with closingGrace := n }) id ∧
    desk (.configWriteMinimumRemaining tag v) 0 120 (fun n x => { x with minimumRemaining := n }) id ∧
    desk (.configWriteDisplayTime tag v) 1 10 (fun n x => { x with displayTime := n }) id ∧
    desk (.configWriteReturnReserve tag v) 0 256 (fun n x => { x with returnReserve := n }) Desk.evaluateJournal ∧
    desk (.configWriteHighWaterPercentage tag v) 50 99 (fun n x => { x with highWater := n }) Desk.evaluateJournal ∧
    desk (.configWriteTakenTimeout tag v) 5 120 (fun n x => { x with takenTimeout := n }) id ∧
    desk (.configWriteLinkTimeout tag v) 10 600 (fun n x => { x with linkTimeout := n }) id ∧
    (v ≠ 0xffffffff → desk (.configWriteUploadMinute tag v) 0 1439 (fun n x => { x with uploadMinute := some n }) id) ∧
    (v = 0xffffffff → answers (.configWriteUploadMinute tag v)
      ((d.withSettings fun x => { x with uploadMinute := none }).answer .ok)) ∧
    (∀ p, PrinterId.ofNumber index.toNat = some p →
      desk (.configWriteLineTimeout tag index v) 1 10 (fun n x => { x with lineTimeout := x.lineTimeout.set p n }) id) ∧
    (2 ≤ index.toNat → answers (.configWriteLineTimeout tag index v) (d.answer .badArg)) ∧
    (∀ st, StationId.ofNumber index.toNat = some st →
      let station := fun (c : Instr) (low high : Nat) (f : Nat → StationSettings → StationSettings) (after : Desk → Desk) =>
        answers c (clampedDecision low high v fun n => after (d.onStationSettings st (f n)))
      station (.configWriteReadsRequired tag index v) 1 3 (fun n x => { x with readsRequired := n }) (unpaired st) ∧
      station (.configWritePairingWindow tag index v) 50 2000 (fun n x => { x with pairingWindow := n }) (unpaired st) ∧
      station (.configWriteSuppressionWindow tag index v) 0 10 (fun n x => { x with suppressionWindow := n }) id ∧
      station (.configWriteIdleTimeout tag index v) 15 600 (fun n x => { x with idleTimeout := n }) id ∧
      station (.configWritePadPulse tag index v) 50 1000 (fun n x => { x with padPulse := n }) id) ∧
    (4 ≤ index.toNat → ∀ c ∈ [Instr.configWriteReadsRequired tag index v, .configWritePairingWindow tag index v,
      .configWriteSuppressionWindow tag index v, .configWriteIdleTimeout tag index v, .configWritePadPulse tag index v],
      answers c (d.answer .badArg))

/-- CONFIG_WRITE of the settings whose values are named: BAD_ARG, with nothing changed, for a value that names none. A printer
assignment written with the value it has settles the slips and posts no SLIP_WAITING again, which is the model's reading
(log 21). -/
def Obligations.NamedSettingsAreChecked : Prop :=
  ∀ (s : State) (tag index : Byte) (v : Word), s.Dispatches →
    let d := s.desk.frameArrives
    let answers := fun (c : Instr) (x : Decision) => exec c s = .next (s.afterReply tag x)
    let refuses := fun c => answers c (d.answer .badArg)
    let ok := fun (c : Instr) (d : Desk) => answers c (d.answer .ok)
    let source := Instr.configWriteTimeSource tag v
    (v ≠ 1 → v ≠ 2 → refuses source) ∧
    (v = 1 → d.settings.timeSource = .marks → ok source d) ∧
    (v = 2 → d.settings.timeSource = .localTime → ok source d) ∧
    (v = 1 → d.settings.timeSource = .localTime →
      ok source (d.withSettings fun x => { x with timeSource := .marks }).reportSync) ∧
    (v = 2 → d.settings.timeSource = .marks →
      ok source ({ d.withSettings fun x => { x with timeSource := .localTime } with
        clock := { d.clock with pendingMark := none } }).reportSync) ∧
    (1 < v.toNat → refuses (.configWriteReturnsWhenClosed tag v)) ∧
    (v.toNat ≤ 1 → ok (.configWriteReturnsWhenClosed tag v)
      (d.withSettings fun x => { x with returnsWhenClosed := v.toNat == 1 })) ∧
    (∀ levels : List Level, levels.Perm [.urgent, .refusal, .action, .info] →
      v = BitVec.ofNat 32 (levels.foldl (fun n l => 256 * n + l.number) 0) →
      ok (.configWritePrecedenceList tag v) ([StationId.st0, .st1, .st2, .st3].foldl Desk.reselect
        (d.withSettings fun x => { x with precedence := levels }))) ∧
    ((∀ levels : List Level, levels.Perm [.urgent, .refusal, .action, .info] →
      v ≠ BitVec.ofNat 32 (levels.foldl (fun n l => 256 * n + l.number) 0)) →
      refuses (.configWritePrecedenceList tag v)) ∧
    (∀ k, NoticeKind.ofNumber index.toNat = some k →
      (1 < v.toNat → refuses (.configWriteNoticeRouting tag index v)) ∧
      (v = 1 → ok (.configWriteNoticeRouting tag index v)
        (d.withSettings fun x => { x with routing := x.routing.set k true })) ∧
      (v = 0 → ok (.configWriteNoticeRouting tag index v)
        { d.withSettings fun x => { x with routing := x.routing.set k false } with
          notices := d.notices.filter fun n => n.body.kind != k })) ∧
    (NoticeKind.ofNumber index.toNat = none → refuses (.configWriteNoticeRouting tag index v)) ∧
    (4 ≤ index.toNat → ∀ c ∈ [Instr.configWriteStationEnabled tag index v, .configWriteSlipPrinting tag index v,
      .configWriteLevelMasks tag index v, .configWritePrinterAssignment tag index v, .configWriteFailover tag index v],
      refuses c) ∧
    ∀ st, StationId.ofNumber index.toNat = some st →
      let set := fun f => d.onStationSettings st f
      (1 < v.toNat → refuses (.configWriteStationEnabled tag index v) ∧ refuses (.configWriteSlipPrinting tag index v) ∧
        refuses (.configWritePrinterAssignment tag index v)) ∧
      (v.toNat ≤ 1 →
        ok (.configWriteSlipPrinting tag index v) (set fun x => { x with slipPrinting := v.toNat == 1 }) ∧
        ((d.stationSettings.get st).enabled = (v.toNat == 1) → ok (.configWriteStationEnabled tag index v) d)) ∧
      (v = 1 → (d.stationSettings.get st).enabled = false → d.context st = .disabled →
        ok (.configWriteStationEnabled tag index v) ((set fun x => { x with enabled := true }).setContext st .idle)) ∧
      (v = 0 → (d.stationSettings.get st).enabled = true →
        let off := set fun x => { x with enabled := false }
        let left := match d.context st with
          | .opened x => off.endSession st x .disabled
          | .lookup _ => off.leaveLookup st .disabled
          | _ => off.setContext st .disabled
        ok (.configWriteStationEnabled tag index v) ((left.onScan st fun x =>
          { x with wand := .hunting, gapTimer := none, candidate := none, pairingTimer := none, queue := [] }).testClosing)) ∧
      (v.toNat < 16 → ok (.configWriteLevelMasks tag index v) ((set fun x => { x with
        masks := ⟨v.toNat % 2 == 1, v.toNat / 2 % 2 == 1, v.toNat / 4 % 2 == 1, v.toNat / 8 % 2 == 1⟩ }).reselect st)) ∧
      (16 ≤ v.toNat → refuses (.configWriteLevelMasks tag index v)) ∧
      (∀ p, PrinterId.ofNumber v.toNat = some p →
        let moved := (set fun x => { x with printer := p }).settleSlips
        ((d.stationSettings.get st).printer ≠ p → moved.deferredAt st ≠ none →
          ok (.configWritePrinterAssignment tag index v) (moved.post st (.slipWaiting p))) ∧
        ((d.stationSettings.get st).printer = p ∨ moved.deferredAt st = none →
          ok (.configWritePrinterAssignment tag index v) moved)) ∧
      (v = 1 → ok (.configWriteFailover tag index v) (set fun x => { x with failover := .automatic }).settleSlips) ∧
      (v = 2 → ok (.configWriteFailover tag index v) (set fun x => { x with failover := .manual }).settleSlips) ∧
      (v ≠ 1 → v ≠ 2 → refuses (.configWriteFailover tag index v))

/-- CONFIG_READ returns the stored value of the setting that its number and index name, in four bytes, and changes nothing. -/
def Obligations.SettingsAreRead : Prop :=
  ∀ (s : State) (tag index : Byte), s.Dispatches →
    let d := s.desk.frameArrives
    let x := d.settings
    let returns := fun (setting : Byte) (n : Nat) =>
      exec (.configRead tag setting index) s = .next (s.afterReply tag ⟨d, .ok, bytesOf 4 n⟩)
    let refuses := fun setting : Byte =>
      exec (.configRead tag setting index) s = .next (s.afterReply tag ⟨d, .badArg, []⟩)
    let bool := fun b : Bool => if b then 1 else 0
    returns 4 (if x.timeSource = .marks then 1 else 2) ∧ returns 5 x.stepLimit ∧ returns 6 x.markAgeLimit ∧
    returns 7 x.lookupTimeout ∧ returns 12 x.closingGrace ∧ returns 13 (bool x.returnsWhenClosed) ∧
    returns 14 x.minimumRemaining ∧ returns 15 (x.precedence.foldl (fun n l => 256 * n + l.number) 0) ∧
    returns 17 x.displayTime ∧ returns 21 x.returnReserve ∧ returns 22 x.highWater ∧
    returns 23 (match x.uploadMinute with | some m => m | none => 0xffffffff) ∧ returns 24 x.takenTimeout ∧
    returns 25 x.linkTimeout ∧
    (∀ p, PrinterId.ofNumber index.toNat = some p → returns 20 (x.lineTimeout.get p)) ∧
    (∀ k, NoticeKind.ofNumber index.toNat = some k → returns 26 (bool (x.routing.get k))) ∧
    (∀ st, StationId.ofNumber index.toNat = some st →
      let y := d.stationSettings.get st
      returns 1 y.readsRequired ∧ returns 2 y.pairingWindow ∧ returns 3 y.suppressionWindow ∧ returns 8 (bool y.enabled) ∧
      returns 9 y.idleTimeout ∧ returns 10 (bool y.slipPrinting) ∧ returns 11 y.padPulse ∧
      returns 16 (bool y.masks.urgent + 2 * bool y.masks.refusal + 4 * bool y.masks.action + 8 * bool y.masks.info) ∧
      returns 18 (if y.printer = .p0 then 0 else 1) ∧ returns 19 (if y.failover = .automatic then 1 else 2)) ∧
    (∀ setting : Byte, setting = 0 ∨ 26 < setting.toNat → refuses setting) ∧
    (PrinterId.ofNumber index.toNat = none → refuses 20) ∧ (NoticeKind.ofNumber index.toNat = none → refuses 26) ∧
    (StationId.ofNumber index.toNat = none → ∀ setting ∈ [(1 : Byte), 2, 3, 8, 9, 10, 11, 16, 18, 19], refuses setting)

/-! ## Tables -/

/-- TABLE_READ of the eight tables, by key and for the next entry after a key. A read changes nothing. What a read sends for an
absent expiry day and in the last byte of a loan rule entry is the model's choice (logs 14 and 24). -/
def Obligations.TableReadsReturnEntries : Prop :=
  ∀ (s : State) (tag a b : Byte) (day : Half) (code : CodeField) (key : BlockKeyWire), s.Dispatches →
    let d := s.desk.frameArrives
    let t := d.tables
    let replies := fun (c : Instr) (status : Status) (data : List Byte) =>
      exec c s = .next (s.afterReply tag ⟨d, status, data⟩)
    let returns := fun (c : Instr) (entry : Option (List Byte)) => match entry with
      | some bs => replies c .ok bs
      | none => replies c .notFound []
    let bad := fun c => replies c .badArg []
    (a.toNat ≤ 31 →
      returns (.tableReadPrefixKey tag a) ((Table.find PrefixEntry.key a.toNat t.prefixes).map fun e => e.wire.bytes) ∧
      returns (.tableReadPrefixNext tag a) ((Table.next PrefixEntry.key a.toNat t.prefixes).map fun e => e.wire.bytes)) ∧
    (31 < a.toNat → bad (.tableReadPrefixKey tag a) ∧ bad (.tableReadPrefixNext tag a)) ∧
    (a.toNat ≤ 6 →
      returns (.tableReadWeeklyHoursKey tag a) (some (weekdayWire a.toNat (t.weekdayHours a.toNat)).bytes) ∧
      returns (.tableReadWeeklyHoursNext tag a)
        (if a.toNat = 6 then none else some (weekdayWire (a.toNat + 1) (t.weekdayHours (a.toNat + 1))).bytes)) ∧
    (6 < a.toNat → bad (.tableReadWeeklyHoursKey tag a) ∧ bad (.tableReadWeeklyHoursNext tag a)) ∧
    returns (.tableReadExceptionKey tag day)
      ((Table.find ExceptionEntry.key day.toNat t.exceptions).map fun e => e.wire.bytes) ∧
    returns (.tableReadExceptionNext tag day)
      ((Table.next ExceptionEntry.key day.toNat t.exceptions).map fun e => e.wire.bytes) ∧
    (∀ c, CodeField.code code = some c →
      returns (.tableReadBorrowerKey tag code) ((Table.find Borrower.key (Code.rank c) t.borrowers).map fun e => e.wire.bytes) ∧
      returns (.tableReadBorrowerNext tag code)
        ((Table.next Borrower.key (Code.rank c) t.borrowers).map fun e => e.wire.bytes) ∧
      returns (.tableReadItemKey tag code) ((Table.find ItemEntry.key (Code.rank c) t.items).map fun e => e.wire.bytes) ∧
      returns (.tableReadItemNext tag code) ((Table.next ItemEntry.key (Code.rank c) t.items).map fun e => e.wire.bytes)) ∧
    (CodeField.code code = none → ∀ c ∈ [Instr.tableReadBorrowerKey tag code, .tableReadBorrowerNext tag code,
      .tableReadItemKey tag code, .tableReadItemNext tag code], bad c) ∧
    (∀ p, CodeField.digits 1 key.pattern = some p →
      let k : BlockKey := ⟨key.cardLength.toNat, key.k.toNat, p⟩
      let legal := 6 ≤ k.cardLength ∧ k.cardLength ≤ 16 ∧ k.k ≤ 8 ∧ k.k < k.cardLength ∧ p.length + k.k = k.cardLength
      (legal →
        returns (.tableReadBlockKey tag key) ((Table.find BlockEntry.rank k.rank t.blocks).map fun e => e.wire.bytes) ∧
        returns (.tableReadBlockNext tag key) ((Table.next BlockEntry.rank k.rank t.blocks).map fun e => e.wire.bytes)) ∧
      (¬ legal → bad (.tableReadBlockKey tag key) ∧ bad (.tableReadBlockNext tag key))) ∧
    (CodeField.digits 1 key.pattern = none → bad (.tableReadBlockKey tag key) ∧ bad (.tableReadBlockNext tag key)) ∧
    (a.toNat ≤ 15 → b.toNat ≤ 31 →
      returns (.tableReadLoanRuleKey tag a b) (some (ruleWire a.toNat b.toNat (d.rule a.toNat b.toNat)).bytes) ∧
      returns (.tableReadLoanRuleNext tag a b)
        (if b.toNat < 31 then some (ruleWire a.toNat (b.toNat + 1) (d.rule a.toNat (b.toNat + 1))).bytes
          else if a.toNat < 15 then some (ruleWire (a.toNat + 1) 0 (d.rule (a.toNat + 1) 0)).bytes else none)) ∧
    (15 < a.toNat ∨ 31 < b.toNat → bad (.tableReadLoanRuleKey tag a b) ∧ bad (.tableReadLoanRuleNext tag a b)) ∧
    (a.toNat ≤ 15 →
      returns (.tableReadCategoryKey tag a) (some (d.category a.toNat).wire.bytes) ∧
      returns (.tableReadCategoryNext tag a)
        (if a.toNat = 15 then none else some (d.category (a.toNat + 1)).wire.bytes)) ∧
    (15 < a.toNat → bad (.tableReadCategoryKey tag a) ∧ bad (.tableReadCategoryNext tag a))

/-- TABLE_WRITE with DELETE and CLEAR_ALL, of the eight tables. -/
def Obligations.TableDeletesAndClears : Prop :=
  ∀ (s : State) (tag a b : Byte) (day : Half) (code : CodeField) (key : BlockKeyWire), s.Dispatches →
    let d := s.desk.frameArrives
    let t := d.tables
    let ok := fun (c : Instr) (t : Tables) => exec c s = .next (s.afterReply tag ⟨{ d with tables := t }, .ok, []⟩)
    let refuses := fun (c : Instr) (status : Status) => exec c s = .next (s.afterReply tag ⟨d, status, []⟩)
    ok (.tableWritePrefixClearAll tag) { t with prefixes := [] } ∧
    ok (.tableWriteWeeklyHoursClearAll tag) { t with weekly := [] } ∧
    ok (.tableWriteExceptionClearAll tag) { t with exceptions := [] } ∧
    ok (.tableWriteBlockClearAll tag) { t with blocks := [] } ∧
    ok (.tableWriteLoanRuleClearAll tag) { t with rules := [] } ∧
    ok (.tableWriteCategoryClearAll tag) { t with categories := [] } ∧
    (d.mode = .closed → ok (.tableWriteBorrowerClearAll tag) { t with borrowers := [] } ∧
      ok (.tableWriteItemClearAll tag) { t with items := [] }) ∧
    (d.mode ≠ .closed → refuses (.tableWriteBorrowerClearAll tag) .badState ∧
      refuses (.tableWriteItemClearAll tag) .badState) ∧
    (31 < a.toNat → refuses (.tableWritePrefixDelete tag a) .badArg) ∧
    (a.toNat ≤ 31 → (∀ e ∈ t.prefixes, e.slot ≠ a.toNat) → refuses (.tableWritePrefixDelete tag a) .notFound) ∧
    (a.toNat ≤ 31 → (∃ e ∈ t.prefixes, e.slot = a.toNat) → ok (.tableWritePrefixDelete tag a)
      { t with prefixes := t.prefixes.filter fun e => e.slot != a.toNat }) ∧
    (6 < a.toNat → refuses (.tableWriteWeeklyHoursDelete tag a) .badArg) ∧
    (a.toNat ≤ 6 → ok (.tableWriteWeeklyHoursDelete tag a)
      { t with weekly := t.weekly.filter fun e => e.weekday != a.toNat }) ∧
    ((∀ e ∈ t.exceptions, e.day ≠ day.toNat) → refuses (.tableWriteExceptionDelete tag day) .notFound) ∧
    ((∃ e ∈ t.exceptions, e.day = day.toNat) → ok (.tableWriteExceptionDelete tag day)
      { t with exceptions := t.exceptions.filter fun e => e.day != day.toNat }) ∧
    (CodeField.code code = none → refuses (.tableWriteBorrowerDelete tag code) .badArg ∧
      refuses (.tableWriteItemDelete tag code) .badArg) ∧
    (∀ c, CodeField.code code = some c →
      (d.cardInUse c = true → refuses (.tableWriteBorrowerDelete tag code) .inUse) ∧
      (d.cardInUse c = false → (∀ e ∈ t.borrowers, e.card ≠ c) → refuses (.tableWriteBorrowerDelete tag code) .notFound) ∧
      (d.cardInUse c = false → (∃ e ∈ t.borrowers, e.card = c) → ok (.tableWriteBorrowerDelete tag code)
        { t with borrowers := t.borrowers.filter fun e => e.card != c }) ∧
      (d.itemListed c = true → refuses (.tableWriteItemDelete tag code) .inUse) ∧
      (d.itemListed c = false → (∀ e ∈ t.items, e.code ≠ c) → refuses (.tableWriteItemDelete tag code) .notFound) ∧
      (d.itemListed c = false → (∃ e ∈ t.items, e.code = c) → ok (.tableWriteItemDelete tag code)
        { t with items := t.items.filter fun e => e.code != c })) ∧
    (BlockKeyWire.key key = none → refuses (.tableWriteBlockDelete tag key) .badArg) ∧
    (∀ k, BlockKeyWire.key key = some k →
      (Table.find BlockEntry.rank k.rank t.blocks = none → refuses (.tableWriteBlockDelete tag key) .notFound) ∧
      (Table.find BlockEntry.rank k.rank t.blocks ≠ none → ok (.tableWriteBlockDelete tag key)
        { t with blocks := t.blocks.filter fun e => e.rank != k.rank })) ∧
    (15 < a.toNat ∨ 31 < b.toNat → refuses (.tableWriteLoanRuleDelete tag a b) .badArg) ∧
    (a.toNat ≤ 15 → b.toNat ≤ 31 → ok (.tableWriteLoanRuleDelete tag a b)
      { t with rules := t.rules.filter fun e => LoanRule.key e != a.toNat * 32 + b.toNat }) ∧
    (15 < a.toNat → refuses (.tableWriteCategoryDelete tag a) .badArg) ∧
    (a.toNat ≤ 15 → ok (.tableWriteCategoryDelete tag a)
      { t with categories := t.categories.filter fun e => e.category != a.toNat })

/-- TABLE_WRITE with PUT, of the eight tables: the entry that the wire form gives, or BAD_ARG where it gives none; which wire form
gives which entry, WireFormsAreEntries says. What a request
bit that no rule names must be is the model's choice (log 13), and so is that the expiry day of a block entry without expiry is
not judged (log 14). -/
def Obligations.TablePuts : Prop :=
  ∀ (s : State) (tag : Byte) (px : PrefixWire) (wk : WeeklyWire) (ex : ExceptionWire) (bo : BorrowerWire) (bl : BlockWire)
    (it : ItemWire) (ru : RuleWire) (ca : CategoryWire), s.Dispatches →
    let d := s.desk.frameArrives
    let t := d.tables
    let answers := fun (c : Instr) (d : Desk) (status : Status) => exec c s = .next (s.afterReply tag ⟨d, status, []⟩)
    let ok := fun (c : Instr) (t : Tables) => answers c { d with tables := t } .ok
    let refuses := fun (c : Instr) (status : Status) => answers c d status
    (PrefixWire.entry px = none → refuses (.tableWritePrefixPut tag px) .badArg) ∧
    (∀ e, PrefixWire.entry px = some e →
      let twin := ∃ o ∈ t.prefixes, o.slot ≠ e.slot ∧ o.lead = e.lead ∧ o.minLength = e.minLength ∧ o.maxLength = e.maxLength
      (twin → refuses (.tableWritePrefixPut tag px) .duplicate) ∧
      (¬ twin → ok (.tableWritePrefixPut tag px) { t with prefixes := Table.put PrefixEntry.key e t.prefixes })) ∧
    ((6 < wk.weekday.toNat ∨ WeeklyWire.hours wk = none) → refuses (.tableWriteWeeklyHoursPut tag wk) .badArg) ∧
    (wk.weekday.toNat ≤ 6 →
      (∀ h, WeeklyWire.hours wk = some (some h) → ok (.tableWriteWeeklyHoursPut tag wk)
        { t with weekly := Table.put WeekdayHours.key ⟨wk.weekday.toNat, h⟩ t.weekly }) ∧
      (WeeklyWire.hours wk = some none → ok (.tableWriteWeeklyHoursPut tag wk)
        { t with weekly := t.weekly.filter fun e => e.weekday != wk.weekday.toNat })) ∧
    (ExceptionWire.entry ex = none → refuses (.tableWriteExceptionPut tag ex) .badArg) ∧
    (∀ e, ExceptionWire.entry ex = some e →
      let room := (∃ o ∈ t.exceptions, o.day = e.day) ∨ t.exceptions.length < 96
      (room → ok (.tableWriteExceptionPut tag ex)
        { t with exceptions := Table.put ExceptionEntry.key e t.exceptions }) ∧
      (¬ room → refuses (.tableWriteExceptionPut tag ex) .full)) ∧
    (BorrowerWire.entry bo = none → refuses (.tableWriteBorrowerPut tag bo) .badArg) ∧
    (∀ e, BorrowerWire.entry bo = some e →
      let room := d.borrower e.card ≠ none ∨ t.borrowers.length < 65536
      (d.cardInUse e.card = true → refuses (.tableWriteBorrowerPut tag bo) .inUse) ∧
      (d.cardInUse e.card = false → ¬ room → refuses (.tableWriteBorrowerPut tag bo) .full) ∧
      (d.cardInUse e.card = false → room → ok (.tableWriteBorrowerPut tag bo)
        { t with borrowers := Table.put Borrower.key e t.borrowers })) ∧
    (BlockWire.entry bl = none → refuses (.tableWriteBlockPut tag bl) .badArg) ∧
    (∀ e, BlockWire.entry bl = some e →
      let room := Table.find BlockEntry.rank e.rank t.blocks ≠ none ∨ t.blocks.length < 1024
      let stored : Desk := { d with tables := { t with blocks := Table.put BlockEntry.rank e t.blocks } }
      (¬ room → refuses (.tableWriteBlockPut tag bl) .full) ∧
      (room → answers (.tableWriteBlockPut tag bl)
        ([StationId.st0, .st1, .st2, .st3].foldl (fun d st => match d.context st with
          | .opened x => if d.blockCheck x.borrower = some e then (match e.action with
              | .refuse => d.post st (.borrowerBlocked e.reason)
              | .refer => d.post st (.refer e.reason)
              | .watch => d.raiseNotice (.watchHit st x.borrower e.reason)) else d
          | _ => d) stored) .ok)) ∧
    (ItemWire.entry it = none → refuses (.tableWriteItemPut tag it) .badArg) ∧
    (∀ e, ItemWire.entry it = some e →
      let old := d.item e.code
      let room := old ≠ none ∨ t.items.length < 131072
      let stores := fun e => ok (.tableWriteItemPut tag it) { t with items := Table.put ItemEntry.key e t.items }
      (d.itemListed e.code = true → refuses (.tableWriteItemPut tag it) .inUse) ∧
      (d.itemListed e.code = false → ¬ room → refuses (.tableWriteItemPut tag it) .full) ∧
      (d.itemListed e.code = false → room →
        (∀ code cls holder due n other hold, old = some ⟨code, cls, .onLoan holder due n other⟩ →
          e.status = .holdPending hold →
          (hold = holder → refuses (.tableWriteItemPut tag it) .badArg) ∧
          (hold ≠ holder → stores ⟨code, cls, .onLoan holder due n (some hold)⟩)) ∧
        (∀ code cls other hold, old = some ⟨code, cls, .missing other⟩ → e.status = .holdPending hold →
          stores ⟨code, cls, .missing (some hold)⟩) ∧
        ((old = none ∨ (∀ hold, e.status ≠ .holdPending hold) ∨
            ∃ o, old = some o ∧ (∀ h x n y, o.status ≠ .onLoan h x n y) ∧ ∀ y, o.status ≠ .missing y) → stores e))) ∧
    (RuleWire.rule ru = none → refuses (.tableWriteLoanRulePut tag ru) .badArg) ∧
    (∀ r, RuleWire.rule ru = some (some r) → ok (.tableWriteLoanRulePut tag ru)
      { t with rules := Table.put LoanRule.key r t.rules }) ∧
    (RuleWire.rule ru = some none → ok (.tableWriteLoanRulePut tag ru)
      { t with rules := t.rules.filter fun e => LoanRule.key e != ru.category.toNat * 32 + ru.itemClass.toNat }) ∧
    (CategoryWire.entry ca = none → refuses (.tableWriteCategoryPut tag ca) .badArg) ∧
    ∀ e, CategoryWire.entry ca = some e →
      (e = ⟨e.category, 0, 0, 0, 0, 7⟩ → ok (.tableWriteCategoryPut tag ca)
        { t with categories := t.categories.filter fun o => o.category != e.category }) ∧
      (e ≠ ⟨e.category, 0, 0, 0, 0, 7⟩ → ok (.tableWriteCategoryPut tag ca)
        { t with categories := Table.put CategoryEntry.key e t.categories })

/-! ## Table entries as they travel -/

/-- The digits of a code field: place i counts from the right, and the unused leading places are Fh (R198). -/
def Sys2Proof.CodeField.Holds (f : CodeField) (ds : List Digit) : Prop :=
  ds.length ≤ 16 ∧ ∀ i, i < 16 → f.toNat / 16 ^ i % 16 = match ds.reverse[i]? with
    | some d => d.val
    | none => 15

/-- R198's prefix entry. -/
def Sys2Proof.PrefixWire.LaysOut (w : PrefixWire) (e : PrefixEntry) : Prop :=
  w.slot.toNat = e.slot ∧ w.lead.Holds e.lead ∧ w.minLength.toNat = e.minLength ∧ w.maxLength.toNat = e.maxLength ∧
  w.check = (match e.check with | .none => 1 | .weighted10 => 2) ∧
  match e.cls with
  | .borrower category => w.cls = 1 ∧ w.hasDefault = 1 ∧ w.default.toNat = category
  | .item itemClass => w.cls = 2 ∧ w.hasDefault = 1 ∧ w.default.toNat = itemClass
  | .command => w.cls = 3 ∧ w.hasDefault = 0 ∧ w.default = 0
  | .ignore => w.cls = 4 ∧ w.hasDefault = 0 ∧ w.default = 0

/-- The prefix entries of section 1.4, with the two rules of R10 on defaults and commands. -/
def Sys2Proof.Machine.PrefixEntry.Legal (e : PrefixEntry) : Prop :=
  e.slot ≤ 31 ∧ 1 ≤ e.lead.length ∧ e.lead.length ≤ 6 ∧ 6 ≤ e.minLength ∧ e.minLength ≤ e.maxLength ∧ e.maxLength ≤ 16 ∧
  match e.cls with
  | .borrower category => category ≤ 15
  | .item itemClass => itemClass ≤ 31
  | .command => e.check = .none
  | .ignore => True

/-- O and C with 0 ≤ O < C ≤ 1,439. -/
def Sys2Proof.Machine.Hours.Legal (h : Hours) : Prop := h.opening < h.closing ∧ h.closing ≤ 1439

/-- R198's weekly hours entry; no hours is the closed marker. -/
def Sys2Proof.WeeklyWire.LaysOut (w : WeeklyWire) (weekday : Nat) (hours : Option Hours) : Prop :=
  w.weekday.toNat = weekday ∧
  match hours with
  | some h => w.closed = 0 ∧ w.hasHours = 1 ∧ w.opening.toNat = h.opening ∧ w.closing.toNat = h.closing
  | none => w.closed = 1 ∧ w.hasHours = 0 ∧ w.opening = 0 ∧ w.closing = 0

/-- R198's exception entry. -/
def Sys2Proof.ExceptionWire.LaysOut (w : ExceptionWire) (e : ExceptionEntry) : Prop :=
  w.day.toNat = e.day ∧
  match e.kind with
  | .closed => w.closed = 1 ∧ w.hasHours = 0 ∧ w.opening = 0 ∧ w.closing = 0
  | .openWith none => w.closed = 0 ∧ w.hasHours = 0 ∧ w.opening = 0 ∧ w.closing = 0
  | .openWith (some h) => w.closed = 0 ∧ w.hasHours = 1 ∧ w.opening.toNat = h.opening ∧ w.closing.toNat = h.closing

/-- R198's borrower entry; bit 0 of the flags is the provisional flag. -/
def Sys2Proof.BorrowerWire.LaysOut (w : BorrowerWire) (b : Borrower) : Prop :=
  w.card.Holds b.card ∧ w.category.toNat = b.category ∧ w.loansHeld.toNat = b.loansHeld ∧ w.holdsReady.toNat = b.holdsReady ∧
  w.flags = (if b.provisional then 1 else 0) ∧ w.finesOwed.toNat = b.finesOwed ∧ w.expiryDay.toNat = b.expiryDay

/-- The ranges of a borrower entry (3.1). -/
def Sys2Proof.Machine.Borrower.Legal (b : Borrower) : Prop :=
  6 ≤ b.card.length ∧ b.card.length ≤ 16 ∧ b.category ≤ 15 ∧ b.loansHeld ≤ 99 ∧ b.holdsReady ≤ 15 ∧ b.finesOwed ≤ 65535 ∧
  b.expiryDay ≤ 65535

/-- R198's head of a block entry. -/
def Sys2Proof.BlockKeyWire.LaysOut (w : BlockKeyWire) (k : BlockKey) : Prop :=
  w.pattern.Holds k.pattern ∧ w.k.toNat = k.k ∧ w.cardLength.toNat = k.cardLength

/-- The keys that keep the first three cases of R54. -/
def Sys2Proof.Machine.BlockKey.Legal (b : BlockKey) : Prop :=
  6 ≤ b.cardLength ∧ b.cardLength ≤ 16 ∧ b.k ≤ 8 ∧ b.k < b.cardLength ∧ b.pattern.length + b.k = b.cardLength

/-- R198's block entry. The day's two bytes without an expiry day may hold anything (log 14). -/
def Sys2Proof.BlockWire.LaysOut (w : BlockWire) (e : BlockEntry) : Prop :=
  w.key.LaysOut e.key ∧ w.action = (match e.action with | .refuse => 1 | .refer => 2 | .watch => 3) ∧
  w.reason.toNat = e.reason ∧
  match e.expiryDay with
  | some day => w.hasExpiry = 1 ∧ w.expiryDay.toNat = day
  | none => w.hasExpiry = 0

/-- A number of an item entry that may be absent: its presence bit set and the number, or clear and 0. -/
def Sys2Proof.laysOptional (bit : Bool) (field : Nat) (value : Option Nat) : Prop :=
  match value with
  | some n => bit = true ∧ field = n
  | none => bit = false ∧ field = 0

/-- A code of an item entry that may be absent: its presence bit set and the code, or clear and sixteen Fh places. -/
def Sys2Proof.laysOptionalCode (bit : Bool) (field : CodeField) (value : Option Code) : Prop :=
  match value with
  | some c => bit = true ∧ field.Holds c
  | none => bit = false ∧ field = BitVec.allOnes 64

/-- The presence bit i of an item entry. -/
def Sys2Proof.ItemWire.bit (w : ItemWire) (i : Nat) : Bool := w.presence.toNat / 2 ^ i % 2 == 1

/-- R198's item entry, with the fields that R61 gives each status. -/
def Sys2Proof.ItemWire.LaysOut (w : ItemWire) (e : ItemEntry) : Prop :=
  w.code.Holds e.code ∧ w.presence.toNat < 32 ∧ laysOptional (w.bit 0) w.itemClass.toNat e.itemClass ∧
  let lays := fun (status used : Nat) (loan : Option (Code × Due)) (hold : Option Code) (pickup : Option Nat) =>
    w.status.toNat = status ∧ w.renewalsUsed.toNat = used ∧
    laysOptionalCode (w.bit 1) w.holder (loan.map Prod.fst) ∧
    laysOptional (w.bit 1) w.dueDay.toNat (loan.map fun x => x.2.day) ∧
    laysOptional (w.bit 2) w.dueMinute.toNat (loan.bind fun x => x.2.minute) ∧
    laysOptionalCode (w.bit 3) w.holdBorrower hold ∧ laysOptional (w.bit 4) w.pickupDay.toNat pickup
  match e.status with
  | .onLoan holder due used hold => lays 1 used (some (holder, due)) hold none
  | .holdPending hold => lays 2 0 none (some hold) none
  | .onHoldShelf hold day => lays 3 0 none (some hold) (some day)
  | .reference => lays 4 0 none none none
  | .missing hold => lays 5 0 none hold none
  | .withdrawn => lays 6 0 none none none

/-- A code or a card: 6 to 16 digits. -/
def Sys2Proof.Machine.legalCode (c : Code) : Prop := 6 ≤ c.length ∧ c.length ≤ 16

/-- The ranges of an item entry (4.1), with the one rule of R61 that its fields do not keep of themselves: a hold borrower on an
ON_LOAN entry is not the holder. -/
def Sys2Proof.Machine.ItemEntry.Legal (e : ItemEntry) : Prop :=
  legalCode e.code ∧ (∀ n, e.itemClass = some n → n ≤ 31) ∧
  match e.status with
  | .onLoan holder due used hold => legalCode holder ∧ due.day ≤ 65535 ∧ (∀ m, due.minute = some m → m ≤ 1439) ∧ used ≤ 9 ∧
      ∀ h, hold = some h → legalCode h ∧ h ≠ holder
  | .holdPending hold => legalCode hold
  | .onHoldShelf hold day => legalCode hold ∧ day ≤ 65535
  | .missing hold => ∀ h, hold = some h → legalCode h
  | _ => True

/-- R198's loan rule entry: a rule, or a rule of kind NONE without fields. -/
def Sys2Proof.RuleWire.LaysOut (w : RuleWire) (category itemClass : Nat) (rule : Option LoanRule) : Prop :=
  w.category.toNat = category ∧ w.itemClass.toNat = itemClass ∧
  match rule with
  | some r => w.kind = (match r.kind with | .days => 1 | .hours => 2) ∧ w.presence = 0x3f ∧ w.period.toNat = r.period ∧
      w.classLimit.toNat = r.classLimit ∧ w.renewalsAllowed.toNat = r.renewalsAllowed ∧ w.grace.toNat = r.grace ∧
      w.fineRate.toNat = r.fineRate ∧ w.fineCap.toNat = r.fineCap
  | none => w.kind = 0 ∧ w.presence = 0 ∧ w.period = 0 ∧ w.classLimit = 0 ∧ w.renewalsAllowed = 0 ∧ w.grace = 0 ∧
      w.fineRate = 0 ∧ w.fineCap = 0

/-- The ranges of a rule of kind DAYS or HOURS (4.2). -/
def Sys2Proof.Machine.LoanRule.Legal (r : LoanRule) : Prop :=
  1 ≤ r.period ∧ r.period ≤ (match r.kind with | .days => 365 | .hours => 72) ∧ r.classLimit ≤ 24 ∧ r.renewalsAllowed ≤ 9 ∧
  r.grace ≤ 30 ∧ r.fineRate ≤ 999 ∧ r.fineCap ≤ 65535

/-- R198's category entry. -/
def Sys2Proof.CategoryWire.LaysOut (w : CategoryWire) (e : CategoryEntry) : Prop :=
  w.category.toNat = e.category ∧ w.maxLoans.toNat = e.maxLoans ∧ w.finesLimit.toNat = e.finesLimit ∧
  w.expiryGrace.toNat = e.expiryGrace ∧ w.offlineCap.toNat = e.offlineCap ∧ w.shelfDays.toNat = e.shelfDays

/-- The ranges of a category entry (4.3). -/
def Sys2Proof.Machine.CategoryEntry.Legal (e : CategoryEntry) : Prop :=
  e.category ≤ 15 ∧ e.maxLoans ≤ 99 ∧ e.finesLimit ≤ 65535 ∧ e.expiryGrace ≤ 60 ∧ e.offlineCap ≤ 24 ∧ 1 ≤ e.shelfDays ∧
  e.shelfDays ≤ 30

/-- Code fields; and for each table, which entry a wire form is, which wire forms are none and so are refused with BAD_ARG, and that
the wire form of an entry within its ranges lays that entry out, so that it is that entry again. What a request declares absent
must be laid out as absent, and bits that no layout names must be 0 (the model's choice, log 13); the expiry day of a block entry
without expiry is not judged, and sent as 0 (the model's choice, log 14). -/
def Obligations.WireFormsAreEntries : Prop :=
  ((∀ (least : Nat) (f : CodeField) (ds : List Digit),
     CodeField.digits least f = some ds ↔ least ≤ ds.length ∧ f.Holds ds) ∧
   (∀ f, CodeField.code f = CodeField.digits 6 f) ∧
   (∀ ds : List Digit, ds.length ≤ 16 → (CodeField.ofCode ds).Holds ds)) ∧
  ((∀ w e, PrefixWire.entry w = some e ↔ w.LaysOut e ∧ e.Legal) ∧
   (∀ e : PrefixEntry, e.Legal → e.wire.LaysOut e) ∧
   (∀ w, PrefixWire.entry w = none ↔
     31 < w.slot.toNat ∨ (∀ ds, CodeField.digits 1 w.lead = some ds → 6 < ds.length) ∨
     w.minLength.toNat < 6 ∨ 16 < w.minLength.toNat ∨ w.maxLength.toNat < 6 ∨ 16 < w.maxLength.toNat ∨
     w.maxLength.toNat < w.minLength.toNat ∨ w.cls = 0 ∨ 4 < w.cls.toNat ∨ (w.check ≠ 1 ∧ w.check ≠ 2) ∨
     (w.cls = 1 ∧ (w.hasDefault ≠ 1 ∨ 15 < w.default.toNat)) ∨ (w.cls = 2 ∧ (w.hasDefault ≠ 1 ∨ 31 < w.default.toNat)) ∨
     ((w.cls = 3 ∨ w.cls = 4) ∧ (w.hasDefault ≠ 0 ∨ w.default ≠ 0)) ∨ (w.cls = 3 ∧ w.check = 2))) ∧
  ((∀ w hours, WeeklyWire.hours w = some hours ↔ w.LaysOut w.weekday.toNat hours ∧ ∀ h, hours = some h → h.Legal) ∧
   (∀ weekday hours, weekday ≤ 6 → (∀ h, hours = some h → h.Legal) → (weekdayWire weekday hours).LaysOut weekday hours) ∧
   (∀ w, WeeklyWire.hours w = none ↔
     1 < w.closed.toNat ∨ 1 < w.hasHours.toNat ∨ w.closed = w.hasHours ∨
     (w.hasHours = 0 ∧ (w.opening ≠ 0 ∨ w.closing ≠ 0)) ∨
     (w.hasHours = 1 ∧ (w.closing.toNat ≤ w.opening.toNat ∨ 1439 < w.closing.toNat)))) ∧
  ((∀ w e, ExceptionWire.entry w = some e ↔ w.LaysOut e ∧ ∀ h, e.kind = .openWith (some h) → h.Legal) ∧
   (∀ e : ExceptionEntry, e.day ≤ 65535 → (∀ h, e.kind = .openWith (some h) → h.Legal) → e.wire.LaysOut e) ∧
   (∀ w, ExceptionWire.entry w = none ↔
     1 < w.closed.toNat ∨ 1 < w.hasHours.toNat ∨ (w.closed = 1 ∧ w.hasHours = 1) ∨
     (w.hasHours = 0 ∧ (w.opening ≠ 0 ∨ w.closing ≠ 0)) ∨
     (w.hasHours = 1 ∧ (w.closing.toNat ≤ w.opening.toNat ∨ 1439 < w.closing.toNat)))) ∧
  ((∀ w b, BorrowerWire.entry w = some b ↔ w.LaysOut b ∧ b.Legal ∧ b.provisional = false) ∧
   (∀ b : Borrower, b.Legal → b.wire.LaysOut b) ∧
   (∀ w, BorrowerWire.entry w = none ↔
     CodeField.code w.card = none ∨ 15 < w.category.toNat ∨ 99 < w.loansHeld.toNat ∨ 15 < w.holdsReady.toNat ∨ w.flags ≠ 0) ∧
   (∀ card category loansHeld holdsReady finesOwed expiryDay,
     borrowerOf card category loansHeld holdsReady finesOwed expiryDay =
       BorrowerWire.entry ⟨card, category, loansHeld, holdsReady, 0, finesOwed, expiryDay⟩)) ∧
  ((∀ w k, BlockKeyWire.key w = some k ↔ w.LaysOut k ∧ k.Legal) ∧
   (∀ w, BlockKeyWire.key w = none ↔
     w.cardLength.toNat < 6 ∨ 16 < w.cardLength.toNat ∨ 8 < w.k.toNat ∨ w.cardLength.toNat ≤ w.k.toNat ∨
     ∀ ds, CodeField.digits 1 w.pattern = some ds → ds.length + w.k.toNat ≠ w.cardLength.toNat) ∧
   (∀ w e, BlockWire.entry w = some e ↔ w.LaysOut e ∧ e.key.Legal ∧ e.reason ≤ 63) ∧
   (∀ e : BlockEntry, e.key.Legal → e.reason ≤ 63 → (∀ day, e.expiryDay = some day → day ≤ 65535) →
     e.wire.LaysOut e ∧ (e.expiryDay = none → e.wire.expiryDay = 0)) ∧
   (∀ w, BlockWire.entry w = none ↔
     BlockKeyWire.key w.key = none ∨ w.action = 0 ∨ 3 < w.action.toNat ∨ 63 < w.reason.toNat ∨ 1 < w.hasExpiry.toNat)) ∧
  ((∀ w e, ItemWire.entry w = some e ↔ w.LaysOut e ∧ e.Legal) ∧
   (∀ e : ItemEntry, e.Legal → e.wire.LaysOut e) ∧
   (∀ w : ItemWire, ItemWire.entry w = none ↔
     CodeField.code w.code = none ∨ 31 < w.presence.toNat ∨ w.status = 0 ∨ 6 < w.status.toNat ∨ 9 < w.renewalsUsed.toNat ∨
     (if w.bit 0 then 31 < w.itemClass.toNat else w.itemClass ≠ 0) ∨
     (if w.bit 1 then CodeField.code w.holder = none else w.holder ≠ BitVec.allOnes 64 ∨ w.dueDay ≠ 0) ∨
     (if w.bit 2 then 1439 < w.dueMinute.toNat else w.dueMinute ≠ 0) ∨
     (if w.bit 3 then CodeField.code w.holdBorrower = none else w.holdBorrower ≠ BitVec.allOnes 64) ∨
     (w.bit 4 = false ∧ w.pickupDay ≠ 0) ∨
     ¬ (w.bit 1 = true ↔ w.status = 1) ∨ ¬ (w.bit 4 = true ↔ w.status = 3) ∨ (w.status ≠ 1 ∧ w.bit 2 = true) ∨
     (w.status ≠ 1 ∧ w.renewalsUsed ≠ 0) ∨ ((w.status = 2 ∨ w.status = 3) ∧ w.bit 3 = false) ∨
     ((w.status = 4 ∨ w.status = 6) ∧ w.bit 3 = true) ∨ (w.status = 1 ∧ w.bit 3 = true ∧ w.holdBorrower = w.holder))) ∧
  ((∀ w rule, RuleWire.rule w = some rule ↔ w.LaysOut w.category.toNat w.itemClass.toNat rule ∧ w.category.toNat ≤ 15 ∧
     w.itemClass.toNat ≤ 31 ∧ ∀ r, rule = some r → r.Legal ∧ r.category = w.category.toNat ∧ r.itemClass = w.itemClass.toNat) ∧
   (∀ category itemClass rule, category ≤ 15 → itemClass ≤ 31 → (∀ r, rule = some r → r.Legal) →
     (ruleWire category itemClass rule).LaysOut category itemClass rule) ∧
   (∀ w, RuleWire.rule w = none ↔
     15 < w.category.toNat ∨ 31 < w.itemClass.toNat ∨ 2 < w.kind.toNat ∨
     (w.kind = 0 ∧ (w.presence ≠ 0 ∨ w.period ≠ 0 ∨ w.classLimit ≠ 0 ∨ w.renewalsAllowed ≠ 0 ∨ w.grace ≠ 0 ∨ w.fineRate ≠ 0 ∨
       w.fineCap ≠ 0)) ∨
     (w.kind ≠ 0 ∧ (w.presence ≠ 0x3f ∨ w.period = 0 ∨ (w.kind = 1 ∧ 365 < w.period.toNat) ∨
       (w.kind = 2 ∧ 72 < w.period.toNat) ∨ 24 < w.classLimit.toNat ∨ 9 < w.renewalsAllowed.toNat ∨ 30 < w.grace.toNat ∨
       999 < w.fineRate.toNat)))) ∧
  ((∀ w e, CategoryWire.entry w = some e ↔ w.LaysOut e ∧ e.Legal) ∧
   (∀ e : CategoryEntry, e.Legal → e.wire.LaysOut e) ∧
   (∀ w, CategoryWire.entry w = none ↔
     15 < w.category.toNat ∨ 99 < w.maxLoans.toNat ∨ 60 < w.expiryGrace.toNat ∨ 24 < w.offlineCap.toNat ∨
     w.shelfDays = 0 ∨ 30 < w.shelfDays.toNat)) ∧
  ((∀ w : PrefixWire, w.bytes = w.slot :: bytesOf 8 w.lead.toNat ++
     [w.minLength, w.maxLength, w.cls, w.check, w.hasDefault, w.default] ∧ .ofBytes w.bytes = w) ∧
   (∀ w : WeeklyWire, w.bytes = [w.weekday, w.closed, w.hasHours] ++ bytesOf 2 w.opening.toNat ++ bytesOf 2 w.closing.toNat ∧
     .ofBytes w.bytes = w) ∧
   (∀ w : ExceptionWire, w.bytes = bytesOf 2 w.day.toNat ++ [w.closed, w.hasHours] ++ bytesOf 2 w.opening.toNat ++
     bytesOf 2 w.closing.toNat ∧ .ofBytes w.bytes = w) ∧
   (∀ w : BorrowerWire, w.bytes = bytesOf 8 w.card.toNat ++ [w.category, w.loansHeld, w.holdsReady, w.flags] ++
     bytesOf 2 w.finesOwed.toNat ++ bytesOf 2 w.expiryDay.toNat ∧ .ofBytes w.bytes = w) ∧
   (∀ w : BlockWire, w.bytes = bytesOf 8 w.key.pattern.toNat ++ [w.key.k, w.key.cardLength, w.action, w.reason, w.hasExpiry] ++
     bytesOf 2 w.expiryDay.toNat ∧ w.key.bytes = w.bytes.take 10 ∧ .ofBytes w.bytes = w) ∧
   (∀ w : ItemWire, w.bytes = bytesOf 8 w.code.toNat ++ [w.status, w.presence, w.itemClass, w.renewalsUsed] ++
     bytesOf 8 w.holder.toNat ++ bytesOf 2 w.dueDay.toNat ++ bytesOf 2 w.dueMinute.toNat ++ bytesOf 8 w.holdBorrower.toNat ++
     bytesOf 2 w.pickupDay.toNat ∧ .ofBytes w.bytes = w) ∧
   (∀ (w : RuleWire) (last : Byte), w.fieldBytes = [w.category, w.itemClass, w.kind, w.presence] ++ bytesOf 2 w.period.toNat ++
     [w.classLimit, w.renewalsAllowed, w.grace] ++ bytesOf 2 w.fineRate.toNat ++ bytesOf 2 w.fineCap.toNat ∧
     w.bytes = w.fieldBytes ++ [0] ∧ .ofBytes (w.fieldBytes ++ [last]) = w) ∧
   (∀ w : CategoryWire, w.bytes = [w.category, w.maxLoans] ++ bytesOf 2 w.finesLimit.toNat ++
     [w.expiryGrace, w.offlineCap, w.shelfDays] ∧ .ofBytes w.bytes = w))

/-! ## Dues, loans, renewals and returns -/

/-- The dues that the Due-Date Unit reckons: a day loan with its expiry cap, an hourly loan within today's hours or carried to the
next open day, with its cap, a renewal, and a pickup-by day. What a question reads of the desk. -/
def Obligations.DuesAreReckoned : Prop :=
  (∀ (q : DueQuestion) (r : LoanRule),
     let today := q.today
     let capDay := max q.expiryDay today
     let capped := match q.tables.backwardSearch capDay (max today (capDay - 21)) with
       | some day => day
       | none => capDay
     (r.kind = .days →
       let raw := min (today + r.period) 65535
       let found := q.tables.forwardSearch raw (raw + 21)
       let day := found.getD raw
       (day ≤ capDay → q.loanDue r = ⟨⟨day, none⟩, found.isNone⟩) ∧
       (capDay < day → q.loanDue r = ⟨⟨capped, none⟩, false⟩)) ∧
     (r.kind = .hours →
       let minutes := 60 * r.period
       let carried := fun (day minute : Nat) (missed : Bool) =>
         let closing := match q.tables.dayHours capped with
           | some h => h.closing
           | none => 1439
         (day ≤ capDay → q.loanDue r = ⟨⟨day, some minute⟩, missed⟩) ∧
         (capDay < day → capped = today → q.loanDue r = ⟨⟨capped, some (max closing q.minute)⟩, false⟩) ∧
         (capDay < day → capped ≠ today → q.loanDue r = ⟨⟨capped, some closing⟩, false⟩)
       (∀ h, q.tables.dayHours today = some h →
         (q.minute + minutes ≤ h.closing → q.loanDue r = ⟨⟨today, some (q.minute + minutes)⟩, false⟩) ∧
         (h.closing < q.minute + minutes → q.minute + q.minimumRemaining ≤ h.closing →
           q.loanDue r = ⟨⟨today, some h.closing⟩, false⟩)) ∧
       ((∀ h, q.tables.dayHours today = some h →
           h.closing < q.minute + minutes ∧ h.closing < q.minute + q.minimumRemaining) →
         (today < 65535 →
           (∀ n h, q.tables.forwardSearch (today + 1) (today + 21) = some n → q.tables.dayHours n = some h →
             carried n (min (h.opening + minutes) h.closing) false) ∧
           (q.tables.forwardSearch (today + 1) (today + 21) = none → carried (today + 1) (min minutes 1439) true)) ∧
         (65535 ≤ today → carried 65535 1439 true))) ∧
     ∀ current : Due,
       (current.earlier (q.loanDue r).due = true → q.renewalDue r current = q.loanDue r) ∧
       (current.earlier (q.loanDue r).due = false → q.renewalDue r current = ⟨current, false⟩)) ∧
  (∀ (d : Desk) (expiryDay : Nat),
     d.dueQuestion expiryDay = ⟨d.clock.day, d.clock.minute, expiryDay, d.tables, d.settings.minimumRemaining⟩) ∧
  ∀ (d : Desk) (hold : Code),
    let shelfDays := match d.borrower hold with
      | some b => (d.category b.category).shelfDays
      | none => match classifyCode d.tables.prefixes hold with
        | some (.borrower category) => (d.category category).shelfDays
        | _ => 7
    let start := min (d.clock.day + shelfDays) 65535
    (∀ day, d.tables.forwardSearch start (start + 21) = some day → d.pickupDay hold = (day, false)) ∧
    (d.tables.forwardSearch start (start + 21) = none → d.pickupDay hold = (start, true))

/-- The checks of a loan or a renewal in order, with the override arm: the first failure refuses, but a set arm passes over the
first overridable one, and a later failure refuses with its own reason. The checks of a loan that follow the lapse of the item's
hold (4 to 18), and the ten of a renewal: when each fails, its reason, and whether it can be overridden. -/
def Obligations.ChecksRunInOrder : Prop :=
  (∀ (armed : Bool) (checks : List Check),
     let passed := fun cs : List Check => ∀ c ∈ cs, c.fails = false
     (passed checks → judge armed none checks = .made none) ∧
     ∀ before c after, checks = before ++ c :: after → passed before → c.fails = true →
       (armed = false ∨ c.overridable = false → judge armed none checks = .refused c.reason) ∧
       (armed = true → c.overridable = true →
         (passed after → judge armed none checks = .made (some c.reason)) ∧
         ∀ between o rest, after = between ++ o :: rest → passed between → o.fails = true →
           judge armed none checks = .refused o.reason)) ∧
  ∀ (d : Desk) (x : Session) (item : Code) (scanned : Nat),
    let b := d.sessionEntry x.borrower
    let c := d.category b.category
    let entry := d.item item
    let itemClass := (entry.bind ItemEntry.itemClass).getD scanned
    let rule := d.rule b.category itemClass
    let blocked := fun action => ∃ e, d.blockCheck x.borrower = some e ∧ e.action = action
    let noRoom := 16384 - d.journal.held.length ≤ d.settings.returnReserve
    let fines := c.finesLimit ≠ 0 ∧ c.finesLimit ≤ b.finesOwed
    let classOf := fun code => match (d.item code).bind ItemEntry.itemClass with
      | some n => some n
      | none => match classifyCode d.tables.prefixes code with
        | some (.item n) => some n
        | _ => none
    let lent := x.items.countP fun e => e.isLent
    let lentOfClass := x.items.countP fun e => e.isLent && classOf e.code == some itemClass
    let are := List.Forall₂ fun (k : Check) (p : Prop × RefusalReason × Bool) =>
      (k.fails = true ↔ p.1) ∧ k.reason = p.2.1 ∧ k.overridable = p.2.2
    are (d.loanChecks x item scanned)
      [ (noRoom, .journalFull, false),
        (blocked .refuse, .blocked, false),
        (blocked .refer, .refer, true),
        (b.expiryDay + c.expiryGrace < d.clock.day, .expired, true),
        (∃ e, entry = some e ∧ (e.status = .reference ∨ e.status = .withdrawn), .notLendable, false),
        (∃ e hold, entry = some e ∧ e.status = .missing hold, .statusCheck, true),
        (∃ e holder due n hold, entry = some e ∧ e.status = .onLoan holder due n hold ∧ holder ≠ x.borrower, .onLoanOther, false),
        (∃ e due n hold, entry = some e ∧ e.status = .onLoan x.borrower due n hold, .alreadyOnLoan, false),
        (∃ e hold, entry = some e ∧ hold ≠ x.borrower ∧
          (e.status = .holdPending hold ∨ ∃ day, e.status = .onHoldShelf hold day), .heldForOther, true),
        (rule = none, .notLendable, false),
        (c.maxLoans ≤ b.loansHeld, .loanLimit, b.loansHeld != 99),
        (∃ r, rule = some r ∧ r.classLimit ≠ 0 ∧ r.classLimit ≤ lentOfClass, .classLimit, true),
        (fines, .finesLimit, true),
        (x.provisional = true ∧ c.offlineCap ≤ lent, .offlineCap, false),
        (entry = none ∧ 131072 ≤ d.tables.items.length, .tableFull, false) ] ∧
    are (d.renewalChecks x item scanned)
      [ (∃ e ∈ x.items, e.code = item, .alreadyInSession, false),
        (24 ≤ x.items.length, .sessionFull, false),
        (¬ ∃ e due n hold, entry = some e ∧ e.status = .onLoan x.borrower due n hold, .notOnLoanToBorrower, false),
        (rule = none, .notLendable, false),
        (∀ r, rule = some r → r.renewalsAllowed ≤ ((entry.map fun e => e.status.renewalsUsed).getD 0), .renewLimit, true),
        (∃ e hold, entry = some e ∧ e.status.hold = some hold, .heldForOther, true),
        (blocked .refuse, .blocked, false),
        (blocked .refer, .refer, true),
        (fines, .finesLimit, true),
        (noRoom, .journalFull, false) ]

/-- An item taken at an OPEN station in LOAN mode. Checks 1 to 3 refuse it with SESSION_FULL, ALREADY_IN_SESSION or IN_USE; checks
4 to 18 are made after the item's lapsed hold, if any, has been taken off the shelf. A refusal posts its prompt and, but for
ALREADY_IN_SESSION, appends a REFUSAL record, and changes no table. With the checks passed the loan takes effect in the item's
entry, the borrowers' counts, the journal, the session's list, the pad, the prompt and, under the arm, the notice. The order of the
effects is the model's choice (log 16). -/
def Obligations.LoanTakesEffect : Prop :=
  ∀ (d : Desk) (st : StationId) (x : Session) (item : Code) (scanned : Nat), d.tables.Sorted →
    d.context st = .opened x → (d.stations.get st).mode = .loan →
    let a := d.takeItem st item scanned
    let listed := ∃ e ∈ x.items, e.code = item
    let elsewhere := ∃ o, o ≠ st ∧ (d.context o).lists item = true
    let refused := fun (d : Desk) (r : RefusalReason) (blockReason : Option Nat) =>
      (d.post st (.loanRefused r blockReason)).append (some st) { RecordFlags.none with provisional := x.provisional }
        (.refusal x.borrower item r .loan)
    (24 ≤ x.items.length → a = refused d .sessionFull none) ∧
    (x.items.length < 24 → listed → a = d.post st (.loanRefused .alreadyInSession none)) ∧
    (x.items.length < 24 → ¬ listed → elsewhere → a = refused d .inUse none) ∧
    (x.items.length < 24 → ¬ listed → ¬ elsewhere →
      let e := d.lapseAtRead st item
      let borrower := e.sessionEntry x.borrower
      (∀ r, judge x.arm.isSome none (e.loanChecks x item scanned) = .refused r →
        let alarmed := if r = .tableFull then e.raiseAlarm .tableFull else e
        a = refused alarmed r
          (if r = .blocked ∨ r = .refer then (e.blockCheck x.borrower).map BlockEntry.reason else none) ∧
        a.tables = e.tables ∧ a.context st = .opened x ∧
        .loanRefused r (e.refusalBlockReason x.borrower r) ∈ (a.arbiters.get st).pending) ∧
      ∀ passed, judge x.arm.isSome none (e.loanChecks x item scanned) = .made passed →
        ∃ rule, e.rule borrower.category (((e.item item).bind ItemEntry.itemClass).getD scanned) = some rule ∧
        let answer := (e.dueQuestion borrower.expiryDay).loanDue rule
        let record := e.recordFor (some st)
          { RecordFlags.none with overridden := passed.isSome, provisional := x.provisional, noOpenDay := answer.noOpenDay }
          (.loan x.borrower item answer.due)
        let leaves := match e.item item with
          | some ⟨_, _, .onHoldShelf hold _⟩ => some hold
          | _ => none
        a.item item = some ⟨item, (e.item item).bind ItemEntry.itemClass,
          .onLoan x.borrower answer.due 0 (keptHold (e.item item) x.borrower)⟩ ∧
        (∀ other, other ≠ item → a.item other = e.item other) ∧
        (∀ card, a.borrower card = (e.borrower card).map fun b => { b with
          loansHeld := if card = x.borrower then min (b.loansHeld + 1) 99 else b.loansHeld
          holdsReady := if leaves = some card then b.holdsReady - 1 else b.holdsReady }) ∧
        a.tables = { e.tables with items := a.tables.items, borrowers := a.tables.borrowers } ∧
        a.journal.held = e.journal.held ++ [record] ∧
        a.context st = .opened { x with
          items := x.items ++ [.lent item answer.due record.seq (e.item item)]
          arm := if passed = none then x.arm else none } ∧
        (a.stations.get st).pad = .desensitising (d.stationSettings.get st).padPulse ∧
        .lent answer.due ∈ (a.arbiters.get st).pending ∧
        ∀ r, passed = some r → e.settings.routing.overrideUsed = true →
          ∃ n ∈ a.notices, n.body = .overrideUsed st x.borrower item r)

/-- An item taken at an OPEN station in RENEW mode, against the item as the lapse of its hold, if any, leaves it. A refusal posts
its prompt and, but for ALREADY_IN_SESSION, appends a REFUSAL record, in that order (the model's choice, log 16). With the ten checks passed the item's entry takes the new due
and one renewal more, keeping its hold, no count of a borrower changes, a RENEW record is appended, a RENEWED entry is listed,
RENEWED is posted, and the pad stays as it is. The count that a renewal at 9 leaves is a free value: nothing is said of it (log
12). -/
def Obligations.RenewalTakesEffect : Prop :=
  ∀ (d : Desk) (st : StationId) (x : Session) (item : Code) (scanned : Nat), d.tables.Sorted →
    d.context st = .opened x → (d.stations.get st).mode = .renew →
    let e := d.lapseAtRead st item
    let a := d.takeItem st item scanned
    let borrower := e.sessionEntry x.borrower
    (∀ r, judge x.arm.isSome none (e.renewalChecks x item scanned) = .refused r →
      let told := e.post st (.loanRefused r
        (if r = .blocked ∨ r = .refer then (e.blockCheck x.borrower).map BlockEntry.reason else none))
      (r = .alreadyInSession → a = told) ∧
      (r ≠ .alreadyInSession → a = told.append (some st) { RecordFlags.none with provisional := x.provisional }
        (.refusal x.borrower item r .renew))) ∧
    ∀ passed, judge x.arm.isSome none (e.renewalChecks x item scanned) = .made passed →
      ∃ itemClass due used hold rule, e.item item = some ⟨item, itemClass, .onLoan x.borrower due used hold⟩ ∧
      e.rule borrower.category (itemClass.getD scanned) = some rule ∧
      let answer := (e.dueQuestion borrower.expiryDay).renewalDue rule due
      let record := e.recordFor (some st)
        { RecordFlags.none with overridden := passed.isSome, provisional := x.provisional, noOpenDay := answer.noOpenDay }
        (.renew x.borrower item answer.due)
      (∃ now, a.item item = some ⟨item, itemClass, .onLoan x.borrower answer.due now hold⟩ ∧ (used < 9 → now = used + 1)) ∧
      (∀ other, other ≠ item → a.item other = e.item other) ∧
      a.tables = { e.tables with items := a.tables.items } ∧
      a.journal.held = e.journal.held ++ [record] ∧
      a.context st = .opened { x with
        items := x.items ++ [.renewed item answer.due]
        arm := if passed = none then x.arm else none } ∧
      (a.stations.get st).pad = (d.stations.get st).pad ∧
      .renewed answer.due ∈ (a.arbiters.get st).pending ∧
      ∀ r, passed = some r → e.settings.routing.overrideUsed = true →
        ∃ n ∈ a.notices, n.body = .overrideUsed st x.borrower item r

/-- A return, once the desk mode permits it: refused with IN_USE while the item stands in a session's list, and with JOURNAL_FULL
without a free place; else by the item's entry, as the lapse of its hold, if any, leaves it. A plain return leaves the item out of
the table or the table as it is; a routed one puts the item on the hold shelf with a pickup-by day, its borrower's holds ready up by
one, and goes on with the HOLD_ROUTED record, HOLD_FOR, the notice and the hold slip. Both append a RETURN record, resensitise the
pad, post RETURNED for a fine and list a RETURNED entry where an OPEN station's list has room. The holder of a lent item holds one
loan fewer and owes the fine. The order of the effects is the model's choice (log 16). -/
def Obligations.ReturnTakesEffect : Prop :=
  ∀ (d : Desk) (st : StationId) (item : Code) (scanned : Nat), d.tables.Sorted →
    let a := d.returnItem st item scanned
    let e := d.lapseAtRead st item
    let provisional := match d.context st with
      | .opened x => x.provisional
      | _ => false
    let recorded := fun (d : Desk) (found : Bool) (loan : Option ReturnedLoan) =>
      d.append (some st) { RecordFlags.none with provisional := provisional, found := found } (.ret item loan)
    let pulsed := fun d : Desk => d.onStation st fun s => { s with pad := .resensitising (d.stationSettings.get st).padPulse }
    let concluded := fun (d : Desk) (loan : Option ReturnedLoan) =>
      let told := match loan with
        | some l => if 0 < l.fine then d.post st (.returned l.fine) else d
        | none => d
      match told.context st with
      | .opened x =>
        if x.items.length < 24 then
          told.onStation st fun s => { s with context := .opened { x with items := x.items ++ [.returned item] } }
        else told
      | _ => told
    let plain := fun (d : Desk) (found : Bool) (loan : Option ReturnedLoan) => concluded (pulsed (recorded d found loan)) loan
    let routed := fun (d : Desk) (itemClass : Option Nat) (hold : Code) (found : Bool) (loan : Option ReturnedLoan) =>
      let pickup := d.pickupDay hold
      let shelved := (d.putItem ⟨item, itemClass, .onHoldShelf hold pickup.1⟩).changeBorrower hold fun b =>
        { b with holdsReady := min (b.holdsReady + 1) 15 }
      let written := (recorded shelved found loan).append (some st) { RecordFlags.none with noOpenDay := pickup.2 }
        (.holdRouted hold item pickup.1)
      let told := ((pulsed written).post st (.holdFor (hold.drop (hold.length - 4)) pickup.1)).raiseNotice
        (.holdRouted st item hold)
      let slip := holdSlip st hold item pickup.1
      concluded ((told.onSlips fun x => { x with lastSlips := x.lastSlips.set st (some slip) }).handOver slip) loan
    (d.itemListed item = true → a = d.post st (.loanRefused .inUse none)) ∧
    (d.itemListed item = false → e.anyRoom = false → a = e.post st (.loanRefused .journalFull none)) ∧
    (d.itemListed item = false → e.anyRoom = true →
      (e.item item = none → a = plain e false none) ∧
      ∀ itemClass status, e.item item = some ⟨item, itemClass, status⟩ →
        (status = .reference ∨ status = .withdrawn → a = plain e false none) ∧
        (status = .missing none → a = plain (e.eraseItem item) true none) ∧
        (∀ h, status = .missing (some h) → a = routed e itemClass h true none) ∧
        (∀ h, status = .holdPending h → a = routed e itemClass h false none) ∧
        (∀ h day, status = .onHoldShelf h day → a = e.post st (.holdFor (h.drop (h.length - 4)) day)) ∧
        ∀ holder due n hold, status = .onLoan holder due n hold →
          let units := e.reckonReturn due (e.fineTerms holder (itemClass.getD scanned))
          let loan : ReturnedLoan := { holder := holder, due := due, fine := units.2, lateUnits := units.1 }
          let settled := e.changeBorrower holder fun b =>
            { b with loansHeld := b.loansHeld - 1, finesOwed := min (b.finesOwed + units.2) 65535 }
          let record := e.recordFor (some st) { RecordFlags.none with provisional := provisional } (.ret item (some loan))
          (hold = none → a = plain (settled.eraseItem item) false (some loan)) ∧
          (∀ h, hold = some h → a = routed settled itemClass h false (some loan)) ∧
          (hold = none → a.item item = none) ∧
          (∀ h, hold = some h → a.item item = some ⟨item, itemClass, .onHoldShelf h (e.pickupDay h).1⟩) ∧
          (∀ other, other ≠ item → a.item other = e.item other) ∧
          (∀ card, a.borrower card = (e.borrower card).map fun b => { b with
            loansHeld := if card = holder then b.loansHeld - 1 else b.loansHeld
            finesOwed := if card = holder then min (b.finesOwed + units.2) 65535 else b.finesOwed
            holdsReady := if hold = some card then min (b.holdsReady + 1) 15 else b.holdsReady }) ∧
          (e.journal.held ++ [record]) <+: a.journal.held ∧
          (a.stations.get st).pad = .resensitising (d.stationSettings.get st).padPulse)

/-- R113, R117 and R118, with the fine of R119 in them. -/
def Obligations.DuesComparedAndFinesReckoned : Prop :=
  (∀ a b : Due, (∀ m, a.minute = some m → m ≤ 1439) → (∀ m, b.minute = some m → m ≤ 1439) →
    (a.earlier b = true ↔ a.day < b.day ∨ (a.day = b.day ∧
      ((a.minute ≠ none ∧ b.minute = none) ∨ ∃ m n, a.minute = some m ∧ b.minute = some n ∧ m < n)))) ∧
  ∀ (d : Desk) (due : Due) (t : FineTerms),
    let today := d.clock.day
    let m := d.clock.minute
    let fine := fun units => min (units * t.rate) t.cap
    (due.minute = none →
      let units := d.tables.openDaysBetween due.day today - t.grace
      d.reckonReturn due t = (units, fine units)) ∧
    ∀ minute, due.minute = some minute → minute ≤ 1439 →
      (today < due.day → d.reckonReturn due t = (0, 0)) ∧
      (today = due.day → m ≤ minute → d.reckonReturn due t = (0, 0)) ∧
      (today = due.day → minute < m → d.reckonReturn due t = ((m - minute + 59) / 60, fine ((m - minute + 59) / 60))) ∧
      (due.day < today → d.reckonReturn due t =
        (min (((today - due.day) * 1440 + m - minute + 59) / 60) 65535, t.cap))

/-! ## Invariants -/

/-- What every step keeps holds at reset. -/
def Obligations.ResetHoldsTheInvariants : Prop :=
  State.reset.desk.tables.Sorted ∧ Table.Sorted Notice.key State.reset.desk.notices ∧ State.reset.desk.journal.Coherent ∧
  State.reset.desk.PromptsRight ∧ State.reset.desk.ModeAgrees ∧ LineBounded State.reset.line ∧
  (∀ st, ScanBounded (State.reset.desk.scan.get st)) ∧ State.reset.desk.alarms.Bounded ∧ State.reset.desk.Ranged ∧
  State.reset.desk.WithinCapacities ∧ State.reset.desk.UploadBounded

/-- Every table stays sorted strictly by its key, so no table ever holds two entries of one key; and so does the notice pending set,
which holds one notice of a kind and station or alarm at most, the first to be sent at its head. -/
def Obligations.StepKeepsTablesSorted : Prop :=
  (∀ s t : State, s.desk.tables.Sorted → step s = .next t → t.desk.tables.Sorted) ∧
  ∀ s t : State, Table.Sorted Notice.key s.desk.notices → step s = .next t → Table.Sorted Notice.key t.desk.notices

/-- The held records stay numbered from released + 1 to newest without gaps, and there are never more than 16,384. -/
def Obligations.StepKeepsJournalCoherent : Prop :=
  ∀ s t : State, s.desk.journal.Coherent → step s = .next t → t.desk.journal.Coherent

/-- Every station goes on showing its highest unmasked pending prompt, with the lamp in its level's colour. -/
def Obligations.StepKeepsHighestPromptShown : Prop :=
  ∀ s t : State, s.desk.PromptsRight → step s = .next t → t.desk.PromptsRight

/-- A CLOSED desk never serves at a station, and a CLOSING desk always does. -/
def Obligations.StepKeepsModeAgreement : Prop :=
  ∀ s t : State, s.desk.ModeAgrees → step s = .next t → t.desk.ModeAgrees

/-- The reply queue, the framer, the scan queues, the wand receivers and the counts stay within their ranges, and so do the clock,
the borrower counts and the settings. -/
def Obligations.StepKeepsRanges : Prop :=
  (∀ s t : State, LineBounded s.line → (∀ st, ScanBounded (s.desk.scan.get st)) → s.desk.alarms.Bounded → step s = .next t →
     LineBounded t.line ∧ (∀ st, ScanBounded (t.desk.scan.get st)) ∧ t.desk.alarms.Bounded) ∧
  ∀ s t : State, s.desk.Ranged → step s = .next t → t.desk.Ranged

/-- The item lists stay within 24 entries and without a code twice, the print queues within 8 jobs, and the deferred slips within one
for each station, held at stations that serve no borrower. -/
def Obligations.StepKeepsCapacities : Prop :=
  ∀ s t : State, s.desk.WithinCapacities → step s = .next t → t.desk.WithinCapacities

/-- The upload stays within its bounds: released, sent, cut and newest stay in sequence order while it runs, with one block in
flight, sent is released in IDLE, and in STALLED no JOURNAL_BLOCK waits to be sent (that it is withdrawn: the model's choice,
log 25). -/
def Obligations.StepKeepsUploadBounds : Prop :=
  ∀ s t : State, s.desk.journal.Coherent → s.desk.UploadBounded → step s = .next t → t.desk.UploadBounded
end

