-- ==== Sys2Proof/Laws/Bytes.lean ====
section
/-! SUPPORT. Numbers as bytes and back: what a proof about a wire form or a frame cites in place of unfolding the bytes. -/

namespace Sys2Proof

@[simp] theorem bytesOf_length (n v : Nat) : (bytesOf n v).length = n := by
  induction n generalizing v with
  | zero => rfl
  | succ n ih => simp [bytesOf, ih]

theorem bytesOf_succ (n v : Nat) : bytesOf (n + 1) v = bytesOf n (v / 256) ++ [BitVec.ofNat 8 v] := rfl

theorem bytesOf_two (v : Nat) : bytesOf 2 v = [BitVec.ofNat 8 (v / 256), BitVec.ofNat 8 v] := rfl

theorem numberOf_snoc (bs : List Byte) (b : Byte) : numberOf (bs ++ [b]) = 256 * numberOf bs + b.toNat := by
  simp [numberOf, List.foldl_append]

/-- The bytes of a number spell it again, as far as they are enough for it. -/
theorem numberOf_bytesOf (n v : Nat) : numberOf (bytesOf n v) = v % 256 ^ n := by
  induction n generalizing v with
  | zero => simp [bytesOf, numberOf, Nat.mod_one]
  | succ n ih =>
    rw [bytesOf_succ, numberOf_snoc, ih, BitVec.toNat_ofNat, show 256 ^ (n + 1) = 256 * 256 ^ n from Nat.pow_succ', Nat.mod_mul]
    omega

/-- A field that stands after `before` bytes is read back. -/
theorem fieldAt_bytesOf (before after : List Byte) (n v : Nat) :
    fieldAt (before ++ bytesOf n v ++ after) before.length n = v % 256 ^ n := by
  rw [fieldAt, List.append_assoc, List.drop_left, ← numberOf_bytesOf]
  congr 1
  conv => lhs; rw [← bytesOf_length n v]
  simp

end Sys2Proof
end

