-- ==== Sys2Proof/Laws/State.lean ====
section
/-! SUPPORT. What each update of the state leaves and gives, field by field: true by computation, so that no proof unfolds a
record update. -/

namespace Sys2Proof.Machine

/-! ## Four stations, two printers -/

@[simp] theorem PerStation.get_all {α : Type} (a : α) (st : StationId) : (PerStation.all a).get st = a := by
  cases st <;> rfl

@[simp] theorem PerStation.get_set_same {α : Type} (v : PerStation α) (st : StationId) (a : α) : (v.set st a).get st = a := by
  cases st <;> rfl

theorem PerStation.get_set_other {α : Type} (v : PerStation α) {st o : StationId} (a : α) (h : o ≠ st) :
    (v.set st a).get o = v.get o := by
  cases st <;> cases o <;> first | rfl | exact absurd rfl h

theorem PerStation.get_set {α : Type} (v : PerStation α) (st o : StationId) (a : α) :
    (v.set st a).get o = if o = st then a else v.get o := by
  cases st <;> cases o <;> rfl

@[simp] theorem PerStation.set_get {α : Type} (v : PerStation α) (st : StationId) : v.set st (v.get st) = v := by
  cases st <;> rfl

@[simp] theorem PerStation.set_set {α : Type} (v : PerStation α) (st : StationId) (a b : α) :
    (v.set st a).set st b = v.set st b := by
  cases st <;> rfl

@[simp] theorem PerPrinter.get_set_same {α : Type} (v : PerPrinter α) (p : PrinterId) (a : α) : (v.set p a).get p = a := by
  cases p <;> rfl

theorem PerPrinter.get_set_other {α : Type} (v : PerPrinter α) {p o : PrinterId} (a : α) (h : o ≠ p) :
    (v.set p a).get o = v.get o := by
  cases p <;> cases o <;> first | rfl | exact absurd rfl h

@[simp] theorem PerPrinter.set_get {α : Type} (v : PerPrinter α) (p : PrinterId) : v.set p (v.get p) = v := by
  cases p <;> rfl

@[simp] theorem AlarmSet.get_set_same (s : AlarmSet) (a : AlarmId) (x : AlarmState) : (s.set a x).get a = x := by
  cases a <;> rfl

theorem AlarmSet.get_set_other (s : AlarmSet) {a o : AlarmId} (x : AlarmState) (h : o ≠ a) : (s.set a x).get o = s.get o := by
  cases a <;> cases o <;> first | rfl | exact absurd rfl h

@[simp] theorem AlarmSet.set_get (s : AlarmSet) (a : AlarmId) : s.set a (s.get a) = s := by
  cases a <;> rfl

/-! ## The parts of the desk -/
@[simp] theorem Desk.onScan_power (d : Desk) (st : StationId) (f : ScanStation → ScanStation) : (d.onScan st f).power = d.power := rfl
@[simp] theorem Desk.onScan_clock (d : Desk) (st : StationId) (f : ScanStation → ScanStation) : (d.onScan st f).clock = d.clock := rfl
@[simp] theorem Desk.onScan_tables (d : Desk) (st : StationId) (f : ScanStation → ScanStation) : (d.onScan st f).tables = d.tables := rfl
@[simp] theorem Desk.onScan_sweep (d : Desk) (st : StationId) (f : ScanStation → ScanStation) : (d.onScan st f).sweep = d.sweep := rfl
@[simp] theorem Desk.onScan_settings (d : Desk) (st : StationId) (f : ScanStation → ScanStation) : (d.onScan st f).settings = d.settings := rfl
@[simp] theorem Desk.onScan_stationSettings (d : Desk) (st : StationId) (f : ScanStation → ScanStation) : (d.onScan st f).stationSettings = d.stationSettings := rfl
@[simp] theorem Desk.onScan_scan (d : Desk) (st : StationId) (f : ScanStation → ScanStation) : (d.onScan st f).scan = d.scan.set st (f (d.scan.get st)) := rfl
@[simp] theorem Desk.onScan_mode (d : Desk) (st : StationId) (f : ScanStation → ScanStation) : (d.onScan st f).mode = d.mode := rfl
@[simp] theorem Desk.onScan_closingTimer (d : Desk) (st : StationId) (f : ScanStation → ScanStation) : (d.onScan st f).closingTimer = d.closingTimer := rfl
@[simp] theorem Desk.onScan_stations (d : Desk) (st : StationId) (f : ScanStation → ScanStation) : (d.onScan st f).stations = d.stations := rfl
@[simp] theorem Desk.onScan_arbiters (d : Desk) (st : StationId) (f : ScanStation → ScanStation) : (d.onScan st f).arbiters = d.arbiters := rfl
@[simp] theorem Desk.onScan_slips (d : Desk) (st : StationId) (f : ScanStation → ScanStation) : (d.onScan st f).slips = d.slips := rfl
@[simp] theorem Desk.onScan_journal (d : Desk) (st : StationId) (f : ScanStation → ScanStation) : (d.onScan st f).journal = d.journal := rfl
@[simp] theorem Desk.onScan_upload (d : Desk) (st : StationId) (f : ScanStation → ScanStation) : (d.onScan st f).upload = d.upload := rfl
@[simp] theorem Desk.onScan_link (d : Desk) (st : StationId) (f : ScanStation → ScanStation) : (d.onScan st f).link = d.link := rfl
@[simp] theorem Desk.onScan_alarms (d : Desk) (st : StationId) (f : ScanStation → ScanStation) : (d.onScan st f).alarms = d.alarms := rfl
@[simp] theorem Desk.onScan_notices (d : Desk) (st : StationId) (f : ScanStation → ScanStation) : (d.onScan st f).notices = d.notices := rfl
@[simp] theorem Desk.onScan_lookupList (d : Desk) (st : StationId) (f : ScanStation → ScanStation) : (d.onScan st f).lookupList = d.lookupList := rfl
@[simp] theorem Desk.onScan_uploadList (d : Desk) (st : StationId) (f : ScanStation → ScanStation) : (d.onScan st f).uploadList = d.uploadList := rfl
@[simp] theorem Desk.onScan_freeIndex (d : Desk) (st : StationId) (f : ScanStation → ScanStation) : (d.onScan st f).freeIndex = d.freeIndex := rfl

@[simp] theorem Desk.onStation_power (d : Desk) (st : StationId) (f : EngineStation → EngineStation) : (d.onStation st f).power = d.power := rfl
@[simp] theorem Desk.onStation_clock (d : Desk) (st : StationId) (f : EngineStation → EngineStation) : (d.onStation st f).clock = d.clock := rfl
@[simp] theorem Desk.onStation_tables (d : Desk) (st : StationId) (f : EngineStation → EngineStation) : (d.onStation st f).tables = d.tables := rfl
@[simp] theorem Desk.onStation_sweep (d : Desk) (st : StationId) (f : EngineStation → EngineStation) : (d.onStation st f).sweep = d.sweep := rfl
@[simp] theorem Desk.onStation_settings (d : Desk) (st : StationId) (f : EngineStation → EngineStation) : (d.onStation st f).settings = d.settings := rfl
@[simp] theorem Desk.onStation_stationSettings (d : Desk) (st : StationId) (f : EngineStation → EngineStation) : (d.onStation st f).stationSettings = d.stationSettings := rfl
@[simp] theorem Desk.onStation_scan (d : Desk) (st : StationId) (f : EngineStation → EngineStation) : (d.onStation st f).scan = d.scan := rfl
@[simp] theorem Desk.onStation_mode (d : Desk) (st : StationId) (f : EngineStation → EngineStation) : (d.onStation st f).mode = d.mode := rfl
@[simp] theorem Desk.onStation_closingTimer (d : Desk) (st : StationId) (f : EngineStation → EngineStation) : (d.onStation st f).closingTimer = d.closingTimer := rfl
@[simp] theorem Desk.onStation_stations (d : Desk) (st : StationId) (f : EngineStation → EngineStation) : (d.onStation st f).stations = d.stations.set st (f (d.stations.get st)) := rfl
@[simp] theorem Desk.onStation_arbiters (d : Desk) (st : StationId) (f : EngineStation → EngineStation) : (d.onStation st f).arbiters = d.arbiters := rfl
@[simp] theorem Desk.onStation_slips (d : Desk) (st : StationId) (f : EngineStation → EngineStation) : (d.onStation st f).slips = d.slips := rfl
@[simp] theorem Desk.onStation_journal (d : Desk) (st : StationId) (f : EngineStation → EngineStation) : (d.onStation st f).journal = d.journal := rfl
@[simp] theorem Desk.onStation_upload (d : Desk) (st : StationId) (f : EngineStation → EngineStation) : (d.onStation st f).upload = d.upload := rfl
@[simp] theorem Desk.onStation_link (d : Desk) (st : StationId) (f : EngineStation → EngineStation) : (d.onStation st f).link = d.link := rfl
@[simp] theorem Desk.onStation_alarms (d : Desk) (st : StationId) (f : EngineStation → EngineStation) : (d.onStation st f).alarms = d.alarms := rfl
@[simp] theorem Desk.onStation_notices (d : Desk) (st : StationId) (f : EngineStation → EngineStation) : (d.onStation st f).notices = d.notices := rfl
@[simp] theorem Desk.onStation_lookupList (d : Desk) (st : StationId) (f : EngineStation → EngineStation) : (d.onStation st f).lookupList = d.lookupList := rfl
@[simp] theorem Desk.onStation_uploadList (d : Desk) (st : StationId) (f : EngineStation → EngineStation) : (d.onStation st f).uploadList = d.uploadList := rfl
@[simp] theorem Desk.onStation_freeIndex (d : Desk) (st : StationId) (f : EngineStation → EngineStation) : (d.onStation st f).freeIndex = d.freeIndex := rfl

@[simp] theorem Desk.onArbiter_power (d : Desk) (st : StationId) (f : Arbiter → Arbiter) : (d.onArbiter st f).power = d.power := rfl
@[simp] theorem Desk.onArbiter_clock (d : Desk) (st : StationId) (f : Arbiter → Arbiter) : (d.onArbiter st f).clock = d.clock := rfl
@[simp] theorem Desk.onArbiter_tables (d : Desk) (st : StationId) (f : Arbiter → Arbiter) : (d.onArbiter st f).tables = d.tables := rfl
@[simp] theorem Desk.onArbiter_sweep (d : Desk) (st : StationId) (f : Arbiter → Arbiter) : (d.onArbiter st f).sweep = d.sweep := rfl
@[simp] theorem Desk.onArbiter_settings (d : Desk) (st : StationId) (f : Arbiter → Arbiter) : (d.onArbiter st f).settings = d.settings := rfl
@[simp] theorem Desk.onArbiter_stationSettings (d : Desk) (st : StationId) (f : Arbiter → Arbiter) : (d.onArbiter st f).stationSettings = d.stationSettings := rfl
@[simp] theorem Desk.onArbiter_scan (d : Desk) (st : StationId) (f : Arbiter → Arbiter) : (d.onArbiter st f).scan = d.scan := rfl
@[simp] theorem Desk.onArbiter_mode (d : Desk) (st : StationId) (f : Arbiter → Arbiter) : (d.onArbiter st f).mode = d.mode := rfl
@[simp] theorem Desk.onArbiter_closingTimer (d : Desk) (st : StationId) (f : Arbiter → Arbiter) : (d.onArbiter st f).closingTimer = d.closingTimer := rfl
@[simp] theorem Desk.onArbiter_stations (d : Desk) (st : StationId) (f : Arbiter → Arbiter) : (d.onArbiter st f).stations = d.stations := rfl
@[simp] theorem Desk.onArbiter_arbiters (d : Desk) (st : StationId) (f : Arbiter → Arbiter) : (d.onArbiter st f).arbiters = d.arbiters.set st (f (d.arbiters.get st)) := rfl
@[simp] theorem Desk.onArbiter_slips (d : Desk) (st : StationId) (f : Arbiter → Arbiter) : (d.onArbiter st f).slips = d.slips := rfl
@[simp] theorem Desk.onArbiter_journal (d : Desk) (st : StationId) (f : Arbiter → Arbiter) : (d.onArbiter st f).journal = d.journal := rfl
@[simp] theorem Desk.onArbiter_upload (d : Desk) (st : StationId) (f : Arbiter → Arbiter) : (d.onArbiter st f).upload = d.upload := rfl
@[simp] theorem Desk.onArbiter_link (d : Desk) (st : StationId) (f : Arbiter → Arbiter) : (d.onArbiter st f).link = d.link := rfl
@[simp] theorem Desk.onArbiter_alarms (d : Desk) (st : StationId) (f : Arbiter → Arbiter) : (d.onArbiter st f).alarms = d.alarms := rfl
@[simp] theorem Desk.onArbiter_notices (d : Desk) (st : StationId) (f : Arbiter → Arbiter) : (d.onArbiter st f).notices = d.notices := rfl
@[simp] theorem Desk.onArbiter_lookupList (d : Desk) (st : StationId) (f : Arbiter → Arbiter) : (d.onArbiter st f).lookupList = d.lookupList := rfl
@[simp] theorem Desk.onArbiter_uploadList (d : Desk) (st : StationId) (f : Arbiter → Arbiter) : (d.onArbiter st f).uploadList = d.uploadList := rfl
@[simp] theorem Desk.onArbiter_freeIndex (d : Desk) (st : StationId) (f : Arbiter → Arbiter) : (d.onArbiter st f).freeIndex = d.freeIndex := rfl

@[simp] theorem Desk.onPrinter_power (d : Desk) (p : PrinterId) (f : Printer → Printer) : (d.onPrinter p f).power = d.power := rfl
@[simp] theorem Desk.onPrinter_clock (d : Desk) (p : PrinterId) (f : Printer → Printer) : (d.onPrinter p f).clock = d.clock := rfl
@[simp] theorem Desk.onPrinter_tables (d : Desk) (p : PrinterId) (f : Printer → Printer) : (d.onPrinter p f).tables = d.tables := rfl
@[simp] theorem Desk.onPrinter_sweep (d : Desk) (p : PrinterId) (f : Printer → Printer) : (d.onPrinter p f).sweep = d.sweep := rfl
@[simp] theorem Desk.onPrinter_settings (d : Desk) (p : PrinterId) (f : Printer → Printer) : (d.onPrinter p f).settings = d.settings := rfl
@[simp] theorem Desk.onPrinter_stationSettings (d : Desk) (p : PrinterId) (f : Printer → Printer) : (d.onPrinter p f).stationSettings = d.stationSettings := rfl
@[simp] theorem Desk.onPrinter_scan (d : Desk) (p : PrinterId) (f : Printer → Printer) : (d.onPrinter p f).scan = d.scan := rfl
@[simp] theorem Desk.onPrinter_mode (d : Desk) (p : PrinterId) (f : Printer → Printer) : (d.onPrinter p f).mode = d.mode := rfl
@[simp] theorem Desk.onPrinter_closingTimer (d : Desk) (p : PrinterId) (f : Printer → Printer) : (d.onPrinter p f).closingTimer = d.closingTimer := rfl
@[simp] theorem Desk.onPrinter_stations (d : Desk) (p : PrinterId) (f : Printer → Printer) : (d.onPrinter p f).stations = d.stations := rfl
@[simp] theorem Desk.onPrinter_arbiters (d : Desk) (p : PrinterId) (f : Printer → Printer) : (d.onPrinter p f).arbiters = d.arbiters := rfl
@[simp] theorem Desk.onPrinter_slips (d : Desk) (p : PrinterId) (f : Printer → Printer) : (d.onPrinter p f).slips = { d.slips with printers := d.slips.printers.set p (f (d.slips.printers.get p)) } := rfl
@[simp] theorem Desk.onPrinter_journal (d : Desk) (p : PrinterId) (f : Printer → Printer) : (d.onPrinter p f).journal = d.journal := rfl
@[simp] theorem Desk.onPrinter_upload (d : Desk) (p : PrinterId) (f : Printer → Printer) : (d.onPrinter p f).upload = d.upload := rfl
@[simp] theorem Desk.onPrinter_link (d : Desk) (p : PrinterId) (f : Printer → Printer) : (d.onPrinter p f).link = d.link := rfl
@[simp] theorem Desk.onPrinter_alarms (d : Desk) (p : PrinterId) (f : Printer → Printer) : (d.onPrinter p f).alarms = d.alarms := rfl
@[simp] theorem Desk.onPrinter_notices (d : Desk) (p : PrinterId) (f : Printer → Printer) : (d.onPrinter p f).notices = d.notices := rfl
@[simp] theorem Desk.onPrinter_lookupList (d : Desk) (p : PrinterId) (f : Printer → Printer) : (d.onPrinter p f).lookupList = d.lookupList := rfl
@[simp] theorem Desk.onPrinter_uploadList (d : Desk) (p : PrinterId) (f : Printer → Printer) : (d.onPrinter p f).uploadList = d.uploadList := rfl
@[simp] theorem Desk.onPrinter_freeIndex (d : Desk) (p : PrinterId) (f : Printer → Printer) : (d.onPrinter p f).freeIndex = d.freeIndex := rfl

@[simp] theorem Desk.onStationSettings_power (d : Desk) (st : StationId) (f : StationSettings → StationSettings) : (d.onStationSettings st f).power = d.power := rfl
@[simp] theorem Desk.onStationSettings_clock (d : Desk) (st : StationId) (f : StationSettings → StationSettings) : (d.onStationSettings st f).clock = d.clock := rfl
@[simp] theorem Desk.onStationSettings_tables (d : Desk) (st : StationId) (f : StationSettings → StationSettings) : (d.onStationSettings st f).tables = d.tables := rfl
@[simp] theorem Desk.onStationSettings_sweep (d : Desk) (st : StationId) (f : StationSettings → StationSettings) : (d.onStationSettings st f).sweep = d.sweep := rfl
@[simp] theorem Desk.onStationSettings_settings (d : Desk) (st : StationId) (f : StationSettings → StationSettings) : (d.onStationSettings st f).settings = d.settings := rfl
@[simp] theorem Desk.onStationSettings_stationSettings (d : Desk) (st : StationId) (f : StationSettings → StationSettings) : (d.onStationSettings st f).stationSettings = d.stationSettings.set st (f (d.stationSettings.get st)) := rfl
@[simp] theorem Desk.onStationSettings_scan (d : Desk) (st : StationId) (f : StationSettings → StationSettings) : (d.onStationSettings st f).scan = d.scan := rfl
@[simp] theorem Desk.onStationSettings_mode (d : Desk) (st : StationId) (f : StationSettings → StationSettings) : (d.onStationSettings st f).mode = d.mode := rfl
@[simp] theorem Desk.onStationSettings_closingTimer (d : Desk) (st : StationId) (f : StationSettings → StationSettings) : (d.onStationSettings st f).closingTimer = d.closingTimer := rfl
@[simp] theorem Desk.onStationSettings_stations (d : Desk) (st : StationId) (f : StationSettings → StationSettings) : (d.onStationSettings st f).stations = d.stations := rfl
@[simp] theorem Desk.onStationSettings_arbiters (d : Desk) (st : StationId) (f : StationSettings → StationSettings) : (d.onStationSettings st f).arbiters = d.arbiters := rfl
@[simp] theorem Desk.onStationSettings_slips (d : Desk) (st : StationId) (f : StationSettings → StationSettings) : (d.onStationSettings st f).slips = d.slips := rfl
@[simp] theorem Desk.onStationSettings_journal (d : Desk) (st : StationId) (f : StationSettings → StationSettings) : (d.onStationSettings st f).journal = d.journal := rfl
@[simp] theorem Desk.onStationSettings_upload (d : Desk) (st : StationId) (f : StationSettings → StationSettings) : (d.onStationSettings st f).upload = d.upload := rfl
@[simp] theorem Desk.onStationSettings_link (d : Desk) (st : StationId) (f : StationSettings → StationSettings) : (d.onStationSettings st f).link = d.link := rfl
@[simp] theorem Desk.onStationSettings_alarms (d : Desk) (st : StationId) (f : StationSettings → StationSettings) : (d.onStationSettings st f).alarms = d.alarms := rfl
@[simp] theorem Desk.onStationSettings_notices (d : Desk) (st : StationId) (f : StationSettings → StationSettings) : (d.onStationSettings st f).notices = d.notices := rfl
@[simp] theorem Desk.onStationSettings_lookupList (d : Desk) (st : StationId) (f : StationSettings → StationSettings) : (d.onStationSettings st f).lookupList = d.lookupList := rfl
@[simp] theorem Desk.onStationSettings_uploadList (d : Desk) (st : StationId) (f : StationSettings → StationSettings) : (d.onStationSettings st f).uploadList = d.uploadList := rfl
@[simp] theorem Desk.onStationSettings_freeIndex (d : Desk) (st : StationId) (f : StationSettings → StationSettings) : (d.onStationSettings st f).freeIndex = d.freeIndex := rfl

@[simp] theorem Desk.onTables_power (d : Desk) (f : Tables → Tables) : (d.onTables f).power = d.power := rfl
@[simp] theorem Desk.onTables_clock (d : Desk) (f : Tables → Tables) : (d.onTables f).clock = d.clock := rfl
@[simp] theorem Desk.onTables_tables (d : Desk) (f : Tables → Tables) : (d.onTables f).tables = f d.tables := rfl
@[simp] theorem Desk.onTables_sweep (d : Desk) (f : Tables → Tables) : (d.onTables f).sweep = d.sweep := rfl
@[simp] theorem Desk.onTables_settings (d : Desk) (f : Tables → Tables) : (d.onTables f).settings = d.settings := rfl
@[simp] theorem Desk.onTables_stationSettings (d : Desk) (f : Tables → Tables) : (d.onTables f).stationSettings = d.stationSettings := rfl
@[simp] theorem Desk.onTables_scan (d : Desk) (f : Tables → Tables) : (d.onTables f).scan = d.scan := rfl
@[simp] theorem Desk.onTables_mode (d : Desk) (f : Tables → Tables) : (d.onTables f).mode = d.mode := rfl
@[simp] theorem Desk.onTables_closingTimer (d : Desk) (f : Tables → Tables) : (d.onTables f).closingTimer = d.closingTimer := rfl
@[simp] theorem Desk.onTables_stations (d : Desk) (f : Tables → Tables) : (d.onTables f).stations = d.stations := rfl
@[simp] theorem Desk.onTables_arbiters (d : Desk) (f : Tables → Tables) : (d.onTables f).arbiters = d.arbiters := rfl
@[simp] theorem Desk.onTables_slips (d : Desk) (f : Tables → Tables) : (d.onTables f).slips = d.slips := rfl
@[simp] theorem Desk.onTables_journal (d : Desk) (f : Tables → Tables) : (d.onTables f).journal = d.journal := rfl
@[simp] theorem Desk.onTables_upload (d : Desk) (f : Tables → Tables) : (d.onTables f).upload = d.upload := rfl
@[simp] theorem Desk.onTables_link (d : Desk) (f : Tables → Tables) : (d.onTables f).link = d.link := rfl
@[simp] theorem Desk.onTables_alarms (d : Desk) (f : Tables → Tables) : (d.onTables f).alarms = d.alarms := rfl
@[simp] theorem Desk.onTables_notices (d : Desk) (f : Tables → Tables) : (d.onTables f).notices = d.notices := rfl
@[simp] theorem Desk.onTables_lookupList (d : Desk) (f : Tables → Tables) : (d.onTables f).lookupList = d.lookupList := rfl
@[simp] theorem Desk.onTables_uploadList (d : Desk) (f : Tables → Tables) : (d.onTables f).uploadList = d.uploadList := rfl
@[simp] theorem Desk.onTables_freeIndex (d : Desk) (f : Tables → Tables) : (d.onTables f).freeIndex = d.freeIndex := rfl

@[simp] theorem Desk.onSlips_power (d : Desk) (f : Slips → Slips) : (d.onSlips f).power = d.power := rfl
@[simp] theorem Desk.onSlips_clock (d : Desk) (f : Slips → Slips) : (d.onSlips f).clock = d.clock := rfl
@[simp] theorem Desk.onSlips_tables (d : Desk) (f : Slips → Slips) : (d.onSlips f).tables = d.tables := rfl
@[simp] theorem Desk.onSlips_sweep (d : Desk) (f : Slips → Slips) : (d.onSlips f).sweep = d.sweep := rfl
@[simp] theorem Desk.onSlips_settings (d : Desk) (f : Slips → Slips) : (d.onSlips f).settings = d.settings := rfl
@[simp] theorem Desk.onSlips_stationSettings (d : Desk) (f : Slips → Slips) : (d.onSlips f).stationSettings = d.stationSettings := rfl
@[simp] theorem Desk.onSlips_scan (d : Desk) (f : Slips → Slips) : (d.onSlips f).scan = d.scan := rfl
@[simp] theorem Desk.onSlips_mode (d : Desk) (f : Slips → Slips) : (d.onSlips f).mode = d.mode := rfl
@[simp] theorem Desk.onSlips_closingTimer (d : Desk) (f : Slips → Slips) : (d.onSlips f).closingTimer = d.closingTimer := rfl
@[simp] theorem Desk.onSlips_stations (d : Desk) (f : Slips → Slips) : (d.onSlips f).stations = d.stations := rfl
@[simp] theorem Desk.onSlips_arbiters (d : Desk) (f : Slips → Slips) : (d.onSlips f).arbiters = d.arbiters := rfl
@[simp] theorem Desk.onSlips_slips (d : Desk) (f : Slips → Slips) : (d.onSlips f).slips = f d.slips := rfl
@[simp] theorem Desk.onSlips_journal (d : Desk) (f : Slips → Slips) : (d.onSlips f).journal = d.journal := rfl
@[simp] theorem Desk.onSlips_upload (d : Desk) (f : Slips → Slips) : (d.onSlips f).upload = d.upload := rfl
@[simp] theorem Desk.onSlips_link (d : Desk) (f : Slips → Slips) : (d.onSlips f).link = d.link := rfl
@[simp] theorem Desk.onSlips_alarms (d : Desk) (f : Slips → Slips) : (d.onSlips f).alarms = d.alarms := rfl
@[simp] theorem Desk.onSlips_notices (d : Desk) (f : Slips → Slips) : (d.onSlips f).notices = d.notices := rfl
@[simp] theorem Desk.onSlips_lookupList (d : Desk) (f : Slips → Slips) : (d.onSlips f).lookupList = d.lookupList := rfl
@[simp] theorem Desk.onSlips_uploadList (d : Desk) (f : Slips → Slips) : (d.onSlips f).uploadList = d.uploadList := rfl
@[simp] theorem Desk.onSlips_freeIndex (d : Desk) (f : Slips → Slips) : (d.onSlips f).freeIndex = d.freeIndex := rfl

@[simp] theorem Desk.onUpload_power (d : Desk) (f : Upload → Upload) : (d.onUpload f).power = d.power := rfl
@[simp] theorem Desk.onUpload_clock (d : Desk) (f : Upload → Upload) : (d.onUpload f).clock = d.clock := rfl
@[simp] theorem Desk.onUpload_tables (d : Desk) (f : Upload → Upload) : (d.onUpload f).tables = d.tables := rfl
@[simp] theorem Desk.onUpload_sweep (d : Desk) (f : Upload → Upload) : (d.onUpload f).sweep = d.sweep := rfl
@[simp] theorem Desk.onUpload_settings (d : Desk) (f : Upload → Upload) : (d.onUpload f).settings = d.settings := rfl
@[simp] theorem Desk.onUpload_stationSettings (d : Desk) (f : Upload → Upload) : (d.onUpload f).stationSettings = d.stationSettings := rfl
@[simp] theorem Desk.onUpload_scan (d : Desk) (f : Upload → Upload) : (d.onUpload f).scan = d.scan := rfl
@[simp] theorem Desk.onUpload_mode (d : Desk) (f : Upload → Upload) : (d.onUpload f).mode = d.mode := rfl
@[simp] theorem Desk.onUpload_closingTimer (d : Desk) (f : Upload → Upload) : (d.onUpload f).closingTimer = d.closingTimer := rfl
@[simp] theorem Desk.onUpload_stations (d : Desk) (f : Upload → Upload) : (d.onUpload f).stations = d.stations := rfl
@[simp] theorem Desk.onUpload_arbiters (d : Desk) (f : Upload → Upload) : (d.onUpload f).arbiters = d.arbiters := rfl
@[simp] theorem Desk.onUpload_slips (d : Desk) (f : Upload → Upload) : (d.onUpload f).slips = d.slips := rfl
@[simp] theorem Desk.onUpload_journal (d : Desk) (f : Upload → Upload) : (d.onUpload f).journal = d.journal := rfl
@[simp] theorem Desk.onUpload_upload (d : Desk) (f : Upload → Upload) : (d.onUpload f).upload = f d.upload := rfl
@[simp] theorem Desk.onUpload_link (d : Desk) (f : Upload → Upload) : (d.onUpload f).link = d.link := rfl
@[simp] theorem Desk.onUpload_alarms (d : Desk) (f : Upload → Upload) : (d.onUpload f).alarms = d.alarms := rfl
@[simp] theorem Desk.onUpload_notices (d : Desk) (f : Upload → Upload) : (d.onUpload f).notices = d.notices := rfl
@[simp] theorem Desk.onUpload_lookupList (d : Desk) (f : Upload → Upload) : (d.onUpload f).lookupList = d.lookupList := rfl
@[simp] theorem Desk.onUpload_uploadList (d : Desk) (f : Upload → Upload) : (d.onUpload f).uploadList = d.uploadList := rfl
@[simp] theorem Desk.onUpload_freeIndex (d : Desk) (f : Upload → Upload) : (d.onUpload f).freeIndex = d.freeIndex := rfl

@[simp] theorem Desk.handUpload_power (d : Desk) (f : UploadFrame) : (d.handUpload f).power = d.power := rfl
@[simp] theorem Desk.handUpload_clock (d : Desk) (f : UploadFrame) : (d.handUpload f).clock = d.clock := rfl
@[simp] theorem Desk.handUpload_tables (d : Desk) (f : UploadFrame) : (d.handUpload f).tables = d.tables := rfl
@[simp] theorem Desk.handUpload_sweep (d : Desk) (f : UploadFrame) : (d.handUpload f).sweep = d.sweep := rfl
@[simp] theorem Desk.handUpload_settings (d : Desk) (f : UploadFrame) : (d.handUpload f).settings = d.settings := rfl
@[simp] theorem Desk.handUpload_stationSettings (d : Desk) (f : UploadFrame) : (d.handUpload f).stationSettings = d.stationSettings := rfl
@[simp] theorem Desk.handUpload_scan (d : Desk) (f : UploadFrame) : (d.handUpload f).scan = d.scan := rfl
@[simp] theorem Desk.handUpload_mode (d : Desk) (f : UploadFrame) : (d.handUpload f).mode = d.mode := rfl
@[simp] theorem Desk.handUpload_closingTimer (d : Desk) (f : UploadFrame) : (d.handUpload f).closingTimer = d.closingTimer := rfl
@[simp] theorem Desk.handUpload_stations (d : Desk) (f : UploadFrame) : (d.handUpload f).stations = d.stations := rfl
@[simp] theorem Desk.handUpload_arbiters (d : Desk) (f : UploadFrame) : (d.handUpload f).arbiters = d.arbiters := rfl
@[simp] theorem Desk.handUpload_slips (d : Desk) (f : UploadFrame) : (d.handUpload f).slips = d.slips := rfl
@[simp] theorem Desk.handUpload_journal (d : Desk) (f : UploadFrame) : (d.handUpload f).journal = d.journal := rfl
@[simp] theorem Desk.handUpload_upload (d : Desk) (f : UploadFrame) : (d.handUpload f).upload = d.upload := rfl
@[simp] theorem Desk.handUpload_link (d : Desk) (f : UploadFrame) : (d.handUpload f).link = d.link := rfl
@[simp] theorem Desk.handUpload_alarms (d : Desk) (f : UploadFrame) : (d.handUpload f).alarms = d.alarms := rfl
@[simp] theorem Desk.handUpload_notices (d : Desk) (f : UploadFrame) : (d.handUpload f).notices = d.notices := rfl
@[simp] theorem Desk.handUpload_lookupList (d : Desk) (f : UploadFrame) : (d.handUpload f).lookupList = d.lookupList := rfl
@[simp] theorem Desk.handUpload_uploadList (d : Desk) (f : UploadFrame) : (d.handUpload f).uploadList = d.uploadList ++ [f] := rfl
@[simp] theorem Desk.handUpload_freeIndex (d : Desk) (f : UploadFrame) : (d.handUpload f).freeIndex = d.freeIndex := rfl

/-! ## The state -/

@[simp] theorem State.onDesk_desk (s : State) (f : Desk → Desk) : (s.onDesk f).desk = f s.desk := rfl
@[simp] theorem State.onDesk_line (s : State) (f : Desk → Desk) : (s.onDesk f).line = s.line := rfl
@[simp] theorem State.onDesk_pending (s : State) (f : Desk → Desk) : (s.onDesk f).pending = s.pending := rfl
@[simp] theorem State.onLine_desk (s : State) (f : LinkLine → LinkLine) : (s.onLine f).desk = s.desk := rfl
@[simp] theorem State.onLine_line (s : State) (f : LinkLine → LinkLine) : (s.onLine f).line = f s.line := rfl
@[simp] theorem State.onLine_pending (s : State) (f : LinkLine → LinkLine) : (s.onLine f).pending = s.pending := rfl
@[simp] theorem State.queueReply_desk (s : State) (r : Reply) : (s.queueReply r).desk = s.desk := rfl
@[simp] theorem State.queueReply_line (s : State) (r : Reply) :
    (s.queueReply r).line = { s.line with replies := s.line.replies ++ [r] } := rfl
@[simp] theorem State.queueReply_pending (s : State) (r : Reply) : (s.queueReply r).pending = s.pending := rfl

/-- The arbiter takes frames from the replies and three of the desk's lists alone. -/
theorem State.transmit_pending (s : State) : s.transmit.pending = s.pending := by
  unfold State.transmit
  split
  · rfl
  · split <;> rfl

end Sys2Proof.Machine
end

