-- ==== Sys2Proof/Laws/Tables.lean ====
section
/-! SUPPORT. The sorted tables: what putting, erasing and finding an entry do, and that the canonical form is kept. -/

namespace Sys2Proof.Machine

variable {α : Type} {key : α → Nat}

theorem Table.mem_put (e : α) (t : List α) (x : α) (h : x ∈ Table.put key e t) : x = e ∨ x ∈ t := by
  induction t with
  | nil => simpa [Table.put] using h
  | cons a as ih =>
    simp only [Table.put] at h
    split at h
    · simpa using h
    · split at h
      · rcases List.mem_cons.1 h with h | h <;> simp [h]
      · rcases List.mem_cons.1 h with h | h
        · simp [h]
        · rcases ih h with h | h <;> simp [h]

theorem Table.sorted_put (e : α) (t : List α) (h : Table.Sorted key t) : Table.Sorted key (Table.put key e t) := by
  induction t with
  | nil => simp [Table.put]
  | cons a as ih =>
    have ha := List.pairwise_cons.1 h
    simp only [Table.put]
    split
    · next hlt =>
      refine List.pairwise_cons.2 ⟨fun x hx => ?_, h⟩
      rcases List.mem_cons.1 hx with hx | hx
      · exact hx ▸ hlt
      · exact Nat.lt_trans hlt (ha.1 x hx)
    · split
      · next heq => exact List.pairwise_cons.2 ⟨fun x hx => heq ▸ ha.1 x hx, ha.2⟩
      · next h1 h2 =>
        refine List.pairwise_cons.2 ⟨fun x hx => ?_, ih ha.2⟩
        rcases Table.mem_put e as x hx with hx | hx
        · subst hx; omega
        · exact ha.1 x hx

theorem Table.sorted_filter (p : α → Bool) (t : List α) (h : Table.Sorted key t) : Table.Sorted key (t.filter p) :=
  List.Pairwise.filter p h

theorem Table.sorted_erase (k : Nat) (t : List α) (h : Table.Sorted key t) : Table.Sorted key (Table.erase key k t) :=
  Table.sorted_filter _ t h

theorem Table.find_put_same (e : α) (t : List α) : Table.find key (key e) (Table.put key e t) = some e := by
  induction t with
  | nil => simp [Table.put, Table.find]
  | cons a as ih =>
    simp only [Table.put]
    split
    · simp [Table.find]
    · split
      · simp [Table.find]
      · next h1 h2 =>
        have hne : (key a == key e) = false := by simpa using fun h => h2 h.symm
        simpa [Table.find, List.find?_cons, hne] using ih

theorem Table.find_put_other (e : α) (t : List α) {k : Nat} (hk : k ≠ key e) :
    Table.find key k (Table.put key e t) = Table.find key k t := by
  have he : (key e == k) = false := by simpa using fun h => hk h.symm
  induction t with
  | nil => simp [Table.put, Table.find, he]
  | cons a as ih =>
    simp only [Table.put]
    split
    · simp [Table.find, List.find?_cons, he]
    · split
      · next heq => simp [Table.find, he, ← heq]
      · simp only [Table.find, List.find?_cons] at ih ⊢
        rw [ih]

theorem Table.find_erase_same (k : Nat) (t : List α) : Table.find key k (Table.erase key k t) = none := by
  simp [Table.find, Table.erase, List.find?_eq_none]

theorem Table.find_erase_other (t : List α) {k j : Nat} (h : j ≠ k) :
    Table.find key j (Table.erase key k t) = Table.find key j t := by
  induction t with
  | nil => rfl
  | cons a as ih =>
    simp only [Table.find, Table.erase, List.filter_cons, List.find?_cons] at ih ⊢
    by_cases hk : key a = k
    · have hj : (key a == j) = false := by simpa using fun hj => h (hj.symm.trans hk)
      have hn : (key a != k) = false := by simp [hk]
      rw [hn, hj]
      exact ih
    · have hn : (key a != k) = true := by simpa using hk
      rw [hn]
      simp only [if_true, List.find?_cons]
      rw [ih]

/-- What is found is in the table, under the key asked for. -/
theorem Table.find_some {k : Nat} {t : List α} {e : α} (h : Table.find key k t = some e) : e ∈ t ∧ key e = k := by
  have h1 := List.mem_of_find?_eq_some h
  have h2 := List.find?_some h
  exact ⟨h1, by simpa using h2⟩

/-- In a sorted table an entry is found under its key. -/
theorem Table.find_of_mem {t : List α} {e : α} (hs : Table.Sorted key t) (h : e ∈ t) : Table.find key (key e) t = some e := by
  induction t with
  | nil => cases h
  | cons a as ih =>
    have ha := List.pairwise_cons.1 hs
    rcases List.mem_cons.1 h with rfl | h
    · simp [Table.find]
    · have hne : (key a == key e) = false := by
        have := ha.1 e h
        simp; omega
      simpa [Table.find, List.find?_cons, hne] using ih ha.2 h

/-! ## Codes: the rank of a code is its own -/

theorem Code.foldl_value (c : Code) : ∀ n : Nat,
    c.foldl (fun n d => 10 * n + d.val) n = n * 10 ^ c.length + Code.value c := by
  induction c with
  | nil => intro n; simp [Code.value]
  | cons x c ih =>
    intro n
    have h1 := ih (10 * n + x.val)
    have h2 := ih (10 * 0 + x.val)
    simp only [Code.value, List.foldl_cons, List.length_cons, Nat.pow_succ] at h1 h2 ⊢
    rw [h1, h2, Nat.add_mul, Nat.mul_zero, Nat.zero_add, Nat.add_assoc]
    congr 1
    rw [Nat.mul_comm 10 n, Nat.mul_assoc, Nat.mul_comm 10]

theorem Code.value_cons (x : Digit) (c : Code) : Code.value (x :: c) = x.val * 10 ^ c.length + Code.value c := by
  have h := Code.foldl_value c (10 * 0 + x.val)
  simpa [Code.value] using h

theorem Code.value_lt (c : Code) : Code.value c < 10 ^ c.length := by
  induction c with
  | nil => simp [Code.value]
  | cons x c ih =>
    rw [Code.value_cons, List.length_cons, Nat.pow_succ]
    have h := Nat.mul_le_mul_right (10 ^ c.length) (Nat.le_of_lt_succ x.isLt)
    omega

theorem Code.value_inj : ∀ (a b : Code), a.length = b.length → Code.value a = Code.value b → a = b := by
  intro a
  induction a with
  | nil => intro b h _; exact (List.length_eq_zero_iff.1 h.symm).symm
  | cons x a ih =>
    intro b h hv
    cases b with
    | nil => simp at h
    | cons y b =>
      have hl : a.length = b.length := by simpa using h
      rw [Code.value_cons, Code.value_cons, hl] at hv
      have ha := Code.value_lt a
      have hb := Code.value_lt b
      rw [hl] at ha
      have hp : 0 < 10 ^ b.length := Nat.pow_pos (by decide)
      have hx : x.val = y.val := by
        have h1 : (x.val * 10 ^ b.length + Code.value a) / 10 ^ b.length = x.val := by
          rw [Nat.mul_comm, Nat.mul_add_div hp, Nat.div_eq_of_lt ha, Nat.add_zero]
        have h2 : (y.val * 10 ^ b.length + Code.value b) / 10 ^ b.length = y.val := by
          rw [Nat.mul_comm, Nat.mul_add_div hp, Nat.div_eq_of_lt hb, Nat.add_zero]
        rw [← h1, hv, h2]
      rw [hx] at hv
      rw [ih b hl (Nat.add_left_cancel hv), Fin.ext hx]

theorem Code.rank_inj {a b : Code} (h : Code.rank a = Code.rank b) : a = b := by
  have ha := Code.value_lt a
  have hb := Code.value_lt b
  unfold Code.rank at h
  have hl : a.length = b.length := by
    rcases Nat.lt_trichotomy a.length b.length with hlt | heq | hgt
    · have : 10 ^ (a.length + 1) ≤ 10 ^ b.length := Nat.pow_le_pow_right (by decide) hlt
      rw [Nat.pow_succ] at this
      omega
    · exact heq
    · have : 10 ^ (b.length + 1) ≤ 10 ^ a.length := Nat.pow_le_pow_right (by decide) hgt
      rw [Nat.pow_succ] at this
      omega
  rw [hl] at h
  exact Code.value_inj a b hl (by omega)

end Sys2Proof.Machine
end

