-- ==== Sys2Proof/Laws/Frames.lean ====
section
/-! SUPPORT. What each shared operation of the desk leaves unchanged, field by field: a proof about one field of the desk passes
over an operation that does not write it. -/

namespace Sys2Proof.Machine

/-- An operation made at each station keeps what it keeps at one. -/
theorem Desk.eachStation_keeps {β : Type} (π : Desk → β) (f : Desk → StationId → Desk) (h : ∀ d st, π (f d st) = π d) (d : Desk) :
    π (d.eachStation f) = π d := by
  have hl : ∀ (l : List StationId) (d : Desk), π (l.foldl f d) = π d := by
    intro l
    induction l with
    | nil => intro d; rfl
    | cons st l ih => intro d; rw [List.foldl_cons, ih, h]
  exact hl _ d

/-- A repeated operation keeps what it keeps once. -/
theorem Desk.repeat_keeps {β : Type} (π : Desk → β) (f : Desk → Desk) (h : ∀ d, π (f d) = π d) (n : Nat) (d : Desk) :
    π (Nat.repeat f n d) = π d := by
  induction n with
  | zero => rfl
  | succ n ih => exact (h _).trans ih

/-- A selection leaves the pending set as it is, whatever it comes to show. -/
@[simp] theorem Arbiter.reselect_pending (x : ArbiterSettings) (o : Option Source) (a : Arbiter) :
    (a.reselect x o).pending = a.pending := by
  simp only [Arbiter.reselect]; split <;> rfl

/-- A selection that gives the source already shown, of which no occurrence was taken, changes nothing. -/
theorem Arbiter.reselect_stands (x : ArbiterSettings) (o : Option Source) (a : Arbiter)
    (same : (selectPrompt x.precedence x.masks a.pending).map Prompt.source = a.shown)
    (quiet : o = none ∨ o ≠ a.shown) : a.reselect x o = a := by
  rcases quiet with h | h <;> simp_all [Arbiter.reselect]

@[simp] theorem Desk.post_keeps (d : Desk) (st : StationId) (p : Prompt) :
    (d.post st p).power = d.power ∧ (d.post st p).clock = d.clock ∧ (d.post st p).tables = d.tables ∧ (d.post st
    p).sweep = d.sweep ∧ (d.post st p).settings = d.settings ∧ (d.post st p).stationSettings = d.stationSettings ∧
    (d.post st p).scan = d.scan ∧ (d.post st p).mode = d.mode ∧ (d.post st p).closingTimer = d.closingTimer ∧ (d.post
    st p).stations = d.stations ∧ (d.post st p).slips = d.slips ∧ (d.post st p).journal = d.journal ∧ (d.post st
    p).upload = d.upload ∧ (d.post st p).link = d.link ∧ (d.post st p).alarms = d.alarms ∧ (d.post st p).notices =
    d.notices ∧ (d.post st p).lookupList = d.lookupList ∧ (d.post st p).uploadList = d.uploadList ∧ (d.post st
    p).freeIndex = d.freeIndex := by
  simp [Desk.post]

@[simp] theorem Desk.removePrompt_keeps (d : Desk) (st : StationId) (s : Source) :
    (d.removePrompt st s).power = d.power ∧ (d.removePrompt st s).clock = d.clock ∧ (d.removePrompt st s).tables =
    d.tables ∧ (d.removePrompt st s).sweep = d.sweep ∧ (d.removePrompt st s).settings = d.settings ∧ (d.removePrompt
    st s).stationSettings = d.stationSettings ∧ (d.removePrompt st s).scan = d.scan ∧ (d.removePrompt st s).mode =
    d.mode ∧ (d.removePrompt st s).closingTimer = d.closingTimer ∧ (d.removePrompt st s).stations = d.stations ∧
    (d.removePrompt st s).slips = d.slips ∧ (d.removePrompt st s).journal = d.journal ∧ (d.removePrompt st s).upload =
    d.upload ∧ (d.removePrompt st s).link = d.link ∧ (d.removePrompt st s).alarms = d.alarms ∧ (d.removePrompt st
    s).notices = d.notices ∧ (d.removePrompt st s).lookupList = d.lookupList ∧ (d.removePrompt st s).uploadList =
    d.uploadList ∧ (d.removePrompt st s).freeIndex = d.freeIndex := by
  simp [Desk.removePrompt]

@[simp] theorem Desk.reselect_keeps (d : Desk) (st : StationId) :
    (d.reselect st).power = d.power ∧ (d.reselect st).clock = d.clock ∧ (d.reselect st).tables = d.tables ∧
    (d.reselect st).sweep = d.sweep ∧ (d.reselect st).settings = d.settings ∧ (d.reselect st).stationSettings =
    d.stationSettings ∧ (d.reselect st).scan = d.scan ∧ (d.reselect st).mode = d.mode ∧ (d.reselect st).closingTimer =
    d.closingTimer ∧ (d.reselect st).stations = d.stations ∧ (d.reselect st).slips = d.slips ∧ (d.reselect st).journal
    = d.journal ∧ (d.reselect st).upload = d.upload ∧ (d.reselect st).link = d.link ∧ (d.reselect st).alarms =
    d.alarms ∧ (d.reselect st).notices = d.notices ∧ (d.reselect st).lookupList = d.lookupList ∧ (d.reselect
    st).uploadList = d.uploadList ∧ (d.reselect st).freeIndex = d.freeIndex := by
  simp [Desk.reselect]

@[simp] theorem Desk.putBorrower_keeps (d : Desk) (b : Borrower) :
    (d.putBorrower b).power = d.power ∧ (d.putBorrower b).clock = d.clock ∧ (d.putBorrower b).sweep = d.sweep ∧
    (d.putBorrower b).settings = d.settings ∧ (d.putBorrower b).stationSettings = d.stationSettings ∧ (d.putBorrower
    b).scan = d.scan ∧ (d.putBorrower b).mode = d.mode ∧ (d.putBorrower b).closingTimer = d.closingTimer ∧
    (d.putBorrower b).stations = d.stations ∧ (d.putBorrower b).arbiters = d.arbiters ∧ (d.putBorrower b).slips =
    d.slips ∧ (d.putBorrower b).journal = d.journal ∧ (d.putBorrower b).upload = d.upload ∧ (d.putBorrower b).link =
    d.link ∧ (d.putBorrower b).alarms = d.alarms ∧ (d.putBorrower b).notices = d.notices ∧ (d.putBorrower
    b).lookupList = d.lookupList ∧ (d.putBorrower b).uploadList = d.uploadList ∧ (d.putBorrower b).freeIndex =
    d.freeIndex := by
  simp [Desk.putBorrower]

@[simp] theorem Desk.putItem_keeps (d : Desk) (e : ItemEntry) :
    (d.putItem e).power = d.power ∧ (d.putItem e).clock = d.clock ∧ (d.putItem e).sweep = d.sweep ∧ (d.putItem
    e).settings = d.settings ∧ (d.putItem e).stationSettings = d.stationSettings ∧ (d.putItem e).scan = d.scan ∧
    (d.putItem e).mode = d.mode ∧ (d.putItem e).closingTimer = d.closingTimer ∧ (d.putItem e).stations = d.stations ∧
    (d.putItem e).arbiters = d.arbiters ∧ (d.putItem e).slips = d.slips ∧ (d.putItem e).journal = d.journal ∧
    (d.putItem e).upload = d.upload ∧ (d.putItem e).link = d.link ∧ (d.putItem e).alarms = d.alarms ∧ (d.putItem
    e).notices = d.notices ∧ (d.putItem e).lookupList = d.lookupList ∧ (d.putItem e).uploadList = d.uploadList ∧
    (d.putItem e).freeIndex = d.freeIndex := by
  simp [Desk.putItem]

@[simp] theorem Desk.eraseItem_keeps (d : Desk) (c : Code) :
    (d.eraseItem c).power = d.power ∧ (d.eraseItem c).clock = d.clock ∧ (d.eraseItem c).sweep = d.sweep ∧ (d.eraseItem
    c).settings = d.settings ∧ (d.eraseItem c).stationSettings = d.stationSettings ∧ (d.eraseItem c).scan = d.scan ∧
    (d.eraseItem c).mode = d.mode ∧ (d.eraseItem c).closingTimer = d.closingTimer ∧ (d.eraseItem c).stations =
    d.stations ∧ (d.eraseItem c).arbiters = d.arbiters ∧ (d.eraseItem c).slips = d.slips ∧ (d.eraseItem c).journal =
    d.journal ∧ (d.eraseItem c).upload = d.upload ∧ (d.eraseItem c).link = d.link ∧ (d.eraseItem c).alarms = d.alarms
    ∧ (d.eraseItem c).notices = d.notices ∧ (d.eraseItem c).lookupList = d.lookupList ∧ (d.eraseItem c).uploadList =
    d.uploadList ∧ (d.eraseItem c).freeIndex = d.freeIndex := by
  simp [Desk.eraseItem]

@[simp] theorem Desk.onSession_keeps (d : Desk) (st : StationId) (f : Session → Session) :
    (d.onSession st f).power = d.power ∧ (d.onSession st f).clock = d.clock ∧ (d.onSession st f).tables = d.tables ∧
    (d.onSession st f).sweep = d.sweep ∧ (d.onSession st f).settings = d.settings ∧ (d.onSession st f).stationSettings
    = d.stationSettings ∧ (d.onSession st f).scan = d.scan ∧ (d.onSession st f).mode = d.mode ∧ (d.onSession st
    f).closingTimer = d.closingTimer ∧ (d.onSession st f).arbiters = d.arbiters ∧ (d.onSession st f).slips = d.slips ∧
    (d.onSession st f).journal = d.journal ∧ (d.onSession st f).upload = d.upload ∧ (d.onSession st f).link = d.link ∧
    (d.onSession st f).alarms = d.alarms ∧ (d.onSession st f).notices = d.notices ∧ (d.onSession st f).lookupList =
    d.lookupList ∧ (d.onSession st f).uploadList = d.uploadList ∧ (d.onSession st f).freeIndex = d.freeIndex := by
  simp [Desk.onSession]

@[simp] theorem Desk.raiseNotice_keeps (d : Desk) (b : NoticeBody) :
    (d.raiseNotice b).power = d.power ∧ (d.raiseNotice b).clock = d.clock ∧ (d.raiseNotice b).tables = d.tables ∧
    (d.raiseNotice b).sweep = d.sweep ∧ (d.raiseNotice b).settings = d.settings ∧ (d.raiseNotice b).stationSettings =
    d.stationSettings ∧ (d.raiseNotice b).scan = d.scan ∧ (d.raiseNotice b).mode = d.mode ∧ (d.raiseNotice
    b).closingTimer = d.closingTimer ∧ (d.raiseNotice b).stations = d.stations ∧ (d.raiseNotice b).arbiters =
    d.arbiters ∧ (d.raiseNotice b).slips = d.slips ∧ (d.raiseNotice b).journal = d.journal ∧ (d.raiseNotice b).upload
    = d.upload ∧ (d.raiseNotice b).link = d.link ∧ (d.raiseNotice b).alarms = d.alarms ∧ (d.raiseNotice b).lookupList
    = d.lookupList ∧ (d.raiseNotice b).uploadList = d.uploadList ∧ (d.raiseNotice b).freeIndex = d.freeIndex := by
  unfold Desk.raiseNotice; split <;> simp

@[simp] theorem Desk.raiseAlarm_keeps (d : Desk) (a : AlarmId) :
    (d.raiseAlarm a).power = d.power ∧ (d.raiseAlarm a).clock = d.clock ∧ (d.raiseAlarm a).tables = d.tables ∧
    (d.raiseAlarm a).sweep = d.sweep ∧ (d.raiseAlarm a).settings = d.settings ∧ (d.raiseAlarm a).stationSettings =
    d.stationSettings ∧ (d.raiseAlarm a).scan = d.scan ∧ (d.raiseAlarm a).mode = d.mode ∧ (d.raiseAlarm
    a).closingTimer = d.closingTimer ∧ (d.raiseAlarm a).stations = d.stations ∧ (d.raiseAlarm a).arbiters = d.arbiters
    ∧ (d.raiseAlarm a).slips = d.slips ∧ (d.raiseAlarm a).journal = d.journal ∧ (d.raiseAlarm a).upload = d.upload ∧
    (d.raiseAlarm a).link = d.link ∧ (d.raiseAlarm a).lookupList = d.lookupList ∧ (d.raiseAlarm a).uploadList =
    d.uploadList ∧ (d.raiseAlarm a).freeIndex = d.freeIndex := by
  simp [Desk.raiseAlarm]

@[simp] theorem Desk.reportCondition_keeps (d : Desk) (a : AlarmId) (now : Bool) :
    (d.reportCondition a now).power = d.power ∧ (d.reportCondition a now).clock = d.clock ∧ (d.reportCondition a
    now).tables = d.tables ∧ (d.reportCondition a now).sweep = d.sweep ∧ (d.reportCondition a now).settings =
    d.settings ∧ (d.reportCondition a now).stationSettings = d.stationSettings ∧ (d.reportCondition a now).scan =
    d.scan ∧ (d.reportCondition a now).mode = d.mode ∧ (d.reportCondition a now).closingTimer = d.closingTimer ∧
    (d.reportCondition a now).stations = d.stations ∧ (d.reportCondition a now).arbiters = d.arbiters ∧
    (d.reportCondition a now).slips = d.slips ∧ (d.reportCondition a now).journal = d.journal ∧ (d.reportCondition a
    now).upload = d.upload ∧ (d.reportCondition a now).link = d.link ∧ (d.reportCondition a now).lookupList =
    d.lookupList ∧ (d.reportCondition a now).uploadList = d.uploadList ∧ (d.reportCondition a now).freeIndex =
    d.freeIndex := by
  simp only [Desk.reportCondition]; split <;> (try split) <;> simp

@[simp] theorem Desk.reportSync_keeps (d : Desk) :
    d.reportSync.power = d.power ∧ d.reportSync.clock = d.clock ∧ d.reportSync.tables = d.tables ∧ d.reportSync.sweep
    = d.sweep ∧ d.reportSync.settings = d.settings ∧ d.reportSync.stationSettings = d.stationSettings ∧
    d.reportSync.scan = d.scan ∧ d.reportSync.mode = d.mode ∧ d.reportSync.closingTimer = d.closingTimer ∧
    d.reportSync.stations = d.stations ∧ d.reportSync.arbiters = d.arbiters ∧ d.reportSync.slips = d.slips ∧
    d.reportSync.journal = d.journal ∧ d.reportSync.upload = d.upload ∧ d.reportSync.link = d.link ∧
    d.reportSync.lookupList = d.lookupList ∧ d.reportSync.uploadList = d.uploadList ∧ d.reportSync.freeIndex =
    d.freeIndex := by
  simp [Desk.reportSync]

@[simp] theorem Desk.tellJournalFull_keeps (d : Desk) (x y : Bool) :
    (d.tellJournalFull x y).power = d.power ∧ (d.tellJournalFull x y).clock = d.clock ∧ (d.tellJournalFull x y).tables
    = d.tables ∧ (d.tellJournalFull x y).sweep = d.sweep ∧ (d.tellJournalFull x y).settings = d.settings ∧
    (d.tellJournalFull x y).stationSettings = d.stationSettings ∧ (d.tellJournalFull x y).scan = d.scan ∧
    (d.tellJournalFull x y).mode = d.mode ∧ (d.tellJournalFull x y).closingTimer = d.closingTimer ∧ (d.tellJournalFull
    x y).stations = d.stations ∧ (d.tellJournalFull x y).slips = d.slips ∧ (d.tellJournalFull x y).journal = d.journal
    ∧ (d.tellJournalFull x y).upload = d.upload ∧ (d.tellJournalFull x y).link = d.link ∧ (d.tellJournalFull x
    y).alarms = d.alarms ∧ (d.tellJournalFull x y).notices = d.notices ∧ (d.tellJournalFull x y).lookupList =
    d.lookupList ∧ (d.tellJournalFull x y).uploadList = d.uploadList ∧ (d.tellJournalFull x y).freeIndex = d.freeIndex := by
  unfold Desk.tellJournalFull
  split
  · simpa using Desk.eachStation_keeps
      (fun d : Desk => (d.power, d.clock, d.tables, d.sweep, d.settings, d.stationSettings, d.scan, d.mode,
      d.closingTimer, d.stations, d.slips, d.journal, d.upload, d.link, d.alarms, d.notices, d.lookupList,
      d.uploadList, d.freeIndex)) _
      (fun d st => by split <;> simp) d
  · split
    · simpa using Desk.eachStation_keeps
        (fun d : Desk => (d.power, d.clock, d.tables, d.sweep, d.settings, d.stationSettings, d.scan, d.mode,
      d.closingTimer, d.stations, d.slips, d.journal, d.upload, d.link, d.alarms, d.notices, d.lookupList,
      d.uploadList, d.freeIndex)) _
        (fun d st => by split <;> simp) d
    · simp

@[simp] theorem Desk.evaluateJournal_keeps (d : Desk) :
    d.evaluateJournal.power = d.power ∧ d.evaluateJournal.clock = d.clock ∧ d.evaluateJournal.tables = d.tables ∧
    d.evaluateJournal.sweep = d.sweep ∧ d.evaluateJournal.settings = d.settings ∧ d.evaluateJournal.stationSettings =
    d.stationSettings ∧ d.evaluateJournal.scan = d.scan ∧ d.evaluateJournal.mode = d.mode ∧
    d.evaluateJournal.closingTimer = d.closingTimer ∧ d.evaluateJournal.stations = d.stations ∧
    d.evaluateJournal.slips = d.slips ∧ d.evaluateJournal.journal = d.journal ∧ d.evaluateJournal.upload = d.upload ∧
    d.evaluateJournal.link = d.link ∧ d.evaluateJournal.lookupList = d.lookupList ∧ d.evaluateJournal.uploadList =
    d.uploadList ∧ d.evaluateJournal.freeIndex = d.freeIndex := by
  simp [Desk.evaluateJournal]

@[simp] theorem Desk.append_keeps (d : Desk) (st : Option StationId) (f : RecordFlags) (b : RecordBody) :
    (d.append st f b).power = d.power ∧ (d.append st f b).clock = d.clock ∧ (d.append st f b).tables = d.tables ∧
    (d.append st f b).sweep = d.sweep ∧ (d.append st f b).settings = d.settings ∧ (d.append st f b).stationSettings =
    d.stationSettings ∧ (d.append st f b).scan = d.scan ∧ (d.append st f b).mode = d.mode ∧ (d.append st f
    b).closingTimer = d.closingTimer ∧ (d.append st f b).stations = d.stations ∧ (d.append st f b).slips = d.slips ∧
    (d.append st f b).upload = d.upload ∧ (d.append st f b).link = d.link ∧ (d.append st f b).lookupList =
    d.lookupList ∧ (d.append st f b).uploadList = d.uploadList ∧ (d.append st f b).freeIndex = d.freeIndex := by
  unfold Desk.append; split <;> (try split) <;> simp

@[simp] theorem Desk.appendPlain_keeps (d : Desk) (st : Option StationId) (b : RecordBody) :
    (d.appendPlain st b).power = d.power ∧ (d.appendPlain st b).clock = d.clock ∧ (d.appendPlain st b).tables =
    d.tables ∧ (d.appendPlain st b).sweep = d.sweep ∧ (d.appendPlain st b).settings = d.settings ∧ (d.appendPlain st
    b).stationSettings = d.stationSettings ∧ (d.appendPlain st b).scan = d.scan ∧ (d.appendPlain st b).mode = d.mode ∧
    (d.appendPlain st b).closingTimer = d.closingTimer ∧ (d.appendPlain st b).stations = d.stations ∧ (d.appendPlain
    st b).slips = d.slips ∧ (d.appendPlain st b).upload = d.upload ∧ (d.appendPlain st b).link = d.link ∧
    (d.appendPlain st b).lookupList = d.lookupList ∧ (d.appendPlain st b).uploadList = d.uploadList ∧ (d.appendPlain
    st b).freeIndex = d.freeIndex := by
  simp [Desk.appendPlain]

@[simp] theorem Desk.release_keeps (d : Desk) (n k : Nat) :
    (d.release n k).power = d.power ∧ (d.release n k).clock = d.clock ∧ (d.release n k).tables = d.tables ∧ (d.release
    n k).sweep = d.sweep ∧ (d.release n k).settings = d.settings ∧ (d.release n k).stationSettings = d.stationSettings
    ∧ (d.release n k).scan = d.scan ∧ (d.release n k).mode = d.mode ∧ (d.release n k).closingTimer = d.closingTimer ∧
    (d.release n k).stations = d.stations ∧ (d.release n k).slips = d.slips ∧ (d.release n k).upload = d.upload ∧
    (d.release n k).link = d.link ∧ (d.release n k).lookupList = d.lookupList ∧ (d.release n k).uploadList =
    d.uploadList ∧ (d.release n k).freeIndex = d.freeIndex := by
  unfold Desk.release; split <;> simp

@[simp] theorem Desk.changeBorrower_keeps (d : Desk) (c : Code) (f : Borrower → Borrower) :
    (d.changeBorrower c f).power = d.power ∧ (d.changeBorrower c f).clock = d.clock ∧ (d.changeBorrower c f).sweep =
    d.sweep ∧ (d.changeBorrower c f).settings = d.settings ∧ (d.changeBorrower c f).stationSettings =
    d.stationSettings ∧ (d.changeBorrower c f).scan = d.scan ∧ (d.changeBorrower c f).mode = d.mode ∧
    (d.changeBorrower c f).closingTimer = d.closingTimer ∧ (d.changeBorrower c f).stations = d.stations ∧
    (d.changeBorrower c f).arbiters = d.arbiters ∧ (d.changeBorrower c f).slips = d.slips ∧ (d.changeBorrower c
    f).journal = d.journal ∧ (d.changeBorrower c f).upload = d.upload ∧ (d.changeBorrower c f).link = d.link ∧
    (d.changeBorrower c f).alarms = d.alarms ∧ (d.changeBorrower c f).notices = d.notices ∧ (d.changeBorrower c
    f).lookupList = d.lookupList ∧ (d.changeBorrower c f).uploadList = d.uploadList ∧ (d.changeBorrower c f).freeIndex
    = d.freeIndex := by
  unfold Desk.changeBorrower; split <;> simp

@[simp] theorem Desk.lapse_keeps (d : Desk) (st : Option StationId) (c h : Code) (n : Nat) :
    (d.lapse st c h n).power = d.power ∧ (d.lapse st c h n).clock = d.clock ∧ (d.lapse st c h n).sweep = d.sweep ∧
    (d.lapse st c h n).settings = d.settings ∧ (d.lapse st c h n).stationSettings = d.stationSettings ∧ (d.lapse st c
    h n).scan = d.scan ∧ (d.lapse st c h n).mode = d.mode ∧ (d.lapse st c h n).closingTimer = d.closingTimer ∧
    (d.lapse st c h n).stations = d.stations ∧ (d.lapse st c h n).slips = d.slips ∧ (d.lapse st c h n).upload =
    d.upload ∧ (d.lapse st c h n).link = d.link ∧ (d.lapse st c h n).lookupList = d.lookupList ∧ (d.lapse st c h
    n).uploadList = d.uploadList ∧ (d.lapse st c h n).freeIndex = d.freeIndex := by
  simp [Desk.lapse]

@[simp] theorem Desk.lapseAtRead_keeps (d : Desk) (st : StationId) (c : Code) :
    (d.lapseAtRead st c).power = d.power ∧ (d.lapseAtRead st c).clock = d.clock ∧ (d.lapseAtRead st c).sweep = d.sweep
    ∧ (d.lapseAtRead st c).settings = d.settings ∧ (d.lapseAtRead st c).stationSettings = d.stationSettings ∧
    (d.lapseAtRead st c).scan = d.scan ∧ (d.lapseAtRead st c).mode = d.mode ∧ (d.lapseAtRead st c).closingTimer =
    d.closingTimer ∧ (d.lapseAtRead st c).stations = d.stations ∧ (d.lapseAtRead st c).slips = d.slips ∧
    (d.lapseAtRead st c).upload = d.upload ∧ (d.lapseAtRead st c).link = d.link ∧ (d.lapseAtRead st c).lookupList =
    d.lookupList ∧ (d.lapseAtRead st c).uploadList = d.uploadList ∧ (d.lapseAtRead st c).freeIndex = d.freeIndex := by
  unfold Desk.lapseAtRead; split <;> (try split) <;> simp

@[simp] theorem Desk.tellStation_keeps (d : Desk) (st : StationId) :
    (d.tellStation st).power = d.power ∧ (d.tellStation st).clock = d.clock ∧ (d.tellStation st).tables = d.tables ∧
    (d.tellStation st).sweep = d.sweep ∧ (d.tellStation st).settings = d.settings ∧ (d.tellStation st).stationSettings
    = d.stationSettings ∧ (d.tellStation st).scan = d.scan ∧ (d.tellStation st).mode = d.mode ∧ (d.tellStation
    st).closingTimer = d.closingTimer ∧ (d.tellStation st).stations = d.stations ∧ (d.tellStation st).slips = d.slips
    ∧ (d.tellStation st).journal = d.journal ∧ (d.tellStation st).upload = d.upload ∧ (d.tellStation st).link = d.link
    ∧ (d.tellStation st).alarms = d.alarms ∧ (d.tellStation st).notices = d.notices ∧ (d.tellStation st).lookupList =
    d.lookupList ∧ (d.tellStation st).uploadList = d.uploadList ∧ (d.tellStation st).freeIndex = d.freeIndex := by
  unfold Desk.tellStation; split <;> split <;> simp

@[simp] theorem Desk.setContext_keeps (d : Desk) (st : StationId) (c : Context) :
    (d.setContext st c).power = d.power ∧ (d.setContext st c).clock = d.clock ∧ (d.setContext st c).tables = d.tables
    ∧ (d.setContext st c).sweep = d.sweep ∧ (d.setContext st c).settings = d.settings ∧ (d.setContext st
    c).stationSettings = d.stationSettings ∧ (d.setContext st c).scan = d.scan ∧ (d.setContext st c).mode = d.mode ∧
    (d.setContext st c).closingTimer = d.closingTimer ∧ (d.setContext st c).slips = d.slips ∧ (d.setContext st
    c).journal = d.journal ∧ (d.setContext st c).upload = d.upload ∧ (d.setContext st c).link = d.link ∧ (d.setContext
    st c).alarms = d.alarms ∧ (d.setContext st c).notices = d.notices ∧ (d.setContext st c).lookupList = d.lookupList
    ∧ (d.setContext st c).uploadList = d.uploadList ∧ (d.setContext st c).freeIndex = d.freeIndex := by
  simp [Desk.setContext]

@[simp] theorem Desk.postSessionOpen_keeps (d : Desk) (st : StationId) (c : Code) :
    (d.postSessionOpen st c).power = d.power ∧ (d.postSessionOpen st c).clock = d.clock ∧ (d.postSessionOpen st
    c).tables = d.tables ∧ (d.postSessionOpen st c).sweep = d.sweep ∧ (d.postSessionOpen st c).settings = d.settings ∧
    (d.postSessionOpen st c).stationSettings = d.stationSettings ∧ (d.postSessionOpen st c).scan = d.scan ∧
    (d.postSessionOpen st c).mode = d.mode ∧ (d.postSessionOpen st c).closingTimer = d.closingTimer ∧
    (d.postSessionOpen st c).stations = d.stations ∧ (d.postSessionOpen st c).slips = d.slips ∧ (d.postSessionOpen st
    c).journal = d.journal ∧ (d.postSessionOpen st c).upload = d.upload ∧ (d.postSessionOpen st c).link = d.link ∧
    (d.postSessionOpen st c).alarms = d.alarms ∧ (d.postSessionOpen st c).notices = d.notices ∧ (d.postSessionOpen st
    c).lookupList = d.lookupList ∧ (d.postSessionOpen st c).uploadList = d.uploadList ∧ (d.postSessionOpen st
    c).freeIndex = d.freeIndex := by
  simp [Desk.postSessionOpen]

@[simp] theorem Desk.placeOneDeferred_keeps (d : Desk) (p : PrinterId) :
    (d.placeOneDeferred p).power = d.power ∧ (d.placeOneDeferred p).clock = d.clock ∧ (d.placeOneDeferred p).tables =
    d.tables ∧ (d.placeOneDeferred p).sweep = d.sweep ∧ (d.placeOneDeferred p).settings = d.settings ∧
    (d.placeOneDeferred p).stationSettings = d.stationSettings ∧ (d.placeOneDeferred p).scan = d.scan ∧
    (d.placeOneDeferred p).mode = d.mode ∧ (d.placeOneDeferred p).closingTimer = d.closingTimer ∧ (d.placeOneDeferred
    p).stations = d.stations ∧ (d.placeOneDeferred p).journal = d.journal ∧ (d.placeOneDeferred p).upload = d.upload ∧
    (d.placeOneDeferred p).link = d.link ∧ (d.placeOneDeferred p).alarms = d.alarms ∧ (d.placeOneDeferred p).notices =
    d.notices ∧ (d.placeOneDeferred p).lookupList = d.lookupList ∧ (d.placeOneDeferred p).uploadList = d.uploadList ∧
    (d.placeOneDeferred p).freeIndex = d.freeIndex := by
  unfold Desk.placeOneDeferred; split <;> (try split) <;> simp [Desk.enqueueJob]

@[simp] theorem Desk.placeDeferred_keeps (d : Desk) (p : PrinterId) :
    (d.placeDeferred p).power = d.power ∧ (d.placeDeferred p).clock = d.clock ∧ (d.placeDeferred p).tables = d.tables
    ∧ (d.placeDeferred p).sweep = d.sweep ∧ (d.placeDeferred p).settings = d.settings ∧ (d.placeDeferred
    p).stationSettings = d.stationSettings ∧ (d.placeDeferred p).scan = d.scan ∧ (d.placeDeferred p).mode = d.mode ∧
    (d.placeDeferred p).closingTimer = d.closingTimer ∧ (d.placeDeferred p).stations = d.stations ∧ (d.placeDeferred
    p).journal = d.journal ∧ (d.placeDeferred p).upload = d.upload ∧ (d.placeDeferred p).link = d.link ∧
    (d.placeDeferred p).alarms = d.alarms ∧ (d.placeDeferred p).notices = d.notices ∧ (d.placeDeferred p).lookupList =
    d.lookupList ∧ (d.placeDeferred p).uploadList = d.uploadList ∧ (d.placeDeferred p).freeIndex = d.freeIndex := by
  simpa [Desk.placeDeferred] using Desk.repeat_keeps
    (fun d : Desk => (d.power, d.clock, d.tables, d.sweep, d.settings, d.stationSettings, d.scan, d.mode,
      d.closingTimer, d.stations, d.journal, d.upload, d.link, d.alarms, d.notices, d.lookupList, d.uploadList,
      d.freeIndex)) _
    (fun d => by simp) _ d

@[simp] theorem Desk.failoverFrom_keeps (d : Desk) (p : PrinterId) :
    (d.failoverFrom p).power = d.power ∧ (d.failoverFrom p).clock = d.clock ∧ (d.failoverFrom p).tables = d.tables ∧
    (d.failoverFrom p).sweep = d.sweep ∧ (d.failoverFrom p).settings = d.settings ∧ (d.failoverFrom p).stationSettings
    = d.stationSettings ∧ (d.failoverFrom p).scan = d.scan ∧ (d.failoverFrom p).mode = d.mode ∧ (d.failoverFrom
    p).closingTimer = d.closingTimer ∧ (d.failoverFrom p).stations = d.stations ∧ (d.failoverFrom p).arbiters =
    d.arbiters ∧ (d.failoverFrom p).journal = d.journal ∧ (d.failoverFrom p).upload = d.upload ∧ (d.failoverFrom
    p).link = d.link ∧ (d.failoverFrom p).alarms = d.alarms ∧ (d.failoverFrom p).notices = d.notices ∧ (d.failoverFrom
    p).lookupList = d.lookupList ∧ (d.failoverFrom p).uploadList = d.uploadList ∧ (d.failoverFrom p).freeIndex =
    d.freeIndex := by
  simp only [Desk.failoverFrom]; split <;> (try split) <;> simp

@[simp] theorem Desk.slipRound_keeps (d : Desk) :
    d.slipRound.power = d.power ∧ d.slipRound.clock = d.clock ∧ d.slipRound.tables = d.tables ∧ d.slipRound.sweep =
    d.sweep ∧ d.slipRound.settings = d.settings ∧ d.slipRound.stationSettings = d.stationSettings ∧ d.slipRound.scan =
    d.scan ∧ d.slipRound.mode = d.mode ∧ d.slipRound.closingTimer = d.closingTimer ∧ d.slipRound.stations = d.stations
    ∧ d.slipRound.journal = d.journal ∧ d.slipRound.upload = d.upload ∧ d.slipRound.link = d.link ∧ d.slipRound.alarms
    = d.alarms ∧ d.slipRound.notices = d.notices ∧ d.slipRound.lookupList = d.lookupList ∧ d.slipRound.uploadList =
    d.uploadList ∧ d.slipRound.freeIndex = d.freeIndex := by
  simp [Desk.slipRound]

@[simp] theorem Desk.startPrinter_keeps (d : Desk) (p : PrinterId) :
    (d.startPrinter p).power = d.power ∧ (d.startPrinter p).clock = d.clock ∧ (d.startPrinter p).tables = d.tables ∧
    (d.startPrinter p).sweep = d.sweep ∧ (d.startPrinter p).settings = d.settings ∧ (d.startPrinter p).stationSettings
    = d.stationSettings ∧ (d.startPrinter p).scan = d.scan ∧ (d.startPrinter p).mode = d.mode ∧ (d.startPrinter
    p).closingTimer = d.closingTimer ∧ (d.startPrinter p).stations = d.stations ∧ (d.startPrinter p).arbiters =
    d.arbiters ∧ (d.startPrinter p).journal = d.journal ∧ (d.startPrinter p).upload = d.upload ∧ (d.startPrinter
    p).link = d.link ∧ (d.startPrinter p).alarms = d.alarms ∧ (d.startPrinter p).notices = d.notices ∧ (d.startPrinter
    p).lookupList = d.lookupList ∧ (d.startPrinter p).uploadList = d.uploadList ∧ (d.startPrinter p).freeIndex =
    d.freeIndex := by
  simp [Desk.startPrinter]

@[simp] theorem Desk.settleSlips_keeps (d : Desk) :
    d.settleSlips.power = d.power ∧ d.settleSlips.clock = d.clock ∧ d.settleSlips.tables = d.tables ∧
    d.settleSlips.sweep = d.sweep ∧ d.settleSlips.settings = d.settings ∧ d.settleSlips.stationSettings =
    d.stationSettings ∧ d.settleSlips.scan = d.scan ∧ d.settleSlips.mode = d.mode ∧ d.settleSlips.closingTimer =
    d.closingTimer ∧ d.settleSlips.stations = d.stations ∧ d.settleSlips.journal = d.journal ∧ d.settleSlips.upload =
    d.upload ∧ d.settleSlips.link = d.link ∧ d.settleSlips.alarms = d.alarms ∧ d.settleSlips.notices = d.notices ∧
    d.settleSlips.lookupList = d.lookupList ∧ d.settleSlips.uploadList = d.uploadList ∧ d.settleSlips.freeIndex =
    d.freeIndex := by
  simpa [Desk.settleSlips] using Desk.repeat_keeps
    (fun d : Desk => (d.power, d.clock, d.tables, d.sweep, d.settings, d.stationSettings, d.scan, d.mode,
      d.closingTimer, d.stations, d.journal, d.upload, d.link, d.alarms, d.notices, d.lookupList, d.uploadList,
      d.freeIndex)) Desk.slipRound
    (fun d => by simp) 5 d

@[simp] theorem Desk.discardSlip_keeps (d : Desk) (j : SlipJob) (c : SlipCause) :
    (d.discardSlip j c).power = d.power ∧ (d.discardSlip j c).clock = d.clock ∧ (d.discardSlip j c).tables = d.tables
    ∧ (d.discardSlip j c).sweep = d.sweep ∧ (d.discardSlip j c).settings = d.settings ∧ (d.discardSlip j
    c).stationSettings = d.stationSettings ∧ (d.discardSlip j c).scan = d.scan ∧ (d.discardSlip j c).mode = d.mode ∧
    (d.discardSlip j c).closingTimer = d.closingTimer ∧ (d.discardSlip j c).stations = d.stations ∧ (d.discardSlip j
    c).slips = d.slips ∧ (d.discardSlip j c).upload = d.upload ∧ (d.discardSlip j c).link = d.link ∧ (d.discardSlip j
    c).lookupList = d.lookupList ∧ (d.discardSlip j c).uploadList = d.uploadList ∧ (d.discardSlip j c).freeIndex =
    d.freeIndex := by
  simp [Desk.discardSlip]

@[simp] theorem Desk.handOver_keeps (d : Desk) (j : SlipJob) :
    (d.handOver j).power = d.power ∧ (d.handOver j).clock = d.clock ∧ (d.handOver j).tables = d.tables ∧ (d.handOver
    j).sweep = d.sweep ∧ (d.handOver j).settings = d.settings ∧ (d.handOver j).stationSettings = d.stationSettings ∧
    (d.handOver j).scan = d.scan ∧ (d.handOver j).mode = d.mode ∧ (d.handOver j).closingTimer = d.closingTimer ∧
    (d.handOver j).stations = d.stations ∧ (d.handOver j).upload = d.upload ∧ (d.handOver j).link = d.link ∧
    (d.handOver j).lookupList = d.lookupList ∧ (d.handOver j).uploadList = d.uploadList ∧ (d.handOver j).freeIndex =
    d.freeIndex := by
  unfold Desk.handOver; split <;> (try split) <;> (try split) <;> simp [Desk.enqueueJob, Desk.deferSlip]

@[simp] theorem Desk.keepCopy_keeps (d : Desk) (j : SlipJob) :
    (d.keepCopy j).power = d.power ∧ (d.keepCopy j).clock = d.clock ∧ (d.keepCopy j).tables = d.tables ∧ (d.keepCopy
    j).sweep = d.sweep ∧ (d.keepCopy j).settings = d.settings ∧ (d.keepCopy j).stationSettings = d.stationSettings ∧
    (d.keepCopy j).scan = d.scan ∧ (d.keepCopy j).mode = d.mode ∧ (d.keepCopy j).closingTimer = d.closingTimer ∧
    (d.keepCopy j).stations = d.stations ∧ (d.keepCopy j).arbiters = d.arbiters ∧ (d.keepCopy j).journal = d.journal ∧
    (d.keepCopy j).upload = d.upload ∧ (d.keepCopy j).link = d.link ∧ (d.keepCopy j).alarms = d.alarms ∧ (d.keepCopy
    j).notices = d.notices ∧ (d.keepCopy j).lookupList = d.lookupList ∧ (d.keepCopy j).uploadList = d.uploadList ∧
    (d.keepCopy j).freeIndex = d.freeIndex := by
  simp [Desk.keepCopy]

@[simp] theorem Desk.endSession_keeps (d : Desk) (st : StationId) (x : Session) (c : Context) :
    (d.endSession st x c).power = d.power ∧ (d.endSession st x c).clock = d.clock ∧ (d.endSession st x c).tables =
    d.tables ∧ (d.endSession st x c).sweep = d.sweep ∧ (d.endSession st x c).settings = d.settings ∧ (d.endSession st
    x c).stationSettings = d.stationSettings ∧ (d.endSession st x c).scan = d.scan ∧ (d.endSession st x c).mode =
    d.mode ∧ (d.endSession st x c).closingTimer = d.closingTimer ∧ (d.endSession st x c).upload = d.upload ∧
    (d.endSession st x c).link = d.link ∧ (d.endSession st x c).lookupList = d.lookupList ∧ (d.endSession st x
    c).uploadList = d.uploadList ∧ (d.endSession st x c).freeIndex = d.freeIndex := by
  simp only [Desk.endSession]; split <;> simp

@[simp] theorem Desk.composeBlock_keeps (d : Desk) :
    d.composeBlock.power = d.power ∧ d.composeBlock.clock = d.clock ∧ d.composeBlock.tables = d.tables ∧
    d.composeBlock.sweep = d.sweep ∧ d.composeBlock.settings = d.settings ∧ d.composeBlock.stationSettings =
    d.stationSettings ∧ d.composeBlock.scan = d.scan ∧ d.composeBlock.mode = d.mode ∧ d.composeBlock.closingTimer =
    d.closingTimer ∧ d.composeBlock.stations = d.stations ∧ d.composeBlock.arbiters = d.arbiters ∧
    d.composeBlock.slips = d.slips ∧ d.composeBlock.journal = d.journal ∧ d.composeBlock.link = d.link ∧
    d.composeBlock.alarms = d.alarms ∧ d.composeBlock.notices = d.notices ∧ d.composeBlock.lookupList = d.lookupList ∧
    d.composeBlock.freeIndex = d.freeIndex := by
  simp [Desk.composeBlock]

@[simp] theorem Desk.withdrawBlock_keeps (d : Desk) :
    d.withdrawBlock.power = d.power ∧ d.withdrawBlock.clock = d.clock ∧ d.withdrawBlock.tables = d.tables ∧
    d.withdrawBlock.sweep = d.sweep ∧ d.withdrawBlock.settings = d.settings ∧ d.withdrawBlock.stationSettings =
    d.stationSettings ∧ d.withdrawBlock.scan = d.scan ∧ d.withdrawBlock.mode = d.mode ∧ d.withdrawBlock.closingTimer
    = d.closingTimer ∧ d.withdrawBlock.stations = d.stations ∧ d.withdrawBlock.arbiters = d.arbiters ∧
    d.withdrawBlock.slips = d.slips ∧ d.withdrawBlock.journal = d.journal ∧ d.withdrawBlock.upload = d.upload ∧
    d.withdrawBlock.link = d.link ∧ d.withdrawBlock.alarms = d.alarms ∧ d.withdrawBlock.notices = d.notices ∧
    d.withdrawBlock.lookupList = d.lookupList ∧ d.withdrawBlock.freeIndex = d.freeIndex := by
  simp [Desk.withdrawBlock]

/-- The block in flight leaves the upload send list, and every other frame there stays. -/
theorem Desk.mem_withdrawBlock (d : Desk) (f : UploadFrame) :
    f ∈ d.withdrawBlock.uploadList ↔ f ∈ d.uploadList ∧ f.isBlock = false := by
  simp [Desk.withdrawBlock]

@[simp] theorem Desk.stallUpload_keeps (d : Desk) :
    d.stallUpload.power = d.power ∧ d.stallUpload.clock = d.clock ∧ d.stallUpload.tables = d.tables ∧
    d.stallUpload.sweep = d.sweep ∧ d.stallUpload.settings = d.settings ∧ d.stallUpload.stationSettings =
    d.stationSettings ∧ d.stallUpload.scan = d.scan ∧ d.stallUpload.mode = d.mode ∧ d.stallUpload.closingTimer =
    d.closingTimer ∧ d.stallUpload.stations = d.stations ∧ d.stallUpload.arbiters = d.arbiters ∧ d.stallUpload.slips
    = d.slips ∧ d.stallUpload.journal = d.journal ∧ d.stallUpload.link = d.link ∧ d.stallUpload.lookupList =
    d.lookupList ∧ d.stallUpload.freeIndex = d.freeIndex := by
  simp [Desk.stallUpload]

/-- A stalled upload: what it leaves of the engine, and of the frames that wait. -/
theorem Desk.stallUpload_upload (d : Desk) :
    d.stallUpload.upload = { d.upload with state := .stalled, takenTimer := none } ∧
    d.stallUpload.uploadList = d.uploadList.filter fun f => !f.isBlock := by
  simp [Desk.stallUpload, Desk.withdrawBlock]

@[simp] theorem Desk.spendFree_keeps (d : Desk) (used : Bool) :
    (d.spendFree used).power = d.power ∧ (d.spendFree used).clock = d.clock ∧ (d.spendFree used).tables = d.tables ∧
    (d.spendFree used).sweep = d.sweep ∧ (d.spendFree used).settings = d.settings ∧ (d.spendFree
    used).stationSettings = d.stationSettings ∧ (d.spendFree used).scan = d.scan ∧ (d.spendFree used).mode = d.mode
    ∧ (d.spendFree used).closingTimer = d.closingTimer ∧ (d.spendFree used).stations = d.stations ∧ (d.spendFree
    used).arbiters = d.arbiters ∧ (d.spendFree used).slips = d.slips ∧ (d.spendFree used).journal = d.journal ∧
    (d.spendFree used).upload = d.upload ∧ (d.spendFree used).link = d.link ∧ (d.spendFree used).alarms = d.alarms ∧
    (d.spendFree used).notices = d.notices ∧ (d.spendFree used).lookupList = d.lookupList ∧ (d.spendFree
    used).uploadList = d.uploadList := by
  cases used <;> simp [Desk.spendFree]

@[simp] theorem Desk.finishUpload_keeps (d : Desk) :
    d.finishUpload.power = d.power ∧ d.finishUpload.clock = d.clock ∧ d.finishUpload.tables = d.tables ∧
    d.finishUpload.sweep = d.sweep ∧ d.finishUpload.settings = d.settings ∧ d.finishUpload.stationSettings =
    d.stationSettings ∧ d.finishUpload.scan = d.scan ∧ d.finishUpload.mode = d.mode ∧ d.finishUpload.closingTimer =
    d.closingTimer ∧ d.finishUpload.stations = d.stations ∧ d.finishUpload.arbiters = d.arbiters ∧
    d.finishUpload.slips = d.slips ∧ d.finishUpload.journal = d.journal ∧ d.finishUpload.link = d.link ∧
    d.finishUpload.alarms = d.alarms ∧ d.finishUpload.notices = d.notices ∧ d.finishUpload.lookupList = d.lookupList ∧
    d.finishUpload.freeIndex = d.freeIndex := by
  simp [Desk.finishUpload]

@[simp] theorem Desk.startUpload_keeps (d : Desk) :
    d.startUpload.power = d.power ∧ d.startUpload.clock = d.clock ∧ d.startUpload.tables = d.tables ∧
    d.startUpload.sweep = d.sweep ∧ d.startUpload.settings = d.settings ∧ d.startUpload.stationSettings =
    d.stationSettings ∧ d.startUpload.scan = d.scan ∧ d.startUpload.mode = d.mode ∧ d.startUpload.closingTimer =
    d.closingTimer ∧ d.startUpload.stations = d.stations ∧ d.startUpload.arbiters = d.arbiters ∧ d.startUpload.slips =
    d.slips ∧ d.startUpload.journal = d.journal ∧ d.startUpload.link = d.link ∧ d.startUpload.alarms = d.alarms ∧
    d.startUpload.notices = d.notices ∧ d.startUpload.lookupList = d.lookupList ∧ d.startUpload.freeIndex =
    d.freeIndex := by
  simp only [Desk.startUpload]; split <;> simp

@[simp] theorem Desk.tryWaitingUpload_keeps (d : Desk) :
    d.tryWaitingUpload.power = d.power ∧ d.tryWaitingUpload.clock = d.clock ∧ d.tryWaitingUpload.tables = d.tables ∧
    d.tryWaitingUpload.sweep = d.sweep ∧ d.tryWaitingUpload.settings = d.settings ∧ d.tryWaitingUpload.stationSettings
    = d.stationSettings ∧ d.tryWaitingUpload.scan = d.scan ∧ d.tryWaitingUpload.mode = d.mode ∧
    d.tryWaitingUpload.closingTimer = d.closingTimer ∧ d.tryWaitingUpload.stations = d.stations ∧
    d.tryWaitingUpload.arbiters = d.arbiters ∧ d.tryWaitingUpload.slips = d.slips ∧ d.tryWaitingUpload.journal =
    d.journal ∧ d.tryWaitingUpload.link = d.link ∧ d.tryWaitingUpload.alarms = d.alarms ∧ d.tryWaitingUpload.notices =
    d.notices ∧ d.tryWaitingUpload.lookupList = d.lookupList ∧ d.tryWaitingUpload.freeIndex = d.freeIndex := by
  unfold Desk.tryWaitingUpload; split <;> simp

@[simp] theorem Desk.announceMinute_keeps (d : Desk) :
    d.announceMinute.power = d.power ∧ d.announceMinute.clock = d.clock ∧ d.announceMinute.tables = d.tables ∧
    d.announceMinute.sweep = d.sweep ∧ d.announceMinute.settings = d.settings ∧ d.announceMinute.stationSettings =
    d.stationSettings ∧ d.announceMinute.scan = d.scan ∧ d.announceMinute.mode = d.mode ∧
    d.announceMinute.closingTimer = d.closingTimer ∧ d.announceMinute.stations = d.stations ∧
    d.announceMinute.arbiters = d.arbiters ∧ d.announceMinute.slips = d.slips ∧ d.announceMinute.journal = d.journal ∧
    d.announceMinute.link = d.link ∧ d.announceMinute.alarms = d.alarms ∧ d.announceMinute.notices = d.notices ∧
    d.announceMinute.lookupList = d.lookupList ∧ d.announceMinute.freeIndex = d.freeIndex := by
  unfold Desk.announceMinute; split <;> (try split) <;> simp

@[simp] theorem Desk.pruneExceptions_keeps (d : Desk) (n : Nat) :
    (d.pruneExceptions n).power = d.power ∧ (d.pruneExceptions n).clock = d.clock ∧ (d.pruneExceptions n).sweep =
    d.sweep ∧ (d.pruneExceptions n).settings = d.settings ∧ (d.pruneExceptions n).stationSettings = d.stationSettings
    ∧ (d.pruneExceptions n).scan = d.scan ∧ (d.pruneExceptions n).mode = d.mode ∧ (d.pruneExceptions n).closingTimer =
    d.closingTimer ∧ (d.pruneExceptions n).stations = d.stations ∧ (d.pruneExceptions n).arbiters = d.arbiters ∧
    (d.pruneExceptions n).slips = d.slips ∧ (d.pruneExceptions n).journal = d.journal ∧ (d.pruneExceptions n).upload =
    d.upload ∧ (d.pruneExceptions n).link = d.link ∧ (d.pruneExceptions n).alarms = d.alarms ∧ (d.pruneExceptions
    n).notices = d.notices ∧ (d.pruneExceptions n).lookupList = d.lookupList ∧ (d.pruneExceptions n).uploadList =
    d.uploadList ∧ (d.pruneExceptions n).freeIndex = d.freeIndex := by
  unfold Desk.pruneExceptions; split <;> simp

@[simp] theorem Desk.uploadDayChange_keeps (d : Desk) (n : Nat) :
    (d.uploadDayChange n).power = d.power ∧ (d.uploadDayChange n).clock = d.clock ∧ (d.uploadDayChange n).tables =
    d.tables ∧ (d.uploadDayChange n).sweep = d.sweep ∧ (d.uploadDayChange n).settings = d.settings ∧
    (d.uploadDayChange n).stationSettings = d.stationSettings ∧ (d.uploadDayChange n).scan = d.scan ∧
    (d.uploadDayChange n).mode = d.mode ∧ (d.uploadDayChange n).closingTimer = d.closingTimer ∧ (d.uploadDayChange
    n).stations = d.stations ∧ (d.uploadDayChange n).arbiters = d.arbiters ∧ (d.uploadDayChange n).slips = d.slips ∧
    (d.uploadDayChange n).journal = d.journal ∧ (d.uploadDayChange n).link = d.link ∧ (d.uploadDayChange n).alarms =
    d.alarms ∧ (d.uploadDayChange n).notices = d.notices ∧ (d.uploadDayChange n).lookupList = d.lookupList ∧
    (d.uploadDayChange n).uploadList = d.uploadList ∧ (d.uploadDayChange n).freeIndex = d.freeIndex := by
  simp [Desk.uploadDayChange]

@[simp] theorem Desk.dayChange_keeps (d : Desk) (n : Nat) :
    (d.dayChange n).power = d.power ∧ (d.dayChange n).clock = d.clock ∧ (d.dayChange n).settings = d.settings ∧
    (d.dayChange n).stationSettings = d.stationSettings ∧ (d.dayChange n).scan = d.scan ∧ (d.dayChange n).mode =
    d.mode ∧ (d.dayChange n).closingTimer = d.closingTimer ∧ (d.dayChange n).stations = d.stations ∧ (d.dayChange
    n).arbiters = d.arbiters ∧ (d.dayChange n).slips = d.slips ∧ (d.dayChange n).journal = d.journal ∧ (d.dayChange
    n).link = d.link ∧ (d.dayChange n).alarms = d.alarms ∧ (d.dayChange n).notices = d.notices ∧ (d.dayChange
    n).lookupList = d.lookupList ∧ (d.dayChange n).uploadList = d.uploadList ∧ (d.dayChange n).freeIndex = d.freeIndex := by
  simp [Desk.dayChange]

@[simp] theorem Desk.clockMoved_keeps (d : Desk) (c : Clock) :
    (d.clockMoved c).power = d.power ∧ (d.clockMoved c).clock = d.clock ∧ (d.clockMoved c).settings = d.settings ∧
    (d.clockMoved c).stationSettings = d.stationSettings ∧ (d.clockMoved c).scan = d.scan ∧ (d.clockMoved c).mode =
    d.mode ∧ (d.clockMoved c).closingTimer = d.closingTimer ∧ (d.clockMoved c).stations = d.stations ∧ (d.clockMoved
    c).arbiters = d.arbiters ∧ (d.clockMoved c).slips = d.slips ∧ (d.clockMoved c).journal = d.journal ∧ (d.clockMoved
    c).link = d.link ∧ (d.clockMoved c).alarms = d.alarms ∧ (d.clockMoved c).notices = d.notices ∧ (d.clockMoved
    c).lookupList = d.lookupList ∧ (d.clockMoved c).freeIndex = d.freeIndex := by
  simp only [Desk.clockMoved]; split <;> split <;> simp

@[simp] theorem Desk.setClock_keeps (d : Desk) (x : ClockCause) (n m k : Nat) :
    (d.setClock x n m k).power = d.power ∧ (d.setClock x n m k).settings = d.settings ∧ (d.setClock x n m
    k).stationSettings = d.stationSettings ∧ (d.setClock x n m k).scan = d.scan ∧ (d.setClock x n m k).mode = d.mode ∧
    (d.setClock x n m k).closingTimer = d.closingTimer ∧ (d.setClock x n m k).stations = d.stations ∧ (d.setClock x n
    m k).slips = d.slips ∧ (d.setClock x n m k).link = d.link ∧ (d.setClock x n m k).lookupList = d.lookupList ∧
    (d.setClock x n m k).freeIndex = d.freeIndex := by
  simp only [Desk.setClock]; split <;> simp

@[simp] theorem Desk.applyPendingMark_keeps (d : Desk) :
    d.applyPendingMark.power = d.power ∧ d.applyPendingMark.settings = d.settings ∧ d.applyPendingMark.stationSettings
    = d.stationSettings ∧ d.applyPendingMark.scan = d.scan ∧ d.applyPendingMark.mode = d.mode ∧
    d.applyPendingMark.closingTimer = d.closingTimer ∧ d.applyPendingMark.stations = d.stations ∧
    d.applyPendingMark.slips = d.slips ∧ d.applyPendingMark.link = d.link ∧ d.applyPendingMark.lookupList =
    d.lookupList ∧ d.applyPendingMark.freeIndex = d.freeIndex := by
  unfold Desk.applyPendingMark; split <;> simp

@[simp] theorem Desk.becomeClosed_keeps (d : Desk) :
    d.becomeClosed.power = d.power ∧ d.becomeClosed.settings = d.settings ∧ d.becomeClosed.stationSettings =
    d.stationSettings ∧ d.becomeClosed.scan = d.scan ∧ d.becomeClosed.stations = d.stations ∧ d.becomeClosed.slips =
    d.slips ∧ d.becomeClosed.link = d.link ∧ d.becomeClosed.lookupList = d.lookupList ∧ d.becomeClosed.freeIndex =
    d.freeIndex := by
  simp [Desk.becomeClosed]

@[simp] theorem Desk.testClosing_keeps (d : Desk) :
    d.testClosing.power = d.power ∧ d.testClosing.settings = d.settings ∧ d.testClosing.stationSettings =
    d.stationSettings ∧ d.testClosing.scan = d.scan ∧ d.testClosing.stations = d.stations ∧ d.testClosing.slips =
    d.slips ∧ d.testClosing.link = d.link ∧ d.testClosing.lookupList = d.lookupList ∧ d.testClosing.freeIndex =
    d.freeIndex := by
  unfold Desk.testClosing; split <;> simp

@[simp] theorem Desk.frameArrives_keeps (d : Desk) :
    d.frameArrives.power = d.power ∧ d.frameArrives.clock = d.clock ∧ d.frameArrives.tables = d.tables ∧
    d.frameArrives.sweep = d.sweep ∧ d.frameArrives.settings = d.settings ∧ d.frameArrives.stationSettings =
    d.stationSettings ∧ d.frameArrives.scan = d.scan ∧ d.frameArrives.mode = d.mode ∧ d.frameArrives.closingTimer =
    d.closingTimer ∧ d.frameArrives.stations = d.stations ∧ d.frameArrives.arbiters = d.arbiters ∧
    d.frameArrives.slips = d.slips ∧ d.frameArrives.journal = d.journal ∧ d.frameArrives.alarms = d.alarms ∧
    d.frameArrives.notices = d.notices ∧ d.frameArrives.lookupList = d.lookupList ∧ d.frameArrives.freeIndex =
    d.freeIndex := by
  simp only [Desk.frameArrives]; split <;> simp

/-- A change of station state changes that station's context, and no other's. -/
theorem Desk.setContext_context (d : Desk) (st o : StationId) (c : Context) :
    (d.setContext st c).context o = if o = st then c else d.context o := by
  simp only [Desk.setContext, Desk.context, Desk.tellStation_keeps, Desk.onStation_stations, PerStation.get_set]
  split <;> simp_all

end Sys2Proof.Machine
end

