-- ==== Sys2Proof/Laws/Link.lean ====
section
/-! SUPPORT. What a command of the desk and a request do once their conditions hold: the lemmas that a statement about one row
cites in place of unfolding the link. -/

namespace Sys2Proof.Machine

/-! ## The transmit arbiter -/

theorem State.transmit_busy (s : State) (h : s.line.transmitting.isSome = true) : s.transmit = s := by
  simp [State.transmit, h]

theorem State.transmit_offline (s : State) (h : s.desk.link = .offline) : s.transmit = s := by
  simp [State.transmit, Desk.isOffline, h]

/-! ## Commands of the desk -/

theorem State.poweredDesk_on (s : State) (f : Desk → Desk) (h : s.desk.power.on = true) :
    s.poweredDesk f = s.afterDesk (f s.desk) := by
  simp [State.poweredDesk, State.powered, h, State.afterDesk, State.onDesk]

theorem State.poweredDesk_off (s : State) (f : Desk → Desk) (h : s.desk.power.on = false) : s.poweredDesk f = s := by
  simp [State.poweredDesk, State.powered, h]

theorem State.powered_off (s : State) (f : State → State) (h : s.desk.power.on = false) : s.powered f = s := by
  simp [State.powered, h]

/-! ## A completed second (R20, R196) -/

theorem State.second_powered (s : State) (h : s.desk.power.on = true) : s.second = s.afterDesk s.desk.second := by
  simp [State.second, h, State.poweredDesk_on]

theorem State.second_outage (s : State) (h : s.desk.power.on = false) (hb : s.desk.power.batteryFell = false) :
    s.second = { s with desk := s.desk.second } := by
  simp [State.second, h, hb, State.onDesk]

theorem State.second_batteryFell (s : State) (h : s.desk.power.on = false) (hb : s.desk.power.batteryFell = true) :
    s.second = s := by
  simp [State.second, h, hb]

/-! ## Valid frames (R185) -/

theorem State.takeValid_waiting (s : State) (f : State → State) (h : s.line.resetWaiting = true) :
    s.takeValid f = s.onDesk Desk.frameArrives := by
  simp [State.takeValid, h]

theorem State.takeValid_full (s : State) (f : State → State) (h : s.line.resetWaiting = false)
    (hr : replyCapacity ≤ s.line.replies.length) : s.takeValid f = (s.onDesk Desk.frameArrives).overrun := by
  simp [State.takeValid, h, hr]

theorem State.takeValid_dispatch (s : State) (f : State → State) (h : s.line.resetWaiting = false)
    (hr : s.line.replies.length < replyCapacity) : s.takeValid f = f (s.onDesk Desk.frameArrives) := by
  simp [State.takeValid, h, Nat.not_le.2 hr]

/-- A dispatched request: its decision is made against the desk that the frame has reached, and its reply is queued. -/
theorem State.deskRequest_dispatched (s : State) (tag : Byte) (decide : Desk → Decision) (h : s.Dispatches) :
    (s.powered fun s => s.deskRequest tag decide) = s.afterReply tag (decide s.desk.frameArrives) := by
  simp [State.powered, h.power, State.deskRequest, State.takeValid_dispatch _ _ h.noReset h.room, State.answer,
    State.afterReply, State.queueReply, State.onDesk, State.onLine]

/-- A valid frame of a kind that is no request. -/
theorem State.takeFrame_badKind (s : State) (kind tag : Byte) (payload : List Byte) (h : isRequestKind kind = false) :
    s.takeFrame kind tag payload = s.takeValid fun s => s.answer tag (s.desk.answer .badKind) := by
  simp [State.takeFrame, h, State.badKind]

/-- A valid frame of a request that is neither STATUS_READ nor RESET is its decision's request. -/
theorem State.takeFrame_request (s : State) (kind tag : Byte) (payload : List Byte) (h : isRequestKind kind = true)
    (hs : kind = 0x08 → payload ≠ []) (hr : kind = 0x12 → payload ≠ []) :
    s.takeFrame kind tag payload = s.deskRequest tag fun d => d.request kind.toNat payload := by
  have hs : ¬ (kind = 8#8 ∧ payload = []) := fun x => hs x.1 x.2
  have hr : ¬ (kind = 18#8 ∧ payload = []) := fun x => hr x.1 x.2
  simp [State.takeFrame, h, hs, hr]

end Sys2Proof.Machine
end

