-- ==== Sys2Proof/Tests/Slice0.lean ====
section
/-! SUPPORT. Tests of the model: the checks of well-formedness, the manual's own worked values, and for each statement with
hypotheses a state and operands that meet them, at the boundary of each clause. -/

namespace Sys2Proof.Tests

open Sys2Proof.Machine

-- Each test is evaluated before the next is read: evaluated side by side they hold one thread and its stack each.
set_option Elab.async false

/-! ## Small states -/

/-- A card and an item of the manual's worked examples. -/
def card : Code := [2, 8, 1, 1, 0, 0, 0, 7, 3, 6]
def item : Code := [3, 9, 0, 0, 0, 0, 1, 2, 3, 4, 5]

def onDesk (d : Desk) : State := { State.reset with desk := d }
def onLine (l : LinkLine) : State := { State.reset with line := l }

/-- A desk whose station 0 is in a context, in a desk mode. -/
def deskWith (m : DeskMode) (c : Context) : Desk :=
  { Desk.reset with mode := m, stations := { Desk.reset.stations with st0 := ⟨c, .loan, .quiet⟩ } }

def session : Session := { borrower := card, provisional := false, items := [], arm := none, idleTimer := 90 }
def lentEntry : ListEntry := .lent item ⟨9226, none⟩ 7 none
def lentSession : Session := { session with items := [lentEntry, .returned card] }
def openDesk : Desk := deskWith .opened (.opened session)
def lentDesk : Desk := deskWith .opened (.opened lentSession)
def lookupDesk : Desk := deskWith .opened (.lookup ⟨card, 3, 8⟩)
def disabledDesk : Desk := deskWith .closed .disabled

/-- Station 0 with a scan station, an arbiter, or an OFFLINE and a full printer, of its own. -/
def scanDesk (x : ScanStation) : Desk := { Desk.reset with scan := { Desk.reset.scan with st0 := x } }
def arbiterDesk (a : Arbiter) : Desk := { openDesk with arbiters := { openDesk.arbiters with st0 := a } }
def printerDesk (x : Printer) : Desk :=
  { Desk.reset with slips := { Desk.reset.slips with printers := { Desk.reset.slips.printers with p0 := x } } }

def slip : SlipJob := { kind := .loan, reprint := false, station := .st0, borrower := card, lines := [.header, .footer] }
def settingsDesk (f : Settings → Settings) : Desk := { Desk.reset with settings := f Desk.reset.settings }
def uploadDesk (u : UploadState) (b : Option BlockInFlight) (cut : Nat) : Desk :=
  { Desk.reset with upload := { Desk.reset.upload with state := u, block := b, cut := cut, takenTimer := some 30 } }
def replies (n : Nat) : List Reply := List.replicate n ⟨1, .ok, [], false⟩
def entryOf (c : Code) (provisional : Bool) : Borrower := ⟨c, 3, 0, 0, 0, 9300, provisional⟩
def tablesDesk (m : DeskMode) (t : Tables) : Desk := { Desk.reset with mode := m, tables := t }

/-- A desk whose ring holds n records. -/
def journalDesk (n : Nat) : Desk := { lentDesk with journal := ⟨List.replicate n .cold, n, 0⟩ }

/-- The calendar of the manual's worked examples: open on weekdays 0 to 5, and day 9,225 closed by an exception. -/
def calendar : Tables :=
  { Desk.reset.tables with
    weekly := [⟨0, ⟨600, 1200⟩⟩, ⟨1, ⟨600, 1200⟩⟩, ⟨2, ⟨600, 1200⟩⟩, ⟨3, ⟨600, 1200⟩⟩, ⟨4, ⟨600, 1200⟩⟩, ⟨5, ⟨600, 1200⟩⟩]
    exceptions := [⟨9225, .closed⟩] }

/-- The prefix table of the worked example of 1.8. -/
def prefixTable : List PrefixEntry :=
  [⟨0, [2, 8], 10, 10, .borrower 0, .weighted10⟩, ⟨1, [2, 8, 1, 1], 10, 10, .borrower 3, .weighted10⟩,
   ⟨2, [3], 11, 14, .item 0, .none⟩, ⟨3, [3, 9], 11, 11, .item 12, .none⟩, ⟨4, [9, 9], 8, 8, .command, .none⟩,
   ⟨5, [0], 6, 16, .ignore, .none⟩, ⟨6, [3, 9], 10, 12, .item 5, .none⟩]

/-- A request at any desk with power, no RESET waiting and a short reply queue is dispatched. -/
theorem dispatches (d : Desk) (h : d.power.on = true) : (onDesk d).Dispatches := ⟨h, rfl, Nat.zero_lt_succ _⟩

/-! ## Well-formedness -/

theorem test_wellFormed_badKind : Instr.wellFormed (.badKindFrame 0 0x80) = true ∧ Instr.wellFormed (.badKindFrame 0 0) = true ∧
    Instr.wellFormed (.badKindFrame 0 0x13) = true := by decide
theorem test_illFormed_badKind : Instr.wellFormed (.badKindFrame 0 0x01) = false ∧
    Instr.wellFormed (.badKindFrame 0 0x12) = false := by decide
theorem test_illFormed_printerFault : Instr.wellFormed (.printerFaultAnswer .p0 (some 0x52)) = false ∧
    Instr.wellFormed (.printerFaultAnswer .p1 (some 0x50)) = false := by decide
theorem test_wellFormed_printerFault : Instr.wellFormed (.printerFaultAnswer .p0 (some 0x46)) = true ∧
    Instr.wellFormed (.printerFaultAnswer .p0 none) = true := by decide

/-! ## The manual's worked values -/

theorem test_crc_of_1_to_9 : crc16 [0x31, 0x32, 0x33, 0x34, 0x35, 0x36, 0x37, 0x38, 0x39] = 0x29b1 := by decide +kernel
theorem test_weighted10 : passesWeighted10 card = true ∧ passesWeighted10 [2, 8, 5, 5, 5, 0, 1, 2, 3, 8] = false ∧
    passesWeighted10 [2, 8, 5, 5, 5, 0, 1, 2, 3, 7] = true := by decide +kernel
theorem test_classification : classifyScan prefixTable card = .entry (.borrower card 3) ∧
    classifyScan prefixTable [2, 8, 5, 5, 5, 0, 1, 2, 3, 8] = .invalid ∧
    classifyScan prefixTable item = .entry (.item item 12) ∧
    classifyScan prefixTable [3, 9, 0, 0, 0, 0, 1, 2, 3, 4, 5, 6] = .entry (.item [3, 9, 0, 0, 0, 0, 1, 2, 3, 4, 5, 6] 5) ∧
    classifyScan prefixTable [9, 9, 0, 0, 0, 0, 1, 4] = .entry (.command [9, 9, 0, 0, 0, 0, 1, 4] .reprint) ∧
    classifyScan prefixTable [9, 9, 0, 0, 0, 0, 1, 9] = .invalid ∧ classifyScan prefixTable [0, 1, 2, 3, 4, 5, 6] = .ignored ∧
    classifyScan prefixTable [4, 1, 2, 3, 4, 5, 6] = .invalid := by decide +kernel
theorem test_civil_dates : civilDate 0 = ⟨2000, 1, 1⟩ ∧ civilDate 9204 = ⟨2025, 3, 14⟩ ∧ civilDate 9219 = ⟨2025, 3, 29⟩ ∧
    civilDate 9226 = ⟨2025, 4, 5⟩ ∧ civilDate 65535 = ⟨2179, 6, 6⟩ := by decide +kernel
theorem test_searches : calendar.closureSearch 9225 = (9226, false) ∧ calendar.backwardSearch 9220 9204 = some 9219 ∧
    calendar.forwardSearch 9205 9225 = some 9205 := by decide +kernel
theorem test_openDays : calendar.openDaysBetween 9226 9233 = 6 ∧ calendar.openDaysBetween 9219 9233 = 11 ∧
    calendar.openDaysBetween 9204 9215 = 9 ∧ calendar.openDaysBetween 9219 9220 = 0 := by decide +kernel
/-- The day loans of 6.8, with and without the expiry cap, and at the top of the range. -/
theorem test_dayLoans : (DueQuestion.dayLoan ⟨9204, 0, 9300, calendar, 30⟩ 21).due = ⟨9226, none⟩ ∧
    (DueQuestion.dayLoan ⟨9204, 0, 9220, calendar, 30⟩ 21).due = ⟨9219, none⟩ ∧
    (DueQuestion.dayLoan ⟨65530, 0, 65535, calendar, 30⟩ 14).due = ⟨65535, none⟩ := by decide +kernel
/-- The hourly loans of 6.8. -/
theorem test_hourlyLoans : (DueQuestion.hourlyLoan ⟨9204, 1020, 9300, calendar, 30⟩ 3).due = ⟨9204, some 1200⟩ ∧
    (DueQuestion.hourlyLoan ⟨9204, 1110, 9300, calendar, 30⟩ 3).due = ⟨9204, some 1200⟩ ∧
    (DueQuestion.hourlyLoan ⟨9204, 1185, 9300, calendar, 30⟩ 3).due = ⟨9205, some 780⟩ ∧
    (DueQuestion.hourlyLoan ⟨9204, 1185, 9204, calendar, 30⟩ 3).due = ⟨9204, some 1200⟩ ∧
    (DueQuestion.hourlyLoan ⟨9204, 1230, 9204, calendar, 30⟩ 3).due = ⟨9204, some 1230⟩ := by decide +kernel
/-- The pattern lengths of R135's table. -/
theorem test_tonePatterns : [Level.urgent, .refusal, .action, .info].map (fun l => patternLength l.pattern) = [650, 500, 300, 60] ∧
    (Tone.playing .urgent).plays.length = 5 ∧ Tone.quiet.plays = [] := by decide
/-- The fines of 6.8. -/
theorem test_fines :
    let at_ := fun day minute : Nat =>
      { tablesDesk .opened calendar with clock := { Desk.reset.clock with day := day, minute := minute } }
    (at_ 9233 600).reckonReturn ⟨9226, none⟩ ⟨1, 20, 500⟩ = (5, 100) ∧
    (at_ 9233 600).reckonReturn ⟨9219, none⟩ ⟨1, 20, 500⟩ = (10, 200) ∧
    (at_ 9205 905).reckonReturn ⟨9205, some 780⟩ ⟨0, 50, 400⟩ = (3, 150) ∧
    (at_ 9207 640).reckonReturn ⟨9205, some 780⟩ ⟨0, 50, 400⟩ = (46, 400) := by decide +kernel

/-! ## The statements' hypotheses: the queue, scan acceptance, command cards -/

theorem test_hyp_IdleStepsAndCommandsAnswerNext :
    let ticked := fun n : Nat => { Desk.reset with clock := { Desk.reset.clock with prescaler := n } }
    (onDesk (ticked 32766)).pending = [] ∧ (ticked 32766).clock.prescaler + 1 < 32768 ∧
    32768 ≤ (ticked 32767).clock.prescaler + 1 ∧ Desk.reset.power.on = true ∧
    (onDesk { Desk.reset with power := ⟨false, true⟩ }).pending = [] ∧ Instr.actsUnpowered .sweepStep = false ∧
    (onDesk { Desk.reset with power := ⟨false, false⟩ }).desk.power.on = false := by decide

theorem test_hyp_WandReceiverTable :
    let digits := fun n : Nat => List.replicate n (7 : Digit)
    (∃ n : Digit, (some 0x39 : Option Byte) = some (BitVec.ofNat 8 (0x30 + n.val))) ∧
    (scanDesk { ScanStation.restart with wand := .inFrame (digits 15) }).context .st0 ≠ .disabled ∧
    (digits 15).length ≤ 15 ∧ 16 ≤ (digits 16).length ∧ 6 ≤ (digits 6).length ∧ (digits 5).length ≤ 5 ∧
    ((scanDesk .restart).scan.get .st0).wand = .hunting ∧ disabledDesk.context .st0 = .disabled :=
  ⟨⟨9, rfl⟩, by decide, by decide, by decide, by decide, by decide, rfl, rfl⟩

/-- The characters next to the start character, the end-of-read character and the digits, and a framing error. -/
theorem test_hyp_foreignCharacters : isForeign none ∧ isForeign (some 0x01) ∧ isForeign (some 0x03) ∧ isForeign (some 0x0c) ∧
    isForeign (some 0x0e) ∧ isForeign (some 0x2f) ∧ isForeign (some 0x3a) :=
  ⟨.inl rfl, .inr ⟨_, rfl, by decide⟩, .inr ⟨_, rfl, by decide⟩, .inr ⟨_, rfl, by decide⟩, .inr ⟨_, rfl, by decide⟩,
    .inr ⟨_, rfl, by decide⟩, .inr ⟨_, rfl, by decide⟩⟩

theorem test_hyp_StationTimersAndOutputs :
    let paired := scanDesk { ScanStation.restart with candidate := some ⟨card, 1⟩, pairingTimer := some 400 }
    Desk.reset.power.on = true ∧ (Desk.reset.scan.get .st0).wand = .hunting ∧
    ((scanDesk { ScanStation.restart with wand := .inFrame [] }).scan.get .st0).wand ≠ .hunting ∧
    (Desk.reset.scan.get .st0).pairingTimer = none ∧ (paired.scan.get .st0).pairingTimer ≠ none := by decide

theorem test_hyp_PairingAndSuppression :
    let required := fun n : Nat => Desk.reset.onStationSettings .st0 fun x => { x with readsRequired := n }
    let held := scanDesk { ScanStation.restart with candidate := some ⟨card, 1⟩ }
    (Desk.reset.scan.get .st0).candidate = none ∧ 1 < ((required 2).stationSettings.get .st0).readsRequired ∧
    ((required 1).stationSettings.get .st0).readsRequired ≤ 1 ∧ (held.scan.get .st0).candidate = some ⟨card, 1⟩ ∧
    item ≠ card ∧ 1 + 1 < ((required 3).stationSettings.get .st0).readsRequired ∧
    (held.stationSettings.get .st0).readsRequired ≤ 1 + 1 := by decide

theorem test_hyp_LongestPrefixWins : Table.Sorted PrefixEntry.key prefixTable ∧
    winnerOf prefixTable [2, 8, 5, 5, 5, 0, 1, 2, 3, 8] = some ⟨0, [2, 8], 10, 10, .borrower 0, .weighted10⟩ ∧
    passesWeighted10 [2, 8, 5, 5, 5, 0, 1, 2, 3, 8] = false := by decide +kernel

theorem test_hyp_ClassificationOutcomes :
    winnerOf prefixTable [4, 1, 2, 3, 4, 5, 6] = none ∧
    winnerOf prefixTable [0, 1, 2, 3, 4, 5] = some ⟨5, [0], 6, 16, .ignore, .none⟩ ∧
    winnerOf prefixTable [9, 9, 0, 0, 0, 0, 1, 5] = some ⟨4, [9, 9], 8, 8, .command, .none⟩ ∧
    commandOf [9, 9, 0, 0, 0, 0, 1, 5] = some .skipSlip ∧ commandOf [9, 9, 0, 0, 0, 0, 1, 6] = none ∧
    commandOf [9, 9, 0, 0, 0, 0, 0, 0] = none ∧
    winnerOf prefixTable card = some ⟨1, [2, 8, 1, 1], 10, 10, .borrower 3, .weighted10⟩ ∧ passesWeighted10 card = true ∧
    winnerOf prefixTable item = some ⟨3, [3, 9], 11, 11, .item 12, .none⟩ := by decide +kernel

theorem test_hyp_ScanQueueHoldsFour :
    let queued := fun n : Nat => scanDesk { ScanStation.restart with queue := List.replicate n (.item item 12) }
    ((queued 3).scan.get .st0).queue.length < 4 ∧ 4 ≤ ((queued 4).scan.get .st0).queue.length ∧
    (lookupDesk.context .st0).takes = false ∧ ((queued 1).scan.get .st0).queue = [.item item 12] ∧
    ((queued 0).scan.get .st0).queue = [] ∧ ((queued 2).scan.get .st0).queue = .item item 12 :: [.item item 12] ∧
    ((queued 2).context .st0).takes = true := by decide

/-- A category with room for one provisional entry's loan. -/
def capped : Tables := { calendar with categories := [⟨3, 6, 0, 0, 1, 7⟩] }

/-- Every way in which a borrower card is taken at an OPENED desk, and the desk modes and station modes of an item. -/
theorem test_hyp_CodesAreTaken :
    let idle := fun t => tablesDesk .opened t
    let blocked := fun action => idle { calendar with blocks := [⟨⟨10, 0, card⟩, action, 3, none⟩] }
    let defers := { idle calendar with slips := { Desk.reset.slips with deferrals := [slip] } }
    let atOther := { idle calendar with stations := { Desk.reset.stations with st1 := ⟨.opened session, .loan, .quiet⟩ } }
    let inMode := fun m mode => { deskWith m .idle with stations := .all ⟨.idle, mode, .quiet⟩ }
    ((Desk.reset.context .st0).takes = true ∧ Desk.reset.mode ≠ .opened ∧ openDesk.context .st0 = .opened session) ∧
    ((defers.context .st0).takes = true ∧ defers.mode = .opened ∧ defers.deferredAt .st0 ≠ none) ∧
    (∀ action ∈ [BlockAction.refuse, .refer, .watch],
      (blocked action).blockCheck card = some ⟨⟨10, 0, card⟩, action, 3, none⟩ ∧ (blocked action).deferredAt .st0 = none) ∧
    (atOther.blockCheck card = none ∧ (atOther.context .st1).card = some card ∧ StationId.st1 ≠ .st0) ∧
    (idle { calendar with borrowers := [entryOf card false] }).borrower card = some (entryOf card false) ∧
    ((idle calendar).borrower card = none ∧ ({ idle calendar with link := .online 60 } : Desk).link ≠ .offline ∧
      (idle calendar).link = .offline ∧ ((idle calendar).category 3).offlineCap = 0 ∧
      ((idle capped).category 3).offlineCap ≠ 0 ∧ (idle capped).tables.borrowers.length < 65536) ∧
    ((inMode .opened .loan).context .st0 = .idle ∧ ((inMode .opened .loan).stations.get .st0).mode ≠ .ret ∧
      ((inMode .closed .ret).stations.get .st0).mode = .ret ∧ (inMode .closed .ret).settings.returnsWhenClosed = false ∧
      (settingsDesk fun x => { x with returnsWhenClosed := true }).settings.returnsWhenClosed = true) := by
  decide +kernel

theorem test_hyp_CommandCardsAct : lookupDesk.power.on = true ∧ lookupDesk.context .st0 ≠ .disabled ∧
    disabledDesk.context .st0 = .disabled := by decide

theorem test_hyp_sessionCards : Desk.reset.context .st0 = .idle ∧ (Desk.reset.context .st0).isOpen = false ∧
    (lookupDesk.context .st0).takes = false ∧ openDesk.power.on = true ∧ openDesk.context .st0 = .opened session := by decide

theorem test_hyp_clearCard :
    let shows := fun p => arbiterDesk { Arbiter.restart with shown := some p }
    ((shows .holdFor).context .st0).takes = true ∧ ((shows .holdFor).arbiters.get .st0).shown = some .holdFor ∧
    Source.holdFor.clearKind = .staff ∧ ((shows .lent).arbiters.get .st0).shown = some .lent ∧
    Source.lent.clearKind ≠ .staff ∧ (Desk.reset.arbiters.get .st0).shown = none := by decide

theorem test_hyp_PromptClearTable :
    let holds := arbiterDesk { Arbiter.restart with pending := [.holdFor [4, 5, 6, 7] 9211], shown := some .holdFor }
    (onDesk holds).Dispatches ∧ StationId.ofNumber 3 = some .st3 ∧ StationId.ofNumber 4 = none ∧ Source.ofNumber 0 = none ∧
    Source.ofNumber 1 = some .borrowerBlocked ∧ Source.ofNumber 16 = some .sessionEnd ∧ Source.ofNumber 17 = none ∧
    Source.ofNumber 8 = some .holdFor ∧ Source.sessionEnd.clearKind ≠ .staff ∧ Source.borrowerBlocked.clearKind = .staff ∧
    (∀ q ∈ (Desk.reset.arbiters.get .st0).pending, q.source ≠ .holdFor) ∧
    (holds.arbiters.get .st0).pending.any (fun q => q.source == .holdFor) = true :=
  ⟨dispatches _ rfl, by decide⟩

theorem test_hyp_slipCards :
    let copied := { Desk.reset with slips := { Desk.reset.slips with lastSlips := .all (some slip) } }
    let deferred := { Desk.reset with slips := { Desk.reset.slips with deferrals := [slip] } }
    (Desk.reset.context .st0).takes = true ∧ Desk.reset.slips.lastSlips.get .st0 = none ∧
    copied.slips.lastSlips.get .st0 = some slip ∧ Desk.reset.deferredAt .st0 = none ∧
    deferred.deferredAt .st0 = some slip := by decide

theorem test_hyp_CancelLastUndoesTheNewestLoan :
    openDesk.context .st0 = .opened session ∧ (∀ e ∈ session.items, e.isLent = false) ∧
    lentDesk.context .st0 = .opened lentSession ∧ lentSession.items = [] ++ lentEntry :: [.returned card] ∧
    (∀ e ∈ [ListEntry.returned card], e.isLent = false) ∧ (lentDesk.lapseAtRead .st0 item).anyRoom = true := by decide

theorem journalDesk_held (n : Nat) : (journalDesk n).journal.held.length = n := List.length_replicate

theorem journalDesk_free (n : Nat) : (journalDesk n).journal.free = 16384 - n := by
  simp [journalDesk, Journal.free, Journal.heldCount, journalPlaces]

/-- A full ring: no place is free for any record. -/
theorem test_hyp_fullRing : ((journalDesk 16384).lapseAtRead .st0 item).anyRoom = false := by
  have none_listed : (journalDesk 16384).lapseAtRead .st0 item = journalDesk 16384 := rfl
  rw [none_listed, Desk.anyRoom, journalDesk_free]
  rfl

theorem test_hyp_SessionEnds :
    (lentDesk.stationSettings.get .st0).slipPrinting = true ∧ (lentSession.loanSlip .st0).isSome = true ∧
    session.loanSlip .st0 = none ∧ openDesk.context .st0 = .opened session := by decide

theorem test_hyp_stationOutputs :
    let shows := arbiterDesk { Arbiter.restart with shown := some .lent, displayTimer := some 3, display := .idle }
    let waits := arbiterDesk { Arbiter.restart with display := .sending .blank (some (.prompt .journalFull)) }
    (shows.arbiters.get .st0).shown = some .lent ∧ (shows.arbiters.get .st0).displayTimer ≠ none ∧
    Source.lent.clearKind = .transient ∧ (shows.arbiters.get .st0).display = .idle ∧
    (waits.arbiters.get .st0).display = .sending .blank (some (.prompt .journalFull)) ∧
    (Desk.reset.arbiters.get .st0).display = .sending .blank none ∧ (waits.arbiters.get .st0).displayTimer = none := by decide

/-- A post that is shown, one of a source that does not win, and a removal that brings the other prompt into view; an accepted scan
takes the TRANSIENT entry and restarts the idle timer. -/
theorem test_prompts :
    let two := Arbiter.post ⟨[.urgent, .refusal, .action, .info], ⟨false, false, false, false⟩, 3⟩ (.lent ⟨9226, none⟩)
      ((arbiterDesk .restart).post .st0 (.borrowerBlocked 7)).arbiters.st0
    let desk := arbiterDesk two
    [Level.urgent, .refusal, .action, .info].Perm [.urgent, .refusal, .action, .info] ∧ Table.Sorted Prompt.key two.pending ∧
    two.shown = some .borrowerBlocked ∧ two.lamp = .red ∧ two.tone = .playing .urgent ∧ two.displayTimer = none ∧
    two.display = .sending .blank (some (.prompt (.borrowerBlocked 7))) ∧
    ((desk.removePrompt .st0 .borrowerBlocked).arbiters.get .st0).shown = some .lent ∧
    ((desk.removePrompt .st0 .borrowerBlocked).arbiters.get .st0).tone = .playing .urgent ∧
    ((desk.removePrompt .st0 .borrowerBlocked).arbiters.get .st0).displayTimer = some 3 ∧
    ((desk.acceptScan .st0).arbiters.get .st0).pending = [.borrowerBlocked 7] ∧
    desk.context .st0 = .opened session ∧ (Desk.reset.context .st0).isOpen = false := by decide +kernel

/-! ## The desk mode, lookups, the clock and the calendar -/

theorem test_hyp_DeskModeChanges :
    let graceless := { openDesk with settings := { openDesk.settings with closingGrace := 0 } }
    let closing := { openDesk with mode := .closing, closingTimer := some 120 }
    (onDesk closing).Dispatches ∧ (onDesk graceless).desk.frameArrives.mode = .opened ∧
    graceless.settings.closingGrace = 0 ∧ openDesk.settings.closingGrace ≠ 0 ∧ openDesk.frameArrives.anyServing = true ∧
    (deskWith .opened .idle).frameArrives.anyServing = false ∧ (onDesk closing).desk.frameArrives.mode = .closing ∧
    closing.closingTimer ≠ none ∧ Desk.reset.frameArrives.mode = .closed :=
  ⟨dispatches _ rfl, by decide⟩

/-- The grace expires while a RESET waits; the four states of a station that is made to stop; a CLOSING desk that serves, and one that
no longer does. -/
theorem test_hyp_closings :
    let closing := { openDesk with mode := .closing, closingTimer := some 120 }
    let waits := { onDesk closing with line := { State.reset.line with resetWaiting := true } }
    waits.desk.power.on = true ∧ ¬ waits.line.resetWaiting = false ∧ waits.desk.mode = .closing ∧
    waits.desk.closingTimer ≠ none ∧ openDesk.mode ≠ .closing ∧ openDesk.context .st0 = .opened session ∧
    lookupDesk.context .st0 = .lookup ⟨card, 3, 8⟩ ∧ openDesk.context .st1 = .idle ∧ disabledDesk.context .st0 = .disabled ∧
    closing.anyServing = true ∧ (deskWith .closing .idle).mode = .closing ∧ (deskWith .closing .idle).anyServing = false := by
  decide

theorem test_hyp_LookupTimesOut :
    let capped := { lookupDesk with tables := { lookupDesk.tables with categories := [⟨3, 6, 0, 0, 1, 7⟩] } }
    lookupDesk.context .st0 = .lookup ⟨card, 3, 8⟩ ∧ (lookupDesk.category 3).offlineCap = 0 ∧
    (capped.category 3).offlineCap ≠ 0 ∧ capped.borrowerTableFull = false ∧ Desk.reset.context .st0 = .idle := by decide

/-- What a lookup that yields an entry meets at the fresh block check, and JOURNAL_FULL at a change of a station's state. -/
theorem test_hyp_lookupIsLeft :
    let found := fun action => { lookupDesk with tables := { lookupDesk.tables with
      borrowers := [entryOf card false], blocks := [⟨⟨10, 0, card⟩, action, 3, none⟩] } }
    let told := arbiterDesk { Arbiter.restart with pending := [.journalFull], shown := some .journalFull }
    (∀ action ∈ [BlockAction.refuse, .refer, .watch], (found action).borrower card = some (entryOf card false) ∧
      (found action).blockCheck card = some ⟨⟨10, 0, card⟩, action, 3, none⟩) ∧
    (told.arbiters.get .st0).pending.any (fun q => q.source == .journalFull) = true ∧
    (Desk.reset.arbiters.get .st0).pending.any (fun q => q.source == .journalFull) = false ∧
    ¬ 16384 - Desk.reset.journal.held.length ≤ Desk.reset.settings.returnReserve := by decide +kernel

/-- A borrower table with 65,536 entries is full. -/
theorem test_hyp_fullBorrowerTable :
    (tablesDesk .opened { calendar with borrowers := List.replicate 65536 (entryOf item false) }).borrowerTableFull = true := by
  show decide (65536 ≤ (List.replicate 65536 (entryOf item false)).length) = true
  rw [List.length_replicate]
  rfl

theorem find_replicate {α : Type} {key : α → Nat} {k : Nat} {e : α} (h : (key e == k) = false) (n : Nat) :
    Table.find key k (List.replicate n e) = none := by
  simp [Table.find, h]

/-- A card without an entry at an OFFLINE desk whose borrower table is full. -/
theorem test_hyp_cardTakenWithFullTable :
    let full := tablesDesk .opened { capped with borrowers := List.replicate 65536 (entryOf item false) }
    full.blockCheck card = none ∧ full.borrower card = none ∧ full.link = .offline ∧ (full.category 3).offlineCap ≠ 0 ∧
    65536 ≤ full.tables.borrowers.length :=
  ⟨rfl, find_replicate (by decide +kernel) _, rfl, by decide, Nat.le_of_eq List.length_replicate.symm⟩

/-- The winner among the entries that match a card: the smaller k, then REFUSE before REFER before WATCH, and none that expired. -/
theorem test_hyp_BlockCheckPicksTheWinner :
    let entry := fun k action expiry => BlockEntry.mk ⟨10, k, card.take (10 - k)⟩ action 3 expiry
    let desk := fun day blocks =>
      { tablesDesk .opened { calendar with blocks := blocks } with clock := { Desk.reset.clock with day := day } }
    (desk 9204 [entry 1 .refuse none, entry 0 .watch none]).blockCheck card = some (entry 0 .watch none) ∧
    (desk 9204 [entry 0 .watch (some 9204), entry 2 .refuse none]).blockCheck card = some (entry 0 .watch (some 9204)) ∧
    (desk 9205 [entry 0 .watch (some 9204), entry 2 .refuse none]).blockCheck card = some (entry 2 .refuse none) ∧
    (desk 9205 [entry 0 .watch (some 9204)]).blockCheck card = none ∧
    (desk 9204 [entry 0 .watch none]).blockCheck item = none := by decide +kernel

theorem test_hyp_LookupRepliesAnswered :
    let known := fun p => tablesDesk .opened { calendar with borrowers := [entryOf card p] }
    (onDesk lookupDesk).Dispatches ∧ CodeField.code (CodeField.ofCode card) = some card ∧ CodeField.code .absent = none ∧
    CodeField.code (CodeField.ofCode [1, 2, 3, 4, 5]) = none ∧ (15 : Byte).toNat ≤ 15 ∧ ¬ (16 : Byte).toNat ≤ 15 ∧
    (99 : Byte).toNat ≤ 99 ∧ ¬ (100 : Byte).toNat ≤ 99 ∧ lookupDesk.frameArrives.lookingFor card = some .st0 ∧
    lookupDesk.frameArrives.borrower card = none ∧ lookupDesk.frameArrives.borrowerTableFull = false ∧
    Desk.reset.frameArrives.lookingFor card = none ∧ (known true).frameArrives.borrower card = some (entryOf card true) ∧
    (known false).frameArrives.borrower card = some (entryOf card false) :=
  ⟨dispatches _ rfl, by decide +kernel⟩

theorem test_hyp_SecondCompletes : Desk.reset.power.on = true ∧ (Power.mk false false).on = false ∧
    (Power.mk false false).batteryFell = false ∧ (Power.mk false true).batteryFell = true := by decide

/-- A midnight of an outage prunes the exceptions below the 400 days, as one with power does. -/
theorem test_outagePrunes :
    let last : Clock := { Desk.reset.clock with day := 9604, minute := 1439, second := 59 }
    let old := tablesDesk .closed { calendar with exceptions := [⟨9204, .closed⟩, ⟨9205, .closed⟩] }
    [Power.mk true false, ⟨false, false⟩, ⟨false, true⟩].map (fun power =>
      match exec .secondComplete (onDesk { old with clock := last, power := power }) with
      | .next t => (t.desk.clock.day, t.desk.tables.exceptions.map ExceptionEntry.day)
      | _ => (0, [])) = [(9605, [9205]), (9605, [9205]), (9604, [9204, 9205])] := by decide +kernel

/-- The mark age at its limit and past it, and the local time source. -/
theorem test_hyp_syncStates :
    let aged := fun age source => { settingsDesk fun x => { x with timeSource := source } with
      clock := { Desk.reset.clock with markAge := age } }
    (aged 93600 .marks).settings.markAgeLimit * 3600 = 93600 ∧ (aged 93600 .marks).syncState = .synced ∧
    (aged 93601 .marks).syncState = .unsynced ∧ (aged 93601 .localTime).syncState = .localTime := by decide

/-- The last second of the highest day leaves the day as it is. -/
theorem test_lastSecondOfAll : ({ Desk.reset.clock with day := 65535, minute := 1439, second := 59 } : Clock).secondLater =
    { Desk.reset.clock with day := 65535, minute := 0, second := 0 } := by decide

theorem test_hyp_ClockEventsAndSettings :
    let at_ := settingsDesk fun x => { x with uploadMinute := some 0 }
    let may := { at_ with link := .online 60 }
    Desk.reset.settings.uploadMinute ≠ some Desk.reset.clock.minute ∧ at_.settings.uploadMinute = some at_.clock.minute ∧
    may.settings.uploadMinute = some may.clock.minute ∧
    (may.upload.state = .idle ∧ may.mode = .closed ∧ may.link ≠ .offline) ∧ at_.link = .offline := by decide

theorem test_hyp_MarksAndClockSets :
    let at_ := fun m => { deskWith m .idle with clock := { Desk.reset.clock with day := 9204, minute := 600 } }
    let mark := fun m => 9204 * 86400 + m * 60
    (onDesk (at_ .opened)).Dispatches ∧ (1439 : Half).toNat ≤ 1439 ∧ ¬ (1440 : Half).toNat ≤ 1439 ∧ (59 : Byte).toNat ≤ 59 ∧
    ¬ (60 : Byte).toNat ≤ 59 ∧ (at_ .opened).settings.timeSource = .marks ∧ (at_ .opened).frameArrives.mode ≠ .closed ∧
    (at_ .closed).frameArrives.mode = .closed ∧ mark 605 ≤ mark 600 + (at_ .opened).settings.stepLimit * 60 ∧
    mark 600 ≤ mark 595 + (at_ .opened).settings.stepLimit * 60 ∧
    ¬ mark 606 ≤ mark 600 + (at_ .opened).settings.stepLimit * 60 ∧
    (settingsDesk fun x => { x with timeSource := .localTime }).settings.timeSource = .localTime :=
  ⟨dispatches _ rfl, by decide⟩

/-- A pending mark that its elapsed seconds carry past the end of day 65,535, and one that they carry into the next day. -/
theorem test_pendingMark :
    let marked := fun p => { Desk.reset with clock := { Desk.reset.clock with pendingMark := some p } }
    let at_ := fun d : Desk => (d.applyPendingMark.clock.day, d.applyPendingMark.clock.minute, d.applyPendingMark.clock.second)
    at_ (marked ⟨65535, 1439, 58, 2⟩) = (65535, 1439, 59) ∧ at_ (marked ⟨9204, 1439, 58, 63⟩) = (9205, 1, 1) ∧
    Desk.reset.clock.pendingMark = none := by decide +kernel

theorem sorted_calendar (exceptions : List ExceptionEntry) (h : Table.Sorted ExceptionEntry.key exceptions) :
    Tables.Sorted { calendar with exceptions := exceptions } :=
  ⟨.nil, (by decide : Table.Sorted WeekdayHours.key calendar.weekly), h, .nil, .nil, .nil, .nil, .nil⟩

/-- The rows of the table of R35: both ends of the day range among the exceptions, and weekdays with and without hours. -/
theorem test_hyp_OpenDaysHoursAndCivilDates :
    let list : List ExceptionEntry := [⟨0, .openWith (some ⟨0, 1⟩)⟩, ⟨9225, .closed⟩, ⟨65535, .openWith none⟩]
    Tables.Sorted { calendar with exceptions := list } ∧ Tables.Sorted Desk.reset.tables ∧
    (65535 + 5) % 7 = 6 ∧ (∀ e ∈ calendar.weekly, e.weekday ≠ 6) ∧ (0 + 5) % 7 = 5 ∧
    (∃ e ∈ calendar.weekly, e.weekday = 5 ∧ e.hours = ⟨600, 1200⟩) :=
  ⟨sorted_calendar _ (by decide), ⟨.nil, .nil, .nil, .nil, .nil, .nil, .nil, .nil⟩, rfl, by decide, rfl,
    ⟨⟨5, ⟨600, 1200⟩⟩, by decide, rfl, rfl⟩⟩

theorem test_hyp_DaySearchesAndOpenDaysBetween :
    let q : DueQuestion := ⟨9220, 0, 9200, calendar, 30⟩
    calendar.forwardSearch 9225 (9225 + 21) = some 9226 ∧ Desk.reset.tables.forwardSearch 65535 (65535 + 21) = none ∧
    calendar.isOpenDay 65535 = false ∧ calendar.isOpenDay 9204 = true ∧ calendar.backwardSearch 9220 9199 = some 9219 ∧
    q.capDay = 9220 ∧ max q.today (9220 - 21) = 9220 ∧ calendar.backwardSearch 9220 9220 = none ∧ q.cappedDay = 9220 := by
  decide +kernel

theorem test_hyp_openDaysBetween : Tables.Sorted calendar ∧ (∀ e ∈ calendar.weekly, e.weekday ≤ 6) :=
  ⟨sorted_calendar _ (by decide), by decide⟩

theorem test_hyp_civilDateSteps :
    65535 + 730425 = 795960 ∧ 795960 / 146097 = 5 ∧ 795960 - 146097 * 5 = 65475 ∧
    (65475 - 65475 / 1460 + 65475 / 36524 - 65475 / 146096) / 365 = 179 ∧ 65475 - (365 * 179 + 179 / 4 - 179 / 100) = 97 ∧
    (5 * 97 + 2) / 153 = 3 ∧ 97 - (153 * 3 + 2) / 5 + 1 = 6 ∧ (if 3 < 10 then 3 + 3 else 3 - 9) = 6 := by decide

/-- A hold whose pickup-by day is the sweep day stays, and one of the day before lapses; so with blocks. -/
theorem test_hyp_SweepSteps :
    let shelf := fun day : Nat => ItemEntry.mk item none (.onHoldShelf card day)
    let swept := fun day => { tablesDesk .opened { calendar with items := [shelf day] } with sweep := some ⟨9204, .items none⟩ }
    let block := fun day : Nat => BlockEntry.mk ⟨10, 0, card⟩ .watch 3 (some day)
    let blocks := fun day =>
      { tablesDesk .opened { calendar with blocks := [block day] } with sweep := some ⟨9204, .blocks none⟩ }
    (swept 9203).followingItem none = some (shelf 9203) ∧ 9203 < 9204 ∧ (swept 9204).followingItem none = some (shelf 9204) ∧
    (blocks 9203).followingBlock none = some (block 9203) ∧ (blocks 9204).followingBlock none = some (block 9204) ∧
    (swept 9204).followingItem (some item) = none ∧ (blocks 9204).followingBlock (some ⟨10, 0, card⟩) = none ∧
    Desk.reset.sweep = none := by decide +kernel

/-- A decision's read of a hold on its last day and on the day after, and the three ends of a phase of the sweep. -/
theorem test_hyp_lapseAtRead :
    let shelf := fun day => { tablesDesk .opened { calendar with items := [⟨item, none, .onHoldShelf card day⟩] } with
      clock := { Desk.reset.clock with day := 9204 } }
    let block : BlockEntry := ⟨⟨10, 0, card⟩, .watch, 3, none⟩
    let ended := fun blocks => { tablesDesk .opened { calendar with blocks := blocks } with sweep := some ⟨9204, .items none⟩ }
    (shelf 9203).item item = some ⟨item, none, .onHoldShelf card 9203⟩ ∧ 9203 < (shelf 9203).clock.day ∧
    (shelf 9204).clock.day ≤ 9204 ∧ ((shelf 9203).lapseAtRead .st0 item).item item = none ∧
    (shelf 9204).lapseAtRead .st0 item = shelf 9204 ∧ (ended [block]).followingItem none = none ∧
    (ended [block]).settleSweep.sweep = some ⟨9204, .blocks none⟩ ∧ (ended []).settleSweep.sweep = none := by decide +kernel

/-! ## Requests, alarms, the journal and the upload -/

theorem test_hyp_StatusReadsClearTheirCounts : State.reset.Dispatches ∧ StationId.ofNumber (3 : Byte).toNat = some .st3 ∧
    StationId.ofNumber (4 : Byte).toNat = none :=
  ⟨dispatches _ rfl, rfl, rfl⟩

/-- The data of a STATUS_READ after a cold start, and of a STATION_STATUS with two pending entries of one station. -/
theorem test_statusLayouts :
    let pending := arbiterDesk { Arbiter.restart with pending := [.loanRefused .refer (some 7), .renewed ⟨9226, some 1439⟩] }
    statusBytes Desk.reset (LinkLine.reset .r19200) =
      [0, 0, 0, 0, 0, 1, 2, 0, 2, 0xa3, 1, 0, 0, 0, 0, 0, 0] ++ [0, 0, 0] ++ [1, 0, 0, 1, 0, 0] ++
      [0, 0, 0, 1, 0, 0, 0, 0, 0, 1, 0x3f, 0xff, 0, 64, 90, 0x39, 0x99, 0, 0] ++
      [1, 0, 0, 0, 0, 0, 0, 0, 0, 0, 0, 0, 0, 0, 0, 0, 0, 0, 0] ++ [2, 0, 0, 0, natByte Desk.reset.notices.length, 0, 0, 0, 0] ∧
    pending.stationBytes .st0 =
      [2, 1, 0, 0, 0, 0xff, 0xff, 0xff, 0x28, 0x11, 0x00, 0x07, 0x36, 0, 0, 0, 0, 0, 0, 0, 0, 0, 0, 0, 0, 0, 0, 0, 2] ++
      [4, 0, 6, 0, 7, 0, 0, 0, 0, 0, 0, 0xff, 0xff] ++ [14, 0, 0, 0, 0, 0, 0, 0, 0, 0x24, 0x0a, 0x05, 0x9f] ∧
    pending.settings.precedence.Perm [.urgent, .refusal, .action, .info] ∧
    Table.Sorted Prompt.key (pending.arbiters.get .st0).pending := by decide +kernel

/-- The largest number of waiting upload frames that one byte gives, and one more. -/
theorem test_hyp_freeUploadFrames :
    let waits := fun n => { Desk.reset with uploadList := List.replicate n (.finish 1 1) }
    ¬ 255 < (waits 255).uploadList.length ∧ (waits 255).uploadFramesByte = 255 ∧ 255 < (waits 256).uploadList.length := by
  decide +kernel

theorem test_hyp_AlarmReadAndClear :
    State.reset.Dispatches ∧ (0 : Byte).toNat = 0 ∧ 11 < (12 : Byte).toNat ∧
    AlarmId.ofNumber (1 : Byte).toNat = some .journalHigh ∧ AlarmId.ofNumber (11 : Byte).toNat = some .coldStart ∧
    AlarmId.ofNumber (5 : Byte).toNat = some .clockUnsynced ∧
    (Desk.reset.alarms.get .clockUnsynced).count = (1 : Byte).toNat ∧ AlarmId.clockUnsynced.isCondition = true ∧
    (Desk.reset.alarms.get .clockUnsynced).holds = true ∧ (Desk.reset.alarms.get .coldStart).count = (1 : Byte).toNat ∧
    AlarmId.coldStart.isCondition = false ∧ (Desk.reset.alarms.get .journalHigh).holds = false ∧
    (Desk.reset.alarms.get .coldStart).count ≠ (0 : Byte).toNat :=
  ⟨dispatches _ rfl, by decide⟩

theorem test_hyp_AlarmsAndNotices :
    Table.Sorted Notice.key Desk.reset.notices ∧ (Desk.reset.alarms.get .clockUnsynced).holds = true ∧
    (Desk.reset.alarms.get .journalHigh).holds = false ∧
    (settingsDesk fun x => { x with routing := x.routing.set .watchHit false }).settings.routing.get .watchHit = false ∧
    Desk.reset.settings.routing.get .watchHit = true ∧
    (∀ n ∈ Desk.reset.notices, n.key ≠ (NoticeBody.watchHit .st0 card 3).key) ∧
    Desk.reset.notices.any (fun n => n.key == (NoticeBody.alarm .coldStart ⟨true, 1, false⟩).key) = true := by decide

/-- The return reserve's boundary: 65 free places leave room for a loan, 64 leave none; and the last free place. -/
theorem test_hyp_JournalAppendsAndConditions :
    (RecordBody.loan card item ⟨9226, none⟩).kind = 1 ∧ (RecordBody.restart .warm).kind ≠ 1 ∧
    (journalDesk 16319).settings.returnReserve < 16384 - (journalDesk 16319).journal.held.length ∧
    16384 - (journalDesk 16320).journal.held.length ≤ (journalDesk 16320).settings.returnReserve ∧
    0 < 16384 - (journalDesk 16383).journal.held.length ∧ 16384 - (journalDesk 16384).journal.held.length = 0 := by
  simp only [journalDesk_held]
  decide

theorem test_hyp_releases : 1 = seqForward Desk.reset.journal.released 1 ∧ 1 ≤ Desk.reset.journal.held.length ∧
    ¬ 2 ≤ Desk.reset.journal.held.length ∧ seqForward 4294967295 1 = 1 ∧ seqForward 4294967294 1 = 4294967295 := by decide

theorem test_hyp_conditions :
    Desk.reset.alarms.journalFull.holds = decide (16384 - Desk.reset.journal.held.length ≤ Desk.reset.settings.returnReserve) ∧
    (journalDesk 16384).alarms.journalFull.holds = false ∧
    decide (16384 - (journalDesk 16384).journal.held.length ≤ (journalDesk 16384).settings.returnReserve) = true := by
  refine ⟨rfl, rfl, ?_⟩
  rw [journalDesk_held]
  rfl

/-- A full ring at a change of a station's state, with JOURNAL_FULL not yet told there. -/
theorem test_hyp_fullAtChange :
    16384 - (journalDesk 16384).journal.held.length ≤ (journalDesk 16384).settings.returnReserve ∧
    ∀ q ∈ ((journalDesk 16384).arbiters.get .st0).pending, q.source ≠ .journalFull := by
  rw [journalDesk_held]
  exact ⟨by decide, nofun⟩

/-- JOURNAL_FULL holds and the ring has room again. -/
theorem test_hyp_conditionEnds :
    let held := { Desk.reset with alarms := { Desk.reset.alarms with journalFull := ⟨true, 1, true⟩ } }
    held.alarms.journalFull.holds = true ∧
    decide (16384 - held.journal.held.length ≤ held.settings.returnReserve) = false := by decide

theorem test_hyp_UploadCommands :
    State.reset.Dispatches ∧ Desk.reset.frameArrives.upload.state = .idle ∧
    Desk.reset.journal.released ≠ Desk.reset.journal.newest ∧
    ({ Desk.reset with journal := ⟨[], 1, 1⟩ } : Desk).journal.released = ({ Desk.reset with journal := ⟨[], 1, 1⟩ } : Desk).journal.newest ∧
    (uploadDesk .stalled none 1).frameArrives.upload.state = .stalled ∧
    (uploadDesk .sending (some ⟨1, 1⟩) 1).upload.state = .sending ∧
    (uploadDesk .sending (some ⟨1, 1⟩) 1).upload.takenTimer ≠ none ∧ Desk.reset.upload.takenTimer = none :=
  ⟨dispatches _ rfl, by decide⟩

/-- A TAKEN timer that expires while the block, composed anew, still waits: the block is withdrawn, an end frame stays. -/
theorem test_stallWithdrawsTheBlock :
    ({ uploadDesk .sending (some ⟨1, 1⟩) 1 with uploadList := [.finish 1 1, .block 1 1 1 [.cold]] }).stallUpload.uploadList =
      [.finish 1 1] := by decide

theorem test_hyp_UploadTakenReleases :
    let sending := uploadDesk .sending (some ⟨1, 1⟩) 1
    (onDesk sending).Dispatches ∧ sending.frameArrives.upload.state ≠ .idle ∧
    sending.frameArrives.upload.block = some ⟨(1 : Word).toNat, (1 : Byte).toNat⟩ ∧
    sending.frameArrives.upload.block ≠ some ⟨(2 : Word).toNat, (1 : Byte).toNat⟩ ∧
    (sending.release 1 1).journal.released = sending.upload.cut ∧
    ((uploadDesk .sending (some ⟨1, 1⟩) 2).release 1 1).journal.released ≠ 2 :=
  ⟨dispatches _ rfl, by decide⟩

theorem coherent_reset : Desk.reset.journal.Coherent :=
  ⟨by decide, by decide, by decide, by decide, by decide⟩

theorem test_hyp_blockIsComposed : (uploadDesk .sending none 1).journal.Coherent ∧
    seqDistance (uploadDesk .sending none 1).journal.released (uploadDesk .sending none 1).upload.cut ≤
      (uploadDesk .sending none 1).journal.held.length ∧
    0 < seqDistance (uploadDesk .sending none 1).journal.released (uploadDesk .sending none 1).upload.cut :=
  ⟨coherent_reset, by decide, by decide⟩

/-- A waiting upload that may start, with records and without, and one that may not. -/
theorem test_hyp_uploadStarts :
    let waits := { Desk.reset with upload := { Desk.reset.upload with waiting := some 0 }, link := .online 60 }
    (waits.upload.waiting ≠ none ∧ waits.upload.state = .idle ∧ waits.mode = .closed ∧ waits.link ≠ .offline) ∧
    waits.journal.released ≠ waits.journal.newest ∧
    ({ waits with journal := ⟨[], 1, 1⟩ } : Desk).journal.released = ({ waits with journal := ⟨[], 1, 1⟩ } : Desk).journal.newest ∧
    Desk.reset.upload.waiting = none := by decide

/-! ## The Desk Link -/

theorem test_hyp_ResetTakesEffect : State.reset.Dispatches ∧ State.reset.desk.power.on = true := ⟨dispatches _ rfl, rfl⟩

theorem test_hyp_FramesThatArrive :
    let waits := { Desk.reset with upload := { Desk.reset.upload with waiting := some 0 } }
    Desk.reset.link = .offline ∧ ({ Desk.reset with link := .online 60 } : Desk).link ≠ .offline ∧
    waits.upload.waiting ≠ none ∧ waits.upload.state = .idle ∧ waits.mode = .closed ∧
    (requestFrame 0 [] (.statusRead 7)).isSome = true ∧ Instr.wellFormed (.badKindFrame 7 0x13) = true ∧
    (onLine { LinkLine.reset .r19200 with resetWaiting := true }).line.resetWaiting = true ∧
    8 ≤ (onLine { LinkLine.reset .r19200 with replies := replies 8 }).line.replies.length ∧
    (replies 7).length < replyCapacity := by decide

/-- Payloads that their kind does not have: a wrong length, an unknown table, operation, mode or setting, a DESK_MODE byte and a
LOOKUP_REPLY answer other than 1 and 2, kinds at both ends; and their neighbours that it has. -/
theorem test_hyp_payloadFits :
    let reply := fun answer : Byte => List.replicate 8 0 ++ answer :: List.replicate 7 0
    let misfits : List (Byte × List Byte) := [(0x01, [8, 2]), (0x01, [9, 2, 0]), (0x01, [0, 3]), (0x01, [8, 4]), (0x01, [8, 0]),
      (0x01, []), (0x02, [8, 1]), (0x02, [9, 1, 0]), (0x02, [8, 3, 0]), (0x03, [27, 0, 0, 0, 0, 0]), (0x03, [0, 0, 0, 0, 0, 0]),
      (0x03, [5, 0, 0, 0, 0]), (0x07, [0]), (0x07, [3]), (0x08, [0]), (0x0d, reply 0), (0x0d, reply 3), (0x12, [0])]
    let fits : List (Byte × List Byte) := [(0x01, [8, 2, 0]), (0x01, [8, 3]), (0x02, [8, 2, 0]), (0x03, [26, 0, 0, 0, 0, 0]),
      (0x03, [1, 0, 0, 0, 0, 0]), (0x07, [1]), (0x07, [2]), (0x08, []), (0x0d, reply 1), (0x0d, reply 2), (0x12, [])]
    misfits.all (fun x => !payloadFits x.1 x.2) = true ∧ fits.all (fun x => payloadFits x.1 x.2) = true ∧
    (misfits ++ fits).all (fun x => 1 ≤ x.1.toNat && x.1.toNat ≤ 0x12) = true ∧ ¬ 1 ≤ (0 : Byte).toNat ∧
    0x12 < (0x13 : Byte).toNat := by decide +kernel

theorem test_hyp_ReceiveFramer :
    let framer := fun f => (onLine { LinkLine.reset .r19200 with framer := f }).line.framer
    State.reset.line.framer = .hunting ∧ (0xa4 : Byte) ≠ 0xa5 ∧ framer (.header []) ≠ .hunting ∧
    framer (.header [8, 1]) = .header [8, 1] ∧ [(8 : Byte), 1].length ≤ 2 ∧ framer (.header [8, 1, 3]) = .header [8, 1, 3] ∧
    1020 < 256 * (3 : Byte).toNat + (0xfd : Byte).toNat ∧ 256 * (3 : Byte).toNat + (0xfc : Byte).toNat ≤ 1020 ∧
    0 < 256 * (0 : Byte).toNat + (1 : Byte).toNat ∧ 256 * (0 : Byte).toNat + (0 : Byte).toNat = 0 ∧
    framer (.payload 8 1 2 [0]) = .payload 8 1 2 [0] ∧ ¬ [(0 : Byte)].length + 1 < 2 ∧ ([] : List Byte).length + 1 < 2 ∧
    framer (.check 8 1 [] none) = .check 8 1 [] none ∧ framer (.check 8 1 [] (some 0)) = .check 8 1 [] (some 0) := by decide

/-- A check that agrees: the STATUS_READ frame with tag 1. -/
theorem test_checkAgrees : (crc16 ([0x08, 0x01] ++ bytesOf 2 0 ++ [])).toNat = 256 * (0x36 : Byte).toNat + (0x33 : Byte).toNat := by
  decide +kernel

theorem test_hyp_LivenessExpiresAndFramesAreSent :
    let sends := fun f => onLine { LinkLine.reset .r19200 with transmitting := some f, resetWaiting := true }
    let sending := uploadDesk .sending (some ⟨1, 1⟩) 1
    State.reset.desk.link = .offline ∧ ({ Desk.reset with link := .online 60 } : Desk).link ≠ .offline ∧
    (sends (.reply ⟨1, .ok, [], true⟩)).line.transmitting = some (.reply ⟨1, .ok, [], true⟩) ∧
    (sends (.upload (.block 1 1 1 [.cold]))).line.transmitting = some (.upload (.block 1 1 1 [.cold])) ∧
    (sends (.reply ⟨1, .ok, [], true⟩)).line.resetWaiting = true ∧ State.reset.line.resetWaiting = false ∧
    sending.upload.state = .sending ∧ sending.upload.block = some ⟨1, 1⟩ ∧ Desk.reset.upload.state ≠ .sending := by decide

theorem test_hyp_TransmitTakesInOrder :
    let online : Desk := { Desk.reset with link := .online 60, notices := [] }
    State.reset.desk.link = .offline ∧ online.link ≠ .offline ∧ (onLine { LinkLine.reset .r19200 with replies := replies 1 }).line.replies = replies 1 ∧
    ({ online with lookupList := [⟨.st0, card⟩] } : Desk).lookupList = [⟨.st0, card⟩] ∧
    ({ online with uploadList := [.finish 1 1] } : Desk).uploadList = [.finish 1 1] ∧ online.lookupList = [] ∧
    online.notices = [] ∧ Desk.reset.notices ≠ [] ∧ online.uploadList = [] ∧ State.reset.line.replies = [] ∧
    State.reset.line.transmitting = none := by decide

theorem test_hyp_FramerReadsEveryEnvelope : (List.replicate 1020 (0 : Byte)).length ≤ 1020 ∧ ([] : List Byte).length ≤ 1020 :=
  ⟨Nat.le_of_eq List.length_replicate, Nat.zero_le _⟩

theorem test_hyp_FrameIsItsRow : (List.replicate 7 (0 : Byte)).length = 7 ∧
    requestFrame 0 (List.replicate 7 0) (.clockSet 9 9204 1439 59) = some ⟨0x06, 9, [0x23, 0xf4, 0x05, 0x9f, 0x3b]⟩ := by decide

/-- A loan rule entry is 14 bytes, read and written, with the two bytes of each of its three long fields. -/
theorem test_loanRuleFrame :
    let rule := ruleWire 15 31 (some ⟨15, 31, .days, 365, 24, 9, 30, 999, 65535⟩)
    rule.bytes = [15, 31, 1, 0x3f, 0x01, 0x6d, 24, 9, 30, 0x03, 0xe7, 0xff, 0xff, 0] ∧
    requestFrame 0x5a [] (.tableWriteLoanRulePut 9 rule) =
      some ⟨0x01, 9, [7, 1, 15, 31, 1, 0x3f, 0x01, 0x6d, 24, 9, 30, 0x03, 0xe7, 0xff, 0xff, 0x5a]⟩ := by decide +kernel

/-! ## Slips and power -/

theorem test_hyp_SlipsComposedAndHandedOver :
    let full := printerDesk { Printer.restart with status := .offline, queue := List.replicate 8 slip }
    let held := { Desk.reset with slips := { Desk.reset.slips with deferrals := [slip] } }
    held.slips.deferrals.any (fun o => o.station == slip.station) = true ∧
    (∀ o ∈ full.slips.deferrals, o.station ≠ slip.station) ∧
    ¬ (full.slips.printers.get (full.stationSettings.get .st0).printer).queue.length < 8 ∧
    ((printerDesk { Printer.restart with status := .offline, queue := List.replicate 7 slip }).slips.printers.get .p0).queue.length < 8 ∧
    (full.context .st0).isOpen = false ∧ (openDesk.context .st0).isOpen = true := by decide

/-- A freed place goes to the oldest deferred slip; jobs of AUTOMATIC stations move from a failed printer past a MANUAL one; a READY
printer starts its head job, marked or not. -/
theorem test_hyp_settleSlips :
    let job := fun st : StationId => { slip with station := st }
    let failed := fun jobs => { Printer.restart with status := .offline, queue := jobs }
    let desk := fun p0 p1 deferred => { settingsDesk id with
      stationSettings := { Desk.reset.stationSettings with st1.failover := .manual }
      slips := { Desk.reset.slips with printers := ⟨p0, p1⟩, deferrals := deferred } }
    let full := failed (List.replicate 8 (job .st0))
    let queues := fun d : Desk => (d.slips.printers.p0.queue.map SlipJob.station, d.slips.printers.p1.queue.map SlipJob.station)
    let placed := desk (failed (List.replicate 7 (job .st1))) .restart [job .st1, job .st0]
    let moved := desk (failed [job .st0, job .st1, job .st2]) .restart []
    ((placed.slips.deferrals.map SlipJob.station).Nodup ∧ placed.settleSlips.slips.deferrals = [job .st0] ∧
      queues placed.settleSlips = (List.replicate 8 .st1, [])) ∧
    (queues moved.settleSlips = ([.st1], [.st0, .st2]) ∧ moved.settleSlips.slips.printers.p1.status = .busy ∧
      moved.settleSlips.slips.printers.p1.sending = some .header) ∧
    queues (desk full full [job .st0]).settleSlips = (List.replicate 8 .st0, List.replicate 8 .st0) ∧
    ({ slip with reprint := true } : SlipJob).sendLines = [.header, .reprint, .footer] := by decide +kernel

theorem test_hyp_PrinterRows :
    let printing := fun n => printerDesk { Printer.restart with
      status := .busy, queue := [slip], position := n, sending := some .header, lineTimer := some 3 }
    let x := fun n => (printing n).slips.printers.get .p0
    ((Desk.reset.slips.printers.get .p0).sending = none ∧ (Desk.reset.slips.printers.get .p0).status = .ready) ∧
    ((x 0).sending ≠ none ∧ (x 0).status = .busy ∧ (x 0).queue = [slip] ∧ (x 0).lineTimer ≠ none) ∧
    (slip.sendLines[(x 0).position + 1]? = some .footer ∧ slip.sendLines[(x 1).position + 1]? = none) ∧
    ((printerDesk { Printer.restart with status := .paperOut }).slips.printers.get .p0).status = .paperOut ∧
    ((printerDesk { Printer.restart with status := .offline }).slips.printers.get .p0).status = .offline ∧
    ((some 0x46 : Option Byte) ≠ some 0x52 ∧ (some 0x46 : Option Byte) ≠ some 0x50) ∧
    ((none : Option Byte) ≠ some 0x52 ∧ (none : Option Byte) ≠ some 0x50) := by decide

theorem test_hyp_OutagesAndRestarts :
    let out := fun fell => onDesk { Desk.reset with power := ⟨false, fell⟩ }
    State.reset.desk.power.on = true ∧ (out false).desk.power.on = false ∧ (out true).desk.power.batteryFell = true ∧
    (out false).desk.power.batteryFell = false := by decide

/-! ## Settings and tables -/

/-- Each index at the ends of its range and beyond, and each value that names something or nothing. -/
theorem test_hyp_NumericSettingsAreClamped : State.reset.Dispatches ∧ PrinterId.ofNumber (0 : Byte).toNat = some .p0 ∧
    PrinterId.ofNumber (1 : Byte).toNat = some .p1 ∧ 2 ≤ (2 : Byte).toNat ∧ StationId.ofNumber (0 : Byte).toNat = some .st0 ∧
    StationId.ofNumber (3 : Byte).toNat = some .st3 ∧ 4 ≤ (4 : Byte).toNat ∧ (1439 : Word) ≠ 0xffffffff :=
  ⟨dispatches _ rfl, by decide⟩

theorem test_hyp_NamedSettingsAreChecked :
    let localDesk := settingsDesk fun x => { x with timeSource := .localTime }
    let off := { disabledDesk with stationSettings := { disabledDesk.stationSettings with st0.enabled := false } }
    let waits := { Desk.reset with slips := { Desk.reset.slips with
      printers := ⟨⟨.offline, List.replicate 8 slip, 0, none, none⟩, ⟨.offline, List.replicate 8 slip, 0, none, none⟩⟩
      deferrals := [slip] } }
    (onDesk localDesk).Dispatches ∧ localDesk.frameArrives.settings.timeSource = .localTime ∧
    State.reset.desk.frameArrives.settings.timeSource = .marks ∧ (3 : Word) ≠ 1 ∧ (3 : Word) ≠ 2 ∧ (0 : Word) ≠ 1 ∧
    1 < (2 : Word).toNat ∧ (1 : Word).toNat ≤ 1 ∧ NoticeKind.ofNumber 1 = some .watchHit ∧
    NoticeKind.ofNumber 7 = some .alarm ∧ NoticeKind.ofNumber 0 = none ∧ NoticeKind.ofNumber 8 = none ∧
    (off.frameArrives.stationSettings.get .st0).enabled = false ∧ off.frameArrives.context .st0 = .disabled ∧
    (Desk.reset.stationSettings.get .st0).enabled = true ∧ (15 : Word).toNat < 16 ∧ 16 ≤ (16 : Word).toNat ∧
    PrinterId.ofNumber (1 : Word).toNat = some .p1 ∧ (waits.frameArrives.stationSettings.get .st0).printer ≠ .p1 ∧
    ((waits.frameArrives.onStationSettings .st0 fun x => { x with printer := .p1 }).settleSlips.deferredAt .st0) ≠ none ∧
    Desk.reset.deferredAt .st0 = none :=
  ⟨dispatches _ rfl, by decide +kernel⟩

/-- The precedence list as a number, and one that names a level twice. -/
theorem test_hyp_precedence : [Level.info, .action, .refusal, .urgent].Perm [.urgent, .refusal, .action, .info] ∧
    (0x04030201 : Word) = BitVec.ofNat 32 ([Level.info, .action, .refusal, .urgent].foldl (fun n l => 256 * n + l.number) 0) ∧
    [Level.ofNumber 1, Level.ofNumber 4] = [some .urgent, some .info] ∧
    ¬ [Level.info, .info, .refusal, .urgent].Perm [.urgent, .refusal, .action, .info] := by decide

theorem test_hyp_SettingsAreRead : State.reset.Dispatches ∧ (0 : Byte) = 0 ∧ 26 < (27 : Byte).toNat ∧
    PrinterId.ofNumber (2 : Byte).toNat = none ∧ NoticeKind.ofNumber (8 : Byte).toNat = none ∧
    StationId.ofNumber (4 : Byte).toNat = none ∧ NoticeKind.ofNumber (7 : Byte).toNat = some .alarm :=
  ⟨dispatches _ rfl, by decide⟩

theorem test_hyp_TableReadsReturnEntries : State.reset.Dispatches ∧ (31 : Byte).toNat ≤ 31 ∧ 31 < (32 : Byte).toNat ∧
    (6 : Byte).toNat ≤ 6 ∧ 6 < (7 : Byte).toNat ∧ (15 : Byte).toNat ≤ 15 ∧ 15 < (16 : Byte).toNat ∧
    CodeField.code (CodeField.ofCode card) = some card ∧ CodeField.code 0xfffffffffff12345 = none ∧
    CodeField.code 0xffffffffff123456 = some [1, 2, 3, 4, 5, 6] ∧ CodeField.digits 1 0xfffffffffffffff7 = some [7] ∧
    CodeField.digits 1 CodeField.absent = none ∧ ([7] : Code).length + 5 = 6 ∧ ¬ ([7] : Code).length + 4 = 6 ∧
    ([7] : Code).length + 8 = 9 ∧ ¬ (9 : Byte).toNat ≤ 8 ∧
    BlockKeyWire.key ⟨0xfffffffffffffff7, 5, 6⟩ = some ⟨6, 5, [7]⟩ ∧ BlockKeyWire.key ⟨0xfffffffffffffff7, 4, 6⟩ = none :=
  ⟨dispatches _ rfl, by decide +kernel⟩

theorem test_hyp_TableDeletesAndClears :
    let t := { calendar with
      prefixes := prefixTable, borrowers := [entryOf card false], items := [⟨item, none, .reference⟩]
      blocks := [⟨⟨10, 0, card⟩, .watch, 3, none⟩] }
    let key : BlockKeyWire := ⟨CodeField.ofCode card, 0, 10⟩
    (onDesk (tablesDesk .closed t)).Dispatches ∧ (tablesDesk .closed t).frameArrives.mode = .closed ∧
    (tablesDesk .opened t).frameArrives.mode ≠ .closed ∧ t.prefixes.any (fun e => e.slot == 6) = true ∧
    (∀ e ∈ t.prefixes, e.slot ≠ 31) ∧ (∀ e ∈ t.exceptions, e.day ≠ 9224) ∧
    t.exceptions.any (fun e => e.day == 9225) = true ∧ CodeField.code (CodeField.ofCode card) = some card ∧
    openDesk.frameArrives.cardInUse card = true ∧ (tablesDesk .closed t).frameArrives.cardInUse card = false ∧
    t.borrowers.any (fun e => e.card == card) = true ∧ (∀ e ∈ t.borrowers, e.card ≠ item) ∧
    lentDesk.frameArrives.itemListed item = true ∧ (tablesDesk .closed t).frameArrives.itemListed item = false ∧
    t.items.any (fun e => e.code == item) = true ∧ (∀ e ∈ t.items, e.code ≠ card) ∧
    BlockKeyWire.key key = some ⟨10, 0, card⟩ ∧ BlockKeyWire.key ⟨CodeField.ofCode card, 1, 10⟩ = none ∧
    Table.find BlockEntry.rank (BlockKey.rank ⟨10, 0, card⟩) t.blocks ≠ none ∧
    Table.find BlockEntry.rank (BlockKey.rank ⟨10, 0, card⟩) calendar.blocks = none :=
  ⟨dispatches _ rfl, by decide +kernel⟩

/-- For each table, an entry that a PUT stores and one that it refuses. -/
theorem test_hyp_TablePuts :
    let px := fun lengths check : Byte => PrefixWire.mk 7 (CodeField.ofCode [3, 9]) lengths lengths 2 check 1 5
    (PrefixWire.entry (px 11 1)).isSome = true ∧ PrefixWire.entry (px 17 1) = none ∧ PrefixWire.entry (px 11 3) = none ∧
    prefixTable.any (fun o => o.slot != 7 && o.lead == [3, 9] && o.minLength == 11 && o.maxLength == 11) = true ∧
    WeeklyWire.hours ⟨6, 0, 1, 0, 1439⟩ = some (some ⟨0, 1439⟩) ∧ WeeklyWire.hours ⟨6, 1, 0, 0, 0⟩ = some none ∧
    WeeklyWire.hours ⟨6, 0, 1, 5, 5⟩ = none ∧
    ExceptionWire.entry ⟨9225, 1, 0, 0, 0⟩ = some ⟨9225, .closed⟩ ∧ ExceptionWire.entry ⟨9225, 1, 1, 0, 5⟩ = none ∧
    BorrowerWire.entry ⟨CodeField.ofCode card, 15, 99, 15, 0, 65535, 65535⟩ = some ⟨card, 15, 99, 15, 65535, 65535, false⟩ ∧
    BorrowerWire.entry ⟨CodeField.ofCode card, 16, 0, 0, 0, 0, 0⟩ = none ∧
    (BlockWire.entry ⟨⟨CodeField.ofCode card, 0, 10⟩, 3, 63, 0, 0⟩).isSome = true ∧
    BlockWire.entry ⟨⟨CodeField.ofCode card, 0, 10⟩, 3, 64, 0, 0⟩ = none ∧
    BlockWire.entry ⟨⟨CodeField.ofCode card, 0, 10⟩, 3, 63, 0, 9300⟩ = some ⟨⟨10, 0, card⟩, .watch, 63, none⟩ ∧
    (RuleWire.rule ⟨15, 31, 1, 0x3f, 21, 0, 2, 1, 20, 500⟩).isSome = true ∧
    RuleWire.rule ⟨16, 31, 1, 0x3f, 21, 0, 2, 1, 20, 500⟩ = none ∧
    (CategoryWire.entry ⟨3, 6, 0, 0, 2, 7⟩).isSome = true ∧
    CategoryWire.entry ⟨3, 0, 0, 0, 0, 7⟩ = some ⟨3, 0, 0, 0, 0, 7⟩ := by decide +kernel

/-- Entries at the ends of their ranges, and one of each status an item may have with all its optional fields. -/
theorem test_hyp_WireFormsAreEntries :
    (PrefixEntry.mk 31 [1, 2, 3, 4, 5, 6] 6 16 (.borrower 15) .weighted10).Legal ∧
    (PrefixEntry.mk 0 [9] 16 16 (.item 31) .none).Legal ∧ (PrefixEntry.mk 0 [9] 6 6 .command .none).Legal ∧
    (PrefixEntry.mk 0 [9] 6 6 .ignore .weighted10).Legal ∧ (Hours.mk 0 1439).Legal ∧ (Hours.mk 1438 1439).Legal ∧
    (Borrower.mk card 15 99 15 65535 65535 true).Legal ∧ (BlockKey.mk 16 8 [1, 2, 3, 4, 5, 6, 7, 8]).Legal ∧
    (BlockKey.mk 6 5 [1]).Legal ∧ (LoanRule.mk 15 31 .days 365 24 9 30 999 65535).Legal ∧
    (LoanRule.mk 0 0 .hours 72 0 0 0 0 0).Legal ∧ (CategoryEntry.mk 15 99 65535 60 24 30).Legal ∧
    (ItemEntry.mk item (some 31) (.onLoan card ⟨65535, some 1439⟩ 9 (some item))).Legal ∧
    (ItemEntry.mk item none (.holdPending card)).Legal ∧ (ItemEntry.mk item none (.onHoldShelf card 65535)).Legal ∧
    (ItemEntry.mk item none (.missing (some card))).Legal ∧ (ItemEntry.mk item none .withdrawn).Legal := by
  simp [PrefixEntry.Legal, Hours.Legal, Borrower.Legal, BlockKey.Legal, LoanRule.Legal, CategoryEntry.Legal, ItemEntry.Legal,
    legalCode, card, item]

/-- A hold placed on an item: with no entry, on a lent item of another and of the same borrower, and on a missing one. -/
theorem test_hyp_itemPuts :
    let hold : ItemWire := ⟨CodeField.ofCode item, 2, 8, 0, 0, CodeField.absent, 0, 0, CodeField.ofCode card, 0⟩
    let lentTo := fun holder => tablesDesk .opened { calendar with items := [⟨item, none, .onLoan holder ⟨9226, none⟩ 0 none⟩] }
    ItemWire.entry hold = some ⟨item, none, .holdPending card⟩ ∧ ItemWire.entry { hold with presence := 0 } = none ∧
    Desk.reset.item item = none ∧ (lentTo card).item item = some ⟨item, none, .onLoan card ⟨9226, none⟩ 0 none⟩ ∧
    (lentTo item).item item = some ⟨item, none, .onLoan item ⟨9226, none⟩ 0 none⟩ ∧ card ≠ item ∧
    (tablesDesk .opened { calendar with items := [⟨item, none, .missing none⟩] }).item item = some ⟨item, none, .missing none⟩ := by
  decide +kernel

/-- Full tables that hold no entry of the new key. -/
theorem test_hyp_fullTables :
    let list := fun n => List.replicate n (⟨item, none, .reference⟩ : ItemEntry)
    let blocks := fun n => List.replicate n (⟨⟨10, 0, card⟩, .watch, 3, none⟩ : BlockEntry)
    let days := List.replicate 96 (⟨9225, .closed⟩ : ExceptionEntry)
    (Table.find ItemEntry.key (Code.rank card) (list 131072) = none ∧ ¬ (list 131072).length < 131072) ∧
    (Table.find BlockEntry.rank (BlockKey.rank ⟨10, 1, card⟩) (blocks 1024) = none ∧ ¬ (blocks 1024).length < 1024) ∧
    (Table.find ExceptionEntry.key 9226 days = none ∧ ¬ days.length < 96) := by
  simp only [List.length_replicate]
  exact ⟨⟨find_replicate (by decide +kernel) _, by decide⟩, ⟨find_replicate (by decide +kernel) _, by decide⟩,
    find_replicate (by decide) _, by decide⟩

/-! ## Dues, loans, renewals and returns -/

/-- Each way in which a due is reckoned: the three ends of a day loan, the four of an hourly one with and without its cap, the next
open day missing and past the last day, a renewal that is earlier than the due, and the three sources of the shelf days. -/
theorem test_hyp_DuesAreReckoned :
    let rule := fun kind period => LoanRule.mk 3 12 kind period 0 2 1 20 500
    let q := fun today minute expiry => DueQuestion.mk today minute expiry calendar 30
    let empty := fun today expiry => DueQuestion.mk today 0 expiry Desk.reset.tables 30
    let held := fun borrowers => tablesDesk .opened
      { calendar with prefixes := prefixTable, borrowers := borrowers, categories := [⟨3, 6, 0, 0, 1, 9⟩] }
    ((q 9204 0 9300).loanDue (rule .days 21) = ⟨⟨9226, none⟩, false⟩ ∧
      (q 9204 0 9220).loanDue (rule .days 21) = ⟨⟨9219, none⟩, false⟩ ∧
      (empty 9204 9300).loanDue (rule .days 21) = ⟨⟨9225, none⟩, true⟩) ∧
    ((q 9204 1020 9300).loanDue (rule .hours 3) = ⟨⟨9204, some 1200⟩, false⟩ ∧
      (q 9204 1021 9300).loanDue (rule .hours 3) = ⟨⟨9204, some 1200⟩, false⟩ ∧
      (q 9204 1170 9300).loanDue (rule .hours 3) = ⟨⟨9204, some 1200⟩, false⟩ ∧
      (q 9204 1171 9300).loanDue (rule .hours 3) = ⟨⟨9205, some 780⟩, false⟩ ∧
      (q 9204 1230 9204).loanDue (rule .hours 3) = ⟨⟨9204, some 1230⟩, false⟩ ∧
      (q 9220 600 9219).loanDue (rule .hours 3) = ⟨⟨9220, some 1439⟩, false⟩ ∧
      (empty 9204 9300).loanDue (rule .hours 3) = ⟨⟨9205, some 180⟩, true⟩ ∧
      (empty 65535 65535).loanDue (rule .hours 3) = ⟨⟨65535, some 1439⟩, true⟩) ∧
    ((q 9204 0 9300).renewalDue (rule .days 21) ⟨9219, none⟩ = ⟨⟨9226, none⟩, false⟩ ∧
      (q 9204 0 9300).renewalDue (rule .days 21) ⟨9226, none⟩ = ⟨⟨9226, none⟩, false⟩ ∧
      (empty 9204 9300).renewalDue (rule .days 21) ⟨9300, none⟩ = ⟨⟨9300, none⟩, false⟩) ∧
    ((held [entryOf card false]).borrower card ≠ none ∧ (held []).borrower card = none ∧
      classifyCode (held []).tables.prefixes card = some (.borrower 3) ∧ (held []).pickupDay card = (9, false) ∧
      classifyCode (held []).tables.prefixes [4, 1, 2, 3, 4, 5] = none ∧ (held []).pickupDay [4, 1, 2, 3, 4, 5] = (7, false) ∧
      Desk.reset.pickupDay card = (7, true)) := by
  decide +kernel

/-- Checks that pass and fail in each order, without the arm and with it. -/
theorem test_hyp_ChecksRunInOrder :
    let passes : Check := ⟨false, .blocked, false⟩
    let hard : Check := ⟨true, .onLoanOther, false⟩
    let soft : Check := ⟨true, .expired, true⟩
    let later : Check := ⟨true, .finesLimit, true⟩
    judge true none [passes, passes] = .made none ∧ judge false none [passes, soft, hard] = .refused .expired ∧
    judge true none [passes, hard, soft] = .refused .onLoanOther ∧ judge true none [soft, passes] = .made (some .expired) ∧
    judge true none [soft, passes, later] = .refused .finesLimit ∧ judge true none [soft, hard] = .refused .onLoanOther := by
  decide

/-- A desk at which the session's borrower may be lent the item under a day rule. -/
def lendingDesk : Desk :=
  { openDesk with
    clock := { openDesk.clock with day := 9204, minute := 600 }
    tables := { calendar with
      borrowers := [entryOf card false], categories := [⟨3, 6, 0, 0, 1, 7⟩]
      rules := [⟨3, 12, .days, 21, 0, 2, 1, 20, 500⟩] } }

theorem sorted_lendingDesk : lendingDesk.tables.Sorted :=
  ⟨.nil, by decide, by decide, List.pairwise_singleton _ _, .nil, .nil, List.pairwise_singleton _ _,
    List.pairwise_singleton _ _⟩

theorem test_hyp_LoanTakesEffect :
    lendingDesk.tables.Sorted ∧ lendingDesk.context .st0 = .opened session ∧ (lendingDesk.stations.get .st0).mode = .loan ∧
    session.items.length < 24 ∧ (List.replicate 23 lentEntry).length < 24 ∧ session.lists item = false ∧
    lendingDesk.listedElsewhere .st0 item = false ∧
    judge false none ((lendingDesk.lapseAtRead .st0 item).loanChecks session item 12) = .made none ∧
    ((lendingDesk.lapseAtRead .st0 item).rule 3 12).isSome = true ∧
    judge false none ((lendingDesk.lapseAtRead .st0 item).loanChecks session item 11) = .refused .notLendable :=
  ⟨sorted_lendingDesk, by decide +kernel⟩

/-- The refusals of checks 1 to 3, an item that waits on the shelf for its borrower, and a check passed over under the arm. -/
theorem test_hyp_loanRefusals :
    let full := { session with items := List.replicate 24 lentEntry }
    let atOther := { openDesk with stations := { openDesk.stations with st1 := ⟨.opened lentSession, .loan, .quiet⟩ } }
    let shelved := { lendingDesk with tables := { lendingDesk.tables with
      items := [⟨item, none, .onHoldShelf card 9204⟩] } }
    let expired := { lendingDesk with clock := { lendingDesk.clock with day := 9301 } }
    (24 ≤ full.items.length ∧ lentSession.items.length < 24 ∧ (∃ e ∈ lentSession.items, e.code = item) ∧
      ¬ ∃ e ∈ session.items, e.code = item) ∧
    ((atOther.context .st1).lists item = true ∧ StationId.st1 ≠ .st0) ∧
    ((shelved.lapseAtRead .st0 item).item item = some ⟨item, none, .onHoldShelf card 9204⟩ ∧
      judge false none ((shelved.lapseAtRead .st0 item).loanChecks session item 12) = .made none) ∧
    (judge false none ((expired.lapseAtRead .st0 item).loanChecks session item 12) = .refused .expired ∧
      judge true none ((expired.lapseAtRead .st0 item).loanChecks { session with arm := some 60 } item 12) = .made (some .expired) ∧
      expired.settings.routing.overrideUsed = true) := by
  decide +kernel

/-- The loan of 6.8 at station 0: due day 9,226, and the LOAN record is seq 2. -/
theorem test_loan : ((lendingDesk.takeItem .st0 item 12).item item = some ⟨item, none, .onLoan card ⟨9226, none⟩ 0 none⟩) ∧
    (lendingDesk.takeItem .st0 item 12).context .st0 = .opened { session with items := [.lent item ⟨9226, none⟩ 2 none] } := by
  decide +kernel

/-- A desk with the item lent to the borrower, with a hold of another or with none, returned seven days late. -/
def returningDesk (hold : Option Code) : Desk :=
  { lendingDesk with
    clock := { lendingDesk.clock with day := 9233 }
    tables := { lendingDesk.tables with items := [⟨item, none, .onLoan card ⟨9226, none⟩ 0 hold⟩] } }

/-- A desk in RENEW mode with the item lent to the session's borrower, renewed a number of times. -/
def renewingDesk (used : Nat) : Desk :=
  { lendingDesk with
    stations := { lendingDesk.stations with st0 := ⟨.opened session, .renew, .quiet⟩ }
    tables := { lendingDesk.tables with items := [⟨item, none, .onLoan card ⟨9219, none⟩ used none⟩] } }

theorem sorted_renewingDesk (used : Nat) : (renewingDesk used).tables.Sorted :=
  ⟨.nil, sorted_lendingDesk.weekly, sorted_lendingDesk.exceptions, sorted_lendingDesk.borrowers, .nil,
    List.pairwise_singleton _ _, sorted_lendingDesk.rules, sorted_lendingDesk.categories⟩

theorem test_hyp_RenewalTakesEffect : (∀ used, (renewingDesk used).tables.Sorted) ∧
    (renewingDesk 1).context .st0 = .opened session ∧ ((renewingDesk 1).stations.get .st0).mode = .renew ∧
    judge false none (((renewingDesk 1).lapseAtRead .st0 item).renewalChecks session item 12) = .made none ∧
    judge false none (((renewingDesk 1).lapseAtRead .st0 item).renewalChecks lentSession item 12) = .refused .alreadyInSession ∧
    judge false none (((renewingDesk 2).lapseAtRead .st0 item).renewalChecks session item 12) = .refused .renewLimit ∧
    judge true none (((renewingDesk 9).lapseAtRead .st0 item).renewalChecks session item 12) = .made (some .renewLimit) :=
  ⟨sorted_renewingDesk, by decide +kernel⟩

/-- The renewal of a loan of day 9,204 by 21 days. -/
theorem test_renewal : ((renewingDesk 1).takeItem .st0 item 12).item item =
    some ⟨item, none, .onLoan card ⟨9226, none⟩ 2 none⟩ := by decide +kernel

theorem test_hyp_ReturnTakesEffect : (∀ hold, (returningDesk hold).tables.Sorted) ∧
    ∀ hold ∈ [none, some item], (returningDesk hold).itemListed item = false ∧
      ((returningDesk hold).lapseAtRead .st0 item).anyRoom = true ∧
      ((returningDesk hold).lapseAtRead .st0 item).item item = some ⟨item, none, .onLoan card ⟨9226, none⟩ 0 hold⟩ ∧
      ((returningDesk hold).lapseAtRead .st0 item).borrower card = some (entryOf card false) :=
  ⟨fun _ => ⟨.nil, sorted_lendingDesk.weekly, sorted_lendingDesk.exceptions, sorted_lendingDesk.borrowers, .nil,
      List.pairwise_singleton _ _, sorted_lendingDesk.rules, sorted_lendingDesk.categories⟩, by decide +kernel⟩

/-- A desk that knows the item in a status. -/
def returnsDesk (status : ItemStatus) : Desk :=
  { returningDesk none with tables := { lendingDesk.tables with items := [⟨item, none, status⟩] } }

/-- Every other row of a return, and the refusal of an item that stands in a list. -/
theorem test_hyp_returnRows :
    let read := fun status => ((returnsDesk status).lapseAtRead .st0 item).item item
    (lentDesk.itemListed item = true ∧ (lendingDesk.lapseAtRead .st0 item).item item = none) ∧
    (∀ status ∈ [ItemStatus.reference, .withdrawn, .missing none, .missing (some card), .holdPending card, .onHoldShelf card 9233],
      read status = some ⟨item, none, status⟩ ∧ (returnsDesk status).itemListed item = false ∧
      ((returnsDesk status).lapseAtRead .st0 item).anyRoom = true) ∧
    read (.onHoldShelf card 9232) = none := by
  decide +kernel

/-- The fine of 6.8: five late units, 100 fine units. -/
theorem test_return : ((returningDesk none).returnItem .st0 item 12).borrower card =
    some ⟨card, 3, 0, 0, 100, 9300, false⟩ ∧ ((returningDesk none).returnItem .st0 item 12).item item = none := by
  decide +kernel

theorem test_hyp_DuesComparedAndFinesReckoned :
    (∀ m, (⟨9205, some 1439⟩ : Due).minute = some m → m ≤ 1439) ∧ (∀ m, (⟨9205, none⟩ : Due).minute = some m → m ≤ 1439) ∧
    Due.earlier ⟨9205, some 1439⟩ ⟨9205, none⟩ = true ∧ Due.earlier ⟨9205, none⟩ ⟨9206, some 0⟩ = true := by
  refine ⟨?_, ?_, by decide, by decide⟩ <;> simp

/-! ## Invariants -/

/-- A station that shows the higher of two pending prompts. -/
def showing : Arbiter :=
  { Arbiter.restart with pending := [.borrowerBlocked 7, .lent ⟨9226, none⟩], shown := some .borrowerBlocked, lamp := .red }

theorem showing_right : ArbiterRight Settings.default.precedence (StationSettings.default .p0).masks showing :=
  { pending := by decide
    shown := ⟨.borrowerBlocked 7, by decide, rfl, rfl, by decide⟩
    lamp := rfl }

theorem restart_right : ArbiterRight Settings.default.precedence (StationSettings.default .p0).masks .restart :=
  { pending := .nil, shown := (by decide : ∀ p ∈ ([] : List Prompt), _), lamp := rfl }

theorem test_hyp_StepKeepsHighestPromptShown : (onDesk (arbiterDesk showing)).desk.PromptsRight ∧
    ∃ t, step (onDesk (arbiterDesk showing)) = .next t :=
  ⟨{ precedence := .refl _
     arbiters := fun st => match st with
       | .st0 => showing_right
       | .st1 => restart_right
       | .st2 => restart_right
       | .st3 => restart_right }, _, rfl⟩

/-- Every invariant's premise holds of some state that steps. -/
theorem test_hyp_StepKeepsTablesSorted : (onDesk lendingDesk).desk.tables.Sorted ∧ ∃ t, step (onDesk lendingDesk) = .next t :=
  ⟨sorted_lendingDesk, _, rfl⟩

theorem test_hyp_noticesSorted : Table.Sorted Notice.key Desk.reset.notices ∧ ∃ t, step State.reset = .next t :=
  ⟨by decide, _, rfl⟩

theorem test_hyp_StepKeepsJournalCoherent : State.reset.desk.journal.Coherent ∧ ∃ t, step State.reset = .next t :=
  ⟨coherent_reset, _, rfl⟩

theorem test_hyp_StepKeepsModeAgreement : (onDesk lookupDesk).desk.ModeAgrees ∧ (onDesk { lookupDesk with mode := .closing }).desk.ModeAgrees ∧
    ∃ t, step (onDesk lookupDesk) = .next t :=
  ⟨⟨by decide, by decide⟩, ⟨by decide, by decide⟩, _, rfl⟩

theorem test_hyp_StepKeepsRanges :
    LineBounded (onLine { LinkLine.reset .r19200 with replies := replies 8, badFrames := 65535, framer := .payload 1 1 1020 [0] }).line ∧
    ScanBounded { ScanStation.restart with wand := .inFrame (List.replicate 16 0), readErrors := 65535 } ∧
    Desk.reset.alarms.Bounded :=
  ⟨⟨by decide, by decide, by decide, ⟨by decide, by decide⟩⟩, ⟨(by decide : (List.replicate 16 (0 : Digit)).length ≤ 16), by decide, by decide⟩,
    fun a => by cases a <;> decide⟩

/-- The clock at its end, a borrower with the highest counts, and the settings of a cold start. -/
theorem test_hyp_ranged :
    let d := { Desk.reset with
      clock := { day := 65535, minute := 1439, second := 59, prescaler := 32767, markAge := 172801, pendingMark := none }
      tables := { calendar with borrowers := [⟨card, 3, 99, 15, 65535, 9300, false⟩] } }
    d.Ranged ∧ ∃ t, step (onDesk d) = .next t :=
  ⟨{ clock := ⟨by decide, by decide, by decide, by decide, by decide, nofun⟩
     borrowers := by
       intro b h
       cases List.mem_singleton.mp h
       exact ⟨by decide, by decide, by decide⟩
     settings :=
       { stepLimit := by decide, markAgeLimit := by decide, lookupTimeout := by decide, closingGrace := by decide,
         minimumRemaining := by decide, displayTime := by decide, lineTimeout := fun p => by cases p <;> decide, returnReserve := by decide,
         highWater := by decide, uploadMinute := nofun, takenTimeout := by decide, linkTimeout := by decide }
     stations := fun st => by cases st <;> exact ⟨by decide, by decide, by decide, by decide, by decide⟩ }, _, rfl⟩

/-- An open session with two entries, a printer whose queue is full, and a deferred slip of another station. -/
theorem test_hyp_StepKeepsCapacities :
    let d := { lentDesk with slips := { lentDesk.slips with
      printers := ⟨{ Printer.restart with status := .offline, queue := List.replicate 8 slip }, .restart⟩
      deferrals := [{ slip with station := .st1 }] } }
    d.WithinCapacities ∧ ∃ t, step (onDesk d) = .next t :=
  ⟨{ lists := fun st x h => match st with
       | .st0 => by
         have e : lentSession = x := Context.opened.inj h
         subst e
         decide
       | .st1 => Context.noConfusion (show Context.idle = .opened x from h)
       | .st2 => Context.noConfusion (show Context.idle = .opened x from h)
       | .st3 => Context.noConfusion (show Context.idle = .opened x from h)
     queues := fun p => by cases p <;> decide
     deferrals := by decide
     unserved := by decide }, _, rfl⟩

/-- An upload with its last block in flight that waits to be sent. -/
theorem test_hyp_StepKeepsUploadBounds :
    let sending := uploadDesk .sending (some ⟨1, 1⟩) 1
    let d := { sending with
      upload := { sending.upload with sent := 1 }
      uploadList := [.block 1 1 1 sending.journal.held] }
    d.journal.Coherent ∧ d.UploadBounded ∧ ∃ t, step (onDesk d) = .next t :=
  ⟨coherent_reset,
   { newest := by decide
     idle := by decide
     running := fun _ => ⟨by decide, by decide, 1, by decide⟩
     timer := by decide
     waiting := by decide }, _, rfl⟩

end Sys2Proof.Tests
end

section
/-! PROOF. R12: the winner that the fold over the matching slots finds is the entry that no other matching slot outranks. -/

namespace Sys2Proof.Machine

/-! ## The order of R12 among matching entries -/

/-- R12's order: a longer prefix goes before a shorter one, and the lower slot at equal length. -/
def PrefixEntry.Outranks (e o : PrefixEntry) : Prop :=
  o.lead.length < e.lead.length ∨ (o.lead.length = e.lead.length ∧ e.slot ≤ o.slot)

/-- The entry of a list that R12 picks. -/
def PrefixEntry.FirstOf (e : PrefixEntry) (l : List PrefixEntry) : Prop := e ∈ l ∧ ∀ o ∈ l, e.Outranks o

theorem PrefixEntry.Outranks.refl (e : PrefixEntry) : e.Outranks e := .inr ⟨rfl, le_rfl⟩

theorem PrefixEntry.Outranks.trans {a b c : PrefixEntry} (hab : a.Outranks b) (hbc : b.Outranks c) : a.Outranks c := by
  unfold Outranks at *
  omega

/-- Entries that outrank each other have one slot, and a sorted table has one entry at a slot. -/
theorem PrefixEntry.Outranks.antisymm {l : List PrefixEntry} (hs : Table.Sorted PrefixEntry.key l) {a b : PrefixEntry}
    (ha : a ∈ l) (hb : b ∈ l) (hab : a.Outranks b) (hba : b.Outranks a) : a = b := by
  have hkey : a.key = b.key := by
    unfold Outranks at hab hba
    unfold PrefixEntry.key
    omega
  have hfind := Table.find_of_mem hs ha
  rw [hkey, Table.find_of_mem hs hb] at hfind
  exact (Option.some.inj hfind).symm

theorem PrefixEntry.FirstOf.unique {l : List PrefixEntry} (hs : Table.Sorted PrefixEntry.key l) {a b : PrefixEntry}
    (ha : a.FirstOf l) (hb : b.FirstOf l) : a = b :=
  PrefixEntry.Outranks.antisymm hs ha.1 hb.1 (ha.2 b hb.1) (hb.2 a ha.1)

/-- The choice among the entries of a list stands when an entry joins that it outranks, at whatever place. -/
theorem PrefixEntry.FirstOf.insert {e b : PrefixEntry} {l l' : List PrefixEntry} (h : e.FirstOf l) (hb : e.Outranks b)
    (hmem : ∀ o, o ∈ l' ↔ o = b ∨ o ∈ l) : e.FirstOf l' := by
  refine ⟨(hmem e).2 (.inr h.1), fun o ho => ?_⟩
  rcases (hmem o).1 ho with rfl | hol
  · exact hb
  · exact h.2 o hol

/-! ## What the fold of `winnerOf` finds -/

/-- Of the best so far and a later slot, `better` keeps the one that outranks the other. -/
theorem PrefixEntry.better_some {b a : PrefixEntry} (hslot : b.slot < a.slot) :
    (PrefixEntry.better (some b) a = some a ∧ a.Outranks b) ∨ (PrefixEntry.better (some b) a = some b ∧ b.Outranks a) := by
  unfold PrefixEntry.better PrefixEntry.Outranks
  by_cases hlen : b.lead.length < a.lead.length
  · exact .inl ⟨if_pos hlen, .inl hlen⟩
  · exact .inr ⟨if_neg hlen, by omega⟩

theorem PrefixEntry.foldl_better_firstOf (l : List PrefixEntry) : ∀ b : PrefixEntry, Table.Sorted PrefixEntry.key (b :: l) →
    ∃ e, l.foldl PrefixEntry.better (some b) = some e ∧ e.FirstOf (b :: l) := by
  induction l with
  | nil => exact fun b _ => ⟨b, rfl, List.mem_singleton_self b, List.forall_mem_singleton.2 (.refl b)⟩
  | cons a l ih =>
    intro b hs
    obtain ⟨hb, hal⟩ := List.pairwise_cons.1 hs
    obtain ⟨hba, hbl⟩ := List.forall_mem_cons.1 hb
    rw [List.foldl_cons]
    rcases PrefixEntry.better_some hba with ⟨hkeep, hout⟩ | ⟨hkeep, hout⟩ <;> rw [hkeep]
    · obtain ⟨e, hfold, he⟩ := ih a hal
      have heb : e.Outranks b := (he.2 a List.mem_cons_self).trans hout
      exact ⟨e, hfold, he.insert heb fun o => List.mem_cons⟩
    · obtain ⟨e, hfold, he⟩ := ih b (List.pairwise_cons.2 ⟨hbl, (List.pairwise_cons.1 hal).2⟩)
      have hea : e.Outranks a := (he.2 b List.mem_cons_self).trans hout
      exact ⟨e, hfold, he.insert hea fun o => by simp [or_left_comm]⟩

/-! ## The match and the winner of R12 -/

theorem PrefixEntry.matches_iff (e : PrefixEntry) (c : Code) :
    e.matches c = true ↔ e.lead = c.take e.lead.length ∧ e.minLength ≤ c.length ∧ c.length ≤ e.maxLength := by
  simp [PrefixEntry.matches, List.prefix_iff_eq_take, and_assoc]

/-- What `winnerOf` can answer: no slot matches, or the first of the matching slots in the order of R12. -/
theorem winnerOf_cases {table : List PrefixEntry} (hs : Table.Sorted PrefixEntry.key table) (c : Code) :
    (winnerOf table c = none ∧ table.filter (fun e => e.matches c) = []) ∨
    ∃ e, winnerOf table c = some e ∧ e.FirstOf (table.filter fun e => e.matches c) := by
  have hsf : Table.Sorted PrefixEntry.key (table.filter fun e => e.matches c) := Table.sorted_filter _ table hs
  unfold winnerOf
  cases hl : table.filter fun e => e.matches c with
  | nil => exact .inl ⟨rfl, rfl⟩
  | cons b l => exact .inr (PrefixEntry.foldl_better_firstOf l b (hl ▸ hsf))

theorem winnerOf_eq_some_iff {table : List PrefixEntry} (hs : Table.Sorted PrefixEntry.key table) (c : Code) (e : PrefixEntry) :
    winnerOf table c = some e ↔ e.FirstOf (table.filter fun e => e.matches c) := by
  rcases winnerOf_cases hs c with ⟨hnone, hempty⟩ | ⟨w, hw, hfirst⟩
  · simp [hnone, hempty, PrefixEntry.FirstOf]
  · rw [hw, Option.some.injEq]
    exact ⟨fun h => h ▸ hfirst, fun h => hfirst.unique (Table.sorted_filter _ table hs) h⟩

theorem winnerOf_eq_none_iff {table : List PrefixEntry} (hs : Table.Sorted PrefixEntry.key table) (c : Code) :
    winnerOf table c = none ↔ ∀ o ∈ table, ¬ o.matches c := by
  rw [← List.filter_eq_nil_iff]
  rcases winnerOf_cases hs c with ⟨hnone, hempty⟩ | ⟨w, hw, hmem, _⟩
  · exact iff_of_true hnone hempty
  · exact iff_of_false (by simp [hw]) (List.ne_nil_of_mem hmem)

/-- R13: a code that fails the WEIGHTED10 check of its winner is invalid. -/
theorem classifyScan_of_check_fails {table : List PrefixEntry} {c : Code} {e : PrefixEntry} (hw : winnerOf table c = some e)
    (hcls : e.cls ≠ .ignore) (hcheck : e.check = .weighted10) (hfail : passesWeighted10 c = false) :
    classifyScan table c = .invalid := by
  have hpass : e.passes c = false := by simp [PrefixEntry.passes, hcheck, hfail]
  simp [classifyScan, hw, hcls, hpass]

end Sys2Proof.Machine

namespace Sys2Proof.Proofs
open Sys2Proof.Machine

/-- Settles O6: the fold of `winnerOf` finds the one matching entry that no other matching entry outranks. -/
theorem longestPrefixWins : Obligations.LongestPrefixWins := by
  unfold Obligations.LongestPrefixWins
  intro table c hs fits
  have hfits (e : PrefixEntry) : e.matches c = true ↔ fits e := e.matches_iff c
  refine ⟨fun e => ?winner, ?none, fun e hw hcls hcheck hfail => classifyScan_of_check_fails hw hcls hcheck hfail⟩
  case winner =>
    rw [winnerOf_eq_some_iff hs c e]
    simp only [PrefixEntry.FirstOf, PrefixEntry.Outranks, List.mem_filter, hfits, and_imp, and_assoc]
  case none =>
    simp only [winnerOf_eq_none_iff hs c, hfits]

end Sys2Proof.Proofs
end

section
/-! PROOF. R35 and R39: which days are open with which hours, row by row of R35's table, and the civil date of a day. -/

namespace Sys2Proof.Machine

/-! ## Weekdays with hours (R32) -/

theorem weekdayOf_eq (day : Nat) : weekdayOf day = (day + 5) % 7 := rfl

theorem Table.find_isSome_iff {α : Type} {key : α → Nat} {k : Nat} {t : List α} :
    (Table.find key k t).isSome = true ↔ ∃ e ∈ t, key e = k := by
  simp [Table.find]

theorem Tables.weekdayHours_eq_some_iff {t : Tables} (hs : t.Sorted) {w : Nat} {h : Hours} :
    t.weekdayHours w = some h ↔ ∃ e ∈ t.weekly, e.weekday = w ∧ e.hours = h := by
  unfold weekdayHours
  rw [Option.map_eq_some_iff]
  constructor
  · rintro ⟨e, hfind, hhours⟩
    obtain ⟨hmem, hkey⟩ := Table.find_some hfind
    exact ⟨e, hmem, hkey, hhours⟩
  · rintro ⟨e, hmem, rfl, hhours⟩
    exact ⟨e, Table.find_of_mem hs.weekly hmem, hhours⟩

theorem Tables.weekdayHours_eq_none_iff {t : Tables} (hs : t.Sorted) {w : Nat} :
    t.weekdayHours w = none ↔ ∀ h, ¬ ∃ e ∈ t.weekly, e.weekday = w ∧ e.hours = h := by
  simp only [Option.eq_none_iff_forall_ne_some, ne_eq, Tables.weekdayHours_eq_some_iff hs]

theorem Tables.weekdayOpen_iff {t : Tables} {w : Nat} : t.weekdayOpen w = true ↔ ∃ e ∈ t.weekly, e.weekday = w := by
  unfold weekdayOpen weekdayHours
  rw [Option.isSome_map, Table.find_isSome_iff]
  rfl

/-- The entry of the lowest-numbered weekday with hours stands first in the sorted table. -/
theorem Tables.weekly_eq_cons_of_lowest {t : Tables} (hs : t.Sorted) {e : WeekdayHours} (he : e ∈ t.weekly)
    (hlow : ∀ o ∈ t.weekly, e.weekday ≤ o.weekday) : ∃ rest, t.weekly = e :: rest := by
  have hsorted := hs.weekly
  cases hw : t.weekly with
  | nil => simp [hw] at he
  | cons first rest =>
    rw [hw] at he hlow hsorted
    rcases List.mem_cons.1 he with rfl | hrest
    · exact ⟨rest, rfl⟩
    · have hlt : first.weekday < e.weekday := (List.pairwise_cons.1 hsorted).1 e hrest
      exact absurd (hlow first List.mem_cons_self) (Nat.not_le.2 hlt)

/-! ## Hours borrowed by an open exception without hours -/

theorem Tables.borrowedHours_of_some {t : Tables} {w : Nat} {h : Hours} (hw : t.weekdayHours w = some h) :
    t.borrowedHours w = h := by
  simp [borrowedHours, hw]

theorem Tables.borrowedHours_of_cons {t : Tables} {w : Nat} {e : WeekdayHours} {rest : List WeekdayHours}
    (hw : t.weekdayHours w = none) (hcons : t.weekly = e :: rest) : t.borrowedHours w = e.hours := by
  simp [borrowedHours, hw, hcons]

theorem Tables.borrowedHours_of_nil {t : Tables} {w : Nat} (hnil : t.weekly = []) : t.borrowedHours w = ⟨0, 1439⟩ := by
  simp [borrowedHours, weekdayHours, Table.find, hnil]

/-! ## Open days and their hours (R35) -/

theorem Tables.exceptionFor_of_mem {t : Tables} (hs : t.Sorted) {e : ExceptionEntry} (he : e ∈ t.exceptions) :
    t.exceptionFor e.day = some e :=
  Table.find_of_mem hs.exceptions he

theorem Tables.exceptionFor_eq_none {t : Tables} {day : Nat} (h : ∀ e ∈ t.exceptions, e.day ≠ day) :
    t.exceptionFor day = none :=
  List.find?_eq_none.2 fun e he => by simpa [ExceptionEntry.key] using h e he

theorem Tables.dayHours_of_closed {t : Tables} (hs : t.Sorted) {e : ExceptionEntry} (he : e ∈ t.exceptions)
    (hk : e.kind = .closed) : t.dayHours e.day = none := by
  obtain ⟨day, kind⟩ := e
  cases hk
  simp [dayHours, exceptionFor_of_mem hs he]

theorem Tables.dayHours_of_openWith_some {t : Tables} (hs : t.Sorted) {e : ExceptionEntry} (he : e ∈ t.exceptions)
    {h : Hours} (hk : e.kind = .openWith (some h)) : t.dayHours e.day = some h := by
  obtain ⟨day, kind⟩ := e
  cases hk
  simp [dayHours, exceptionFor_of_mem hs he]

theorem Tables.dayHours_of_openWith_none {t : Tables} (hs : t.Sorted) {e : ExceptionEntry} (he : e ∈ t.exceptions)
    (hk : e.kind = .openWith none) : t.dayHours e.day = some (t.borrowedHours (weekdayOf e.day)) := by
  obtain ⟨day, kind⟩ := e
  cases hk
  simp [dayHours, exceptionFor_of_mem hs he]

theorem Tables.dayHours_of_no_exception {t : Tables} {day : Nat} (h : ∀ e ∈ t.exceptions, e.day ≠ day) :
    t.dayHours day = t.weekdayHours (weekdayOf day) := by
  simp [dayHours, exceptionFor_eq_none h]

theorem Tables.isOpenDay_iff {t : Tables} {day : Nat} : t.isOpenDay day = true ↔ t.dayHours day ≠ none :=
  Option.isSome_iff_ne_none

/-- An exception alone decides whether its day is open. -/
theorem Tables.isOpenDay_of_mem {t : Tables} (hs : t.Sorted) {e : ExceptionEntry} (he : e ∈ t.exceptions) :
    t.isOpenDay e.day = (e.kind != .closed) := by
  unfold isOpenDay
  match hk : e.kind with
  | .closed => rw [dayHours_of_closed hs he hk]; rfl
  | .openWith (some h) => rw [dayHours_of_openWith_some hs he hk]; rfl
  | .openWith none => rw [dayHours_of_openWith_none hs he hk]; rfl

theorem Tables.isOpenDay_of_no_exception {t : Tables} {day : Nat} (h : ∀ e ∈ t.exceptions, e.day ≠ day) :
    t.isOpenDay day = t.weekdayOpen (weekdayOf day) := by
  unfold isOpenDay weekdayOpen
  rw [dayHours_of_no_exception h]

/-- R35's third row of an open exception without hours: neither its weekday nor any lower-numbered one has hours. -/
theorem Tables.borrowedHours_of_lowest {t : Tables} (hs : t.Sorted) {w v : Nat} {h : Hours} (hw : t.weekdayHours w = none)
    (hv : t.weekdayHours v = some h) (hlow : ∀ u, u < v → t.weekdayHours u = none) : t.borrowedHours w = h := by
  obtain ⟨e, he, rfl, rfl⟩ := (weekdayHours_eq_some_iff hs).1 hv
  have hfirst (o : WeekdayHours) (ho : o ∈ t.weekly) : e.weekday ≤ o.weekday := by
    by_contra hlt
    exact (weekdayHours_eq_none_iff hs).1 (hlow o.weekday (Nat.not_le.1 hlt)) o.hours ⟨o, ho, rfl, rfl⟩
  obtain ⟨rest, hcons⟩ := weekly_eq_cons_of_lowest hs he hfirst
  exact borrowedHours_of_cons hw hcons

/-! ## Civil dates (R39) -/

/-- The model's test of step 9, month at most 2, is the manual's month 1 or 2: step 8 gives no month 0. -/
theorem month_le_two_iff {mp month : Nat} (h : month = if mp < 10 then mp + 3 else mp - 9) :
    month ≤ 2 ↔ month = 1 ∨ month = 2 := by
  split at h <;> omega

end Sys2Proof.Machine

namespace Sys2Proof.Proofs
open Sys2Proof.Machine

/-- Settles O21: row by row of R35 through the hours of a weekday, and the nine steps of R39 with the month of step 8 above 0. -/
theorem openDaysHoursAndCivilDates : Obligations.OpenDaysHoursAndCivilDates := by
  unfold Obligations.OpenDaysHoursAndCivilDates
  refine ⟨fun t day hs => ?hours, ?civil⟩
  case hours =>
    simp only [← Tables.weekdayHours_eq_some_iff hs, ← Option.eq_none_iff_forall_ne_some, ← ne_eq]
    refine ⟨?present, fun habsent => ?absent, Tables.isOpenDay_iff⟩
    case present =>
      rintro e he rfl
      refine ⟨Tables.dayHours_of_closed hs he, fun h => Tables.dayHours_of_openWith_some hs he, fun hk => ?_⟩
      rw [Tables.dayHours_of_openWith_none hs he hk, weekdayOf_eq]
      refine ⟨fun h hw => ?own, fun hw v h hv hlow => ?lowest, fun hnone => ?none⟩
      case own => rw [Tables.borrowedHours_of_some hw]
      case lowest => rw [Tables.borrowedHours_of_lowest hs hw hv hlow]
      case none =>
        have hnil : t.weekly = [] := List.eq_nil_iff_forall_not_mem.2 fun o ho =>
          Tables.weekdayHours_eq_none_iff hs |>.1 (hnone o.weekday) o.hours ⟨o, ho, rfl, rfl⟩
        rw [Tables.borrowedHours_of_nil hnil]
    case absent =>
      rw [Tables.dayHours_of_no_exception habsent]
      exact ⟨fun h hw => hw, fun hw => hw⟩
  case civil =>
    rintro d _ _ _ _ _ _ _ _ _ rfl rfl rfl rfl rfl rfl rfl rfl hmonth
    rw [if_congr (month_le_two_iff hmonth).symm rfl rfl, hmonth]
    exact ⟨rfl, rfl⟩

end Sys2Proof.Proofs
end

section
/-! PROOF. R36 to R38: the searches find the first open day of their span, and the three steps of R38 count the open days. -/

namespace Sys2Proof.Machine

/-! ## The searches (R36, R37) -/

/-- The days of the span are tested in rising order, so that the first open one is the least. -/
theorem Tables.forwardSearch_eq_find? (t : Tables) (first last : Nat) :
    t.forwardSearch first last =
      (List.range' (min first lastDay) (min last lastDay + 1 - min first lastDay)).find? t.isOpenDay := by
  rw [List.range'_eq_map_range]
  rfl

theorem Tables.forwardSearch_eq_some_iff {t : Tables} {first last d : Nat} :
    t.forwardSearch first last = some d ↔
      min first lastDay ≤ d ∧ d ≤ min last lastDay ∧ t.isOpenDay d = true ∧
        ∀ d', min first lastDay ≤ d' → d' < d → t.isOpenDay d' = false := by
  rw [forwardSearch_eq_find?, List.find?_range'_eq_some, List.mem_range'_1]
  simp only [Bool.not_eq_true']
  constructor
  · rintro ⟨hopen, ⟨hfirst, hlast⟩, hleast⟩
    exact ⟨hfirst, by omega, hopen, hleast⟩
  · rintro ⟨hfirst, hlast, hopen, hleast⟩
    exact ⟨hopen, ⟨hfirst, by omega⟩, hleast⟩

theorem Tables.forwardSearch_eq_none_iff {t : Tables} {first last : Nat} :
    t.forwardSearch first last = none ↔
      ∀ d, min first lastDay ≤ d → d ≤ min last lastDay → t.isOpenDay d = false := by
  rw [forwardSearch_eq_find?, List.find?_range'_eq_none]
  simp only [Bool.not_eq_true']
  exact forall_congr' fun d => ⟨fun h hfirst hlast => h hfirst (by omega), fun h hfirst hlast => h hfirst (by omega)⟩

theorem Tables.closureSearch_of_some {t : Tables} {s d : Nat} (h : t.forwardSearch s (s + 21) = some d) :
    t.closureSearch s = (d, false) := by
  simp [closureSearch, h]

theorem Tables.closureSearch_of_none {t : Tables} {s : Nat} (h : t.forwardSearch s (s + 21) = none) :
    t.closureSearch s = (s, true) := by
  simp [closureSearch, h]

/-- An open day is the least open day of the span that begins at it. -/
theorem Tables.forwardSearch_of_open {t : Tables} {s : Nat} (hs : s ≤ lastDay) (hopen : t.isOpenDay s = true) :
    t.forwardSearch s (s + 21) = some s := by
  rw [forwardSearch_eq_some_iff, Nat.min_eq_left hs]
  exact ⟨le_rfl, by omega, hopen, fun d' hle hlt => absurd hlt (Nat.not_lt.2 hle)⟩

/-- The days of the span are tested by their distance below the top day, so that the first open one is the greatest. -/
theorem Tables.backwardSearch_eq_map_find? (t : Tables) (top floor : Nat) :
    t.backwardSearch top floor =
      ((List.range (top + 1 - floor)).find? fun i => t.isOpenDay (top - i)).map (top - ·) :=
  List.find?_map

theorem Tables.backwardSearch_eq_some_iff {t : Tables} {top floor d : Nat} :
    t.backwardSearch top floor = some d ↔
      floor ≤ d ∧ d ≤ top ∧ t.isOpenDay d = true ∧ ∀ d', d < d' → d' ≤ top → t.isOpenDay d' = false := by
  rw [backwardSearch_eq_map_find?, Option.map_eq_some_iff]
  simp only [List.find?_range_eq_some, List.mem_range, Bool.not_eq_true']
  constructor
  · rintro ⟨i, ⟨hopen, hi, hgreatest⟩, rfl⟩
    refine ⟨by omega, by omega, hopen, fun d' hlt hle => ?_⟩
    have habove := hgreatest (top - d') (by omega)
    rwa [Nat.sub_sub_self hle] at habove
  · rintro ⟨hfloor, htop, hopen, hgreatest⟩
    refine ⟨top - d, ⟨?_, by omega, fun j hj => hgreatest (top - j) (by omega) (by omega)⟩, Nat.sub_sub_self htop⟩
    rwa [Nat.sub_sub_self htop]

theorem Tables.backwardSearch_eq_none_iff {t : Tables} {top floor : Nat} :
    t.backwardSearch top floor = none ↔ ∀ d, floor ≤ d → d ≤ top → t.isOpenDay d = false := by
  rw [backwardSearch_eq_map_find?, Option.map_eq_none_iff]
  simp only [List.find?_range_eq_none, Bool.not_eq_true']
  constructor
  · intro h d hfloor htop
    have hplace := h (top - d) (by omega)
    rwa [Nat.sub_sub_self htop] at hplace
  · exact fun h i hi => h (top - i) (by omega) (by omega)

/-- R37: for the expiry cap, none found means the cap day itself. -/
theorem DueQuestion.cappedDay_of_none {q : DueQuestion}
    (h : q.tables.backwardSearch q.capDay (max q.today (q.capDay - 21)) = none) : q.cappedDay = q.capDay := by
  simp [cappedDay, h]

/-! ## Counting along lists without repetition -/

/-- Two lists without repetition that hold the same counted elements count alike. -/
theorem countP_eq_countP_of_nodup {α : Type} {l m : List α} {p q : α → Bool} (hl : l.Nodup) (hm : m.Nodup)
    (h : ∀ x, x ∈ l ∧ p x = true ↔ x ∈ m ∧ q x = true) : l.countP p = m.countP q := by
  rw [List.countP_eq_length_filter, List.countP_eq_length_filter]
  refine List.Perm.length_eq ((List.perm_ext_iff_of_nodup (hl.filter p) (hm.filter q)).2 fun x => ?_)
  rw [List.mem_filter, List.mem_filter, h x]

/-- The entries of a sorted table are counted by their keys. -/
theorem Table.countP_eq_countP_keys {α : Type} {key : α → Nat} {t : List α} (hs : Table.Sorted key t) {keys : List Nat}
    (hk : keys.Nodup) {p : Nat → Bool} {q : α → Bool}
    (h : ∀ k, (∃ e ∈ t, q e = true ∧ key e = k) ↔ k ∈ keys ∧ p k = true) : t.countP q = keys.countP p := by
  have hnodup : ((t.filter q).map key).Nodup :=
    List.pairwise_map.2 ((Table.sorted_filter q t hs).imp fun hlt => Nat.ne_of_lt hlt)
  have hcount : ((t.filter q).map key).countP (fun _ => true) = keys.countP p :=
    countP_eq_countP_of_nodup hnodup hk fun k => by simp [← h k, and_assoc]
  simpa [List.countP_eq_length_filter] using hcount

/-- Two counts along one list differ by what each of them counts alone. -/
theorem countP_add_countP_not_and {α : Type} (p q : α → Bool) (l : List α) :
    l.countP p + l.countP (fun x => !p x && q x) = l.countP q + l.countP (fun x => p x && !q x) := by
  induction l with
  | nil => rfl
  | cons x l ih => cases hp : p x <;> cases hq : q x <;> simp [hp, hq] <;> omega

/-! ## The three steps of R38 -/

/-- The days d with a < d ≤ b. -/
def daysBetween (a b : Nat) : List Nat := List.range' (a + 1) (b - a)

theorem mem_daysBetween {a b d : Nat} : d ∈ daysBetween a b ↔ a < d ∧ d ≤ b := by
  rw [daysBetween, List.mem_range'_1]
  omega

theorem nodup_daysBetween (a b : Nat) : (daysBetween a b).Nodup := List.nodup_range'

theorem countP_range_eq_countP_daysBetween (a b : Nat) (p : Nat → Bool) :
    (List.range (b + 1)).countP (fun d => decide (a < d) && p d) = (daysBetween a b).countP p :=
  countP_eq_countP_of_nodup List.nodup_range (nodup_daysBetween a b) fun d => by
    rw [List.mem_range, mem_daysBetween, Bool.and_eq_true, decide_eq_true_iff, Nat.lt_succ_iff, ← and_assoc,
      and_comm (a := d ≤ b)]

/-- A day that is open by its weekday alone. -/
def Tables.openByWeekday (t : Tables) (day : Nat) : Bool := t.weekdayOpen (weekdayOf day)

/-- The exceptions of the days d with a < d ≤ b, which step 3 of R38 goes through. -/
def Tables.exceptionsBetween (t : Tables) (a b : Nat) : List ExceptionEntry :=
  t.exceptions.filter fun e => decide (a < e.day) && decide (e.day ≤ b)

theorem Tables.openDaysBetween_eq_steps (t : Tables) (a b : Nat) :
    t.openDaysBetween a b =
      (b - a) / 7 * t.weekly.length +
        (List.range ((b - a) % 7)).countP (fun i => t.openByWeekday (a + 1 + 7 * ((b - a) / 7) + i)) +
        (t.exceptionsBetween a b).countP (fun e => e.kind != .closed && !t.openByWeekday e.day) -
        (t.exceptionsBetween a b).countP (fun e => e.kind == .closed && t.openByWeekday e.day) := rfl

/-- Any seven days in a row have each weekday once. -/
theorem mem_map_weekdayOf_week {s w : Nat} : w ∈ (List.range' s 7).map weekdayOf ↔ w ≤ 6 := by
  simp only [List.mem_map, List.mem_range'_1, weekdayOf_eq]
  constructor
  · rintro ⟨d, -, rfl⟩
    omega
  · exact fun hw => ⟨s + (w + 2 + 6 * s) % 7, by omega, by omega⟩

theorem nodup_map_weekdayOf_week (s : Nat) : ((List.range' s 7).map weekdayOf).Nodup :=
  List.Nodup.map_on (fun x hx y hy h => by
    rw [List.mem_range'_1] at hx hy
    rw [weekdayOf_eq, weekdayOf_eq] at h
    omega) List.nodup_range'

theorem Tables.countP_openByWeekday_week {t : Tables} (hs : t.Sorted) (hw : ∀ e ∈ t.weekly, e.weekday ≤ 6) (s : Nat) :
    (List.range' s 7).countP t.openByWeekday = t.weekly.length := by
  have hkeys : t.weekly.countP (fun _ => true) = ((List.range' s 7).map weekdayOf).countP t.weekdayOpen :=
    Table.countP_eq_countP_keys hs.weekly (nodup_map_weekdayOf_week s) fun w => by
      rw [mem_map_weekdayOf_week, weekdayOpen_iff]
      constructor
      · rintro ⟨e, he, -, rfl⟩
        exact ⟨hw e he, e, he, rfl⟩
      · rintro ⟨-, e, he, rfl⟩
        exact ⟨e, he, rfl, rfl⟩
  rw [List.countP_map, List.countP_true] at hkeys
  exact hkeys.symm

theorem Tables.countP_openByWeekday_weeks {t : Tables} (hs : t.Sorted) (hw : ∀ e ∈ t.weekly, e.weekday ≤ 6)
    (s weeks : Nat) :
    (List.range' s (7 * weeks)).countP t.openByWeekday = weeks * t.weekly.length := by
  induction weeks with
  | zero => simp
  | succ weeks ih =>
    rw [Nat.mul_succ, ← List.range'_append_1, List.countP_append, ih, countP_openByWeekday_week hs hw, Nat.succ_mul]

/-- Steps 1 and 2 of R38: whole weeks by the number of weekdays with hours, and the rest day by day. -/
theorem Tables.countP_openByWeekday_daysBetween {t : Tables} (hs : t.Sorted) (hw : ∀ e ∈ t.weekly, e.weekday ≤ 6)
    (a b : Nat) :
    (daysBetween a b).countP t.openByWeekday =
      (b - a) / 7 * t.weekly.length +
        (List.range ((b - a) % 7)).countP fun i => t.openByWeekday (a + 1 + 7 * ((b - a) / 7) + i) := by
  rw [daysBetween, ← Nat.div_add_mod (b - a) 7, ← List.range'_append_1, List.countP_append,
    countP_openByWeekday_weeks hs hw, Nat.div_add_mod, List.range'_eq_map_range, List.countP_map]
  rfl

/-- Step 3 of R38: a count of exceptions of the span is the count of the days whose opening they change. -/
theorem Tables.countP_exceptions_within {t : Tables} (hs : t.Sorted) (a b : Nat) (p : Bool → Bool → Bool)
    (hp : ∀ x, p x x = false) :
    (t.exceptionsBetween a b).countP (fun e => p (e.kind != .closed) (t.openByWeekday e.day)) =
      (daysBetween a b).countP fun d => p (t.isOpenDay d) (t.openByWeekday d) := by
  refine Table.countP_eq_countP_keys (Table.sorted_filter _ _ hs.exceptions) (nodup_daysBetween a b) fun d => ?_
  simp only [List.mem_filter, Bool.and_eq_true, decide_eq_true_iff, mem_daysBetween]
  constructor
  · rintro ⟨e, ⟨he, hspan⟩, hcount, rfl⟩
    refine ⟨hspan, ?_⟩
    rwa [ExceptionEntry.key, isOpenDay_of_mem hs he]
  · rintro ⟨hspan, hcount⟩
    by_cases hex : ∃ e ∈ t.exceptions, e.day = d
    · obtain ⟨e, he, rfl⟩ := hex
      rw [isOpenDay_of_mem hs he] at hcount
      exact ⟨e, ⟨he, hspan⟩, hcount, rfl⟩
    · have habsent : ∀ e ∈ t.exceptions, e.day ≠ d := fun e he hday => hex ⟨e, he, hday⟩
      rw [isOpenDay_of_no_exception habsent, openByWeekday, hp] at hcount
      exact absurd hcount Bool.false_ne_true

/-- The exceptions that step 3 of R38 adds are the open days among those closed by their weekday. -/
theorem Tables.gained_eq {t : Tables} (hs : t.Sorted) (a b : Nat) :
    (t.exceptionsBetween a b).countP (fun e => e.kind != .closed && !t.openByWeekday e.day) =
      (daysBetween a b).countP fun d => t.isOpenDay d && !t.openByWeekday d :=
  countP_exceptions_within hs a b (fun x y => x && !y) Bool.and_not_self

/-- The exceptions that step 3 of R38 takes off are the closed days among those open by their weekday. -/
theorem Tables.lost_eq {t : Tables} (hs : t.Sorted) (a b : Nat) :
    (t.exceptionsBetween a b).countP (fun e => e.kind == .closed && t.openByWeekday e.day) =
      (daysBetween a b).countP fun d => !t.isOpenDay d && t.openByWeekday d := by
  rw [← countP_exceptions_within hs a b (fun x y => !x && y) Bool.not_and_self]
  simp only [bne, Bool.not_not]

/-- R38: the three steps count the days that R35 calls open. -/
theorem Tables.openDaysBetween_eq_countP {t : Tables} (hs : t.Sorted) (hw : ∀ e ∈ t.weekly, e.weekday ≤ 6) (a b : Nat) :
    t.openDaysBetween a b = (daysBetween a b).countP t.isOpenDay := by
  have hsteps := countP_add_countP_not_and t.isOpenDay t.openByWeekday (daysBetween a b)
  rw [openDaysBetween_eq_steps, gained_eq hs, lost_eq hs, ← countP_openByWeekday_daysBetween hs hw, ← hsteps,
    Nat.add_sub_cancel]

theorem countP_daysBetween_le (a b : Nat) (p : Nat → Bool) : (daysBetween a b).countP p ≤ b - a := by
  simpa [daysBetween] using List.countP_le_length (p := p) (l := daysBetween a b)

end Sys2Proof.Machine

namespace Sys2Proof.Proofs
open Sys2Proof.Machine

/-- Settles O22: each search finds the first open day of its span in its own order, and R38's steps count by weekday and then
correct the days on which exception and weekday disagree. -/
theorem daySearchesAndOpenDaysBetween : Obligations.DaySearchesAndOpenDaysBetween := by
  unfold Obligations.DaySearchesAndOpenDaysBetween
  refine ⟨fun t => ⟨fun first last _ _ => ?forward, fun s hlast => ?closure, fun top floor _ _ => ?backward⟩,
    fun t a b hs hw => ?count⟩
  case forward => exact ⟨fun d => Tables.forwardSearch_eq_some_iff, Tables.forwardSearch_eq_none_iff⟩
  case closure =>
    exact ⟨fun d => Tables.closureSearch_of_some, Tables.closureSearch_of_none,
      fun hopen => Tables.closureSearch_of_some (Tables.forwardSearch_of_open hlast hopen)⟩
  case backward =>
    refine ⟨fun d => Tables.backwardSearch_eq_some_iff, Tables.backwardSearch_eq_none_iff, ?_⟩
    rintro q rfl rfl rfl hnone
    exact DueQuestion.cappedDay_of_none hnone
  case count =>
    rw [Tables.openDaysBetween_eq_countP hs hw, countP_range_eq_countP_daysBetween]
    exact ⟨rfl, countP_daysBetween_le a b t.isOpenDay⟩

end Sys2Proof.Proofs
end

section
/-! PROOF. R113 and R117 to R119: the order of dues by day and place on the day, and the rows of a return's reckoning. -/

namespace Sys2Proof.Machine

/-! ## The order of dues (R113) -/

/-- Where a due stands on its day: a due without a minute after every minute. -/
def Due.placeOnDay (x : Due) : Nat := x.minute.getD 1440

theorem Due.placeOnDay_le {x : Due} (h : ∀ m, x.minute = some m → m ≤ 1439) : x.placeOnDay ≤ 1440 := by
  unfold placeOnDay
  cases hx : x.minute with
  | none => exact le_rfl
  | some m => exact (h m hx).trans (by decide)

theorem Due.earlier_iff_moment_lt (a b : Due) : a.earlier b = true ↔ a.moment < b.moment := decide_eq_true_iff

/-- A day holds 1,441 places, so that the moments of R113 are ordered by day first and by place second. -/
theorem Due.moment_lt_iff {a b : Due} (ha : a.placeOnDay ≤ 1440) (hb : b.placeOnDay ≤ 1440) :
    a.moment < b.moment ↔ a.day < b.day ∨ (a.day = b.day ∧ a.placeOnDay < b.placeOnDay) := by
  change a.day * 1441 + a.placeOnDay < b.day * 1441 + b.placeOnDay ↔ _
  omega

theorem Due.placeOnDay_lt_iff {a b : Due} (ha : ∀ m, a.minute = some m → m ≤ 1439)
    (hb : ∀ m, b.minute = some m → m ≤ 1439) :
    a.placeOnDay < b.placeOnDay ↔
      (a.minute ≠ none ∧ b.minute = none) ∨ ∃ m n, a.minute = some m ∧ b.minute = some n ∧ m < n := by
  unfold placeOnDay
  cases hma : a.minute with
  | none =>
    have hle : b.minute.getD 1440 ≤ 1440 := placeOnDay_le hb
    simp [hle]
  | some m =>
    cases hmb : b.minute with
    | none => simpa using Nat.lt_succ_of_le (ha m hma)
    | some n => simp

/-! ## Late units and fine (R117 to R119) -/

theorem Desk.reckonReturn_of_no_minute {d : Desk} {due : Due} (t : FineTerms) (h : due.minute = none) :
    d.reckonReturn due t =
      (d.tables.openDaysBetween due.day d.clock.day - t.grace,
        t.fine (d.tables.openDaysBetween due.day d.clock.day - t.grace)) := by
  simp only [reckonReturn, h]

section
variable {d : Desk} {due : Due} {minute : Nat} (t : FineTerms) (h : due.minute = some minute)
include h

theorem Desk.reckonReturn_before_due_day (hday : d.clock.day < due.day) : d.reckonReturn due t = (0, 0) := by
  simp only [reckonReturn, h, if_pos hday]

theorem Desk.reckonReturn_on_due_day (hday : d.clock.day = due.day) :
    d.reckonReturn due t = (hoursUp (d.clock.minute - minute), t.fine (hoursUp (d.clock.minute - minute))) := by
  simp only [reckonReturn, h, if_neg hday.not_lt, if_pos hday]

theorem Desk.reckonReturn_after_due_day (hday : due.day < d.clock.day) :
    d.reckonReturn due t =
      (min (hoursUp ((d.clock.day - due.day) * 1440 + d.clock.minute - minute)) 65535, t.cap) := by
  simp only [reckonReturn, h, if_neg hday.not_gt, if_neg hday.ne']

end

/-- No minute past the due is no hour begun. -/
theorem hoursUp_sub_of_le {m minute : Nat} (h : m ≤ minute) : hoursUp (m - minute) = 0 := by
  rw [Nat.sub_eq_zero_of_le h]
  rfl

theorem FineTerms.fine_zero (t : FineTerms) : t.fine 0 = 0 := by simp [FineTerms.fine]

end Sys2Proof.Machine

namespace Sys2Proof.Proofs
open Sys2Proof.Machine

/-- Settles O52: a moment orders dues by day and then by place on the day, and the second row of R118 is its third with no hour
begun. -/
theorem duesComparedAndFinesReckoned : Obligations.DuesComparedAndFinesReckoned := by
  unfold Obligations.DuesComparedAndFinesReckoned
  refine ⟨fun a b ha hb => ?order, fun d due t => ⟨fun hnone => ?noMinute, fun minute hmin _ =>
    ⟨fun hday => ?beforeDay, fun hday hle => ?inTime, fun hday _ => ?sameDay, fun hday => ?afterDay⟩⟩⟩
  case order =>
    rw [Due.earlier_iff_moment_lt, Due.moment_lt_iff (Due.placeOnDay_le ha) (Due.placeOnDay_le hb),
      Due.placeOnDay_lt_iff ha hb]
  case noMinute => exact Desk.reckonReturn_of_no_minute t hnone
  case beforeDay => exact Desk.reckonReturn_before_due_day t hmin hday
  case inTime => rw [Desk.reckonReturn_on_due_day t hmin hday, hoursUp_sub_of_le hle, FineTerms.fine_zero]
  case sameDay => exact Desk.reckonReturn_on_due_day t hmin hday
  case afterDay => exact Desk.reckonReturn_after_due_day t hmin hday

end Sys2Proof.Proofs
end

section
/-! PROOF. R131: PROMPT_CLEAR's decision row by row, and the reply that a dispatched one queues. -/

namespace Sys2Proof.Machine

/-! ## Pending entries of a source (R122) -/

theorem Arbiter.has_iff {a : Arbiter} {p : Source} : a.has p = true ↔ ∃ q ∈ a.pending, q.source = p := by
  simp [has]

theorem Arbiter.has_eq_false_iff {a : Arbiter} {p : Source} : a.has p = false ↔ ∀ q ∈ a.pending, q.source ≠ p := by
  simp [has]

/-! ## PROMPT_CLEAR's decision (R131) -/

theorem Desk.promptClear_of_outside (d : Desk) {station source : Byte}
    (h : StationId.ofNumber station.toNat = none ∨ Source.ofNumber source.toNat = none) :
    d.promptClear station source = (d, .badArg) := by
  obtain hstation | hsource := h
  · simp only [promptClear, hstation]
  · cases hstation : StationId.ofNumber station.toNat <;> simp only [promptClear, hstation, hsource]

section
variable (d : Desk) {station source : Byte} {st : StationId} {p : Source}
  (hstation : StationId.ofNumber station.toNat = some st) (hsource : Source.ofNumber source.toNat = some p)
include hstation hsource

theorem Desk.promptClear_of_not_staff (hkind : p.clearKind ≠ .staff) :
    d.promptClear station source = (d, .badState) := by
  simp [promptClear, hstation, hsource, hkind]

theorem Desk.promptClear_of_absent (hkind : p.clearKind = .staff) (hhas : (d.arbiters.get st).has p = false) :
    d.promptClear station source = (d, .notFound) := by
  simp [promptClear, hstation, hsource, hkind, hhas]

theorem Desk.promptClear_of_pending (hkind : p.clearKind = .staff) (hhas : (d.arbiters.get st).has p = true) :
    d.promptClear station source = (d.removePrompt st p, .ok) := by
  simp [promptClear, hstation, hsource, hkind, hhas]

end

/-! ## The command -/

theorem exec_promptClear (tag station source : Byte) (s : State) :
    exec (.promptClear tag station source) s = execPromptClear tag station source s := rfl

/-- A dispatched PROMPT_CLEAR makes its decision against the desk that its frame has reached, and replies with its status. -/
theorem exec_promptClear_of_dispatches {s : State} (hs : s.Dispatches) (tag : Byte) {station source : Byte} {d : Desk}
    {status : Status} (h : s.desk.frameArrives.promptClear station source = (d, status)) :
    exec (.promptClear tag station source) s = .next (s.afterReply tag (d.answer status)) := by
  rw [exec_promptClear, execPromptClear, State.deskRequest_dispatched s tag _ hs, h]

end Sys2Proof.Machine

namespace Sys2Proof.Proofs
open Sys2Proof.Machine

/-- Settles O11: each row of R131 is a branch of PROMPT_CLEAR's decision, which asks neither the desk mode nor the station state. -/
theorem promptClearTable : Obligations.PromptClearTable := by
  unfold Obligations.PromptClearTable
  intro s tag station source hs
  refine ⟨fun houtside => ?badArg, fun st p hstation hsource =>
    ⟨fun hkind => ?badState, fun hkind hnone => ?notFound, fun hkind hsome => ?ok⟩⟩
  all_goals apply exec_promptClear_of_dispatches hs
  case badArg => exact Desk.promptClear_of_outside _ houtside
  case badState => exact Desk.promptClear_of_not_staff _ hstation hsource hkind
  case notFound => exact Desk.promptClear_of_absent _ hstation hsource hkind (Arbiter.has_eq_false_iff.2 hnone)
  case ok => exact Desk.promptClear_of_pending _ hstation hsource hkind (Arbiter.has_iff.2 hsome)

end Sys2Proof.Proofs
end

section
/-! PROOF. R192: what ALARM_READ returns of each alarm, and ALARM_CLEAR's decision row by row. -/

namespace Sys2Proof.Machine

/-! ## Alarms by number (11.6) -/

theorem AlarmId.number_bounds (a : AlarmId) : 1 ≤ a.number ∧ a.number ≤ 11 := by
  cases a <;> decide

theorem AlarmId.ofNumber_of_outside {n : Nat} (h : n = 0 ∨ 11 < n) : AlarmId.ofNumber n = none := by
  refine List.find?_eq_none.2 fun a _ hnumber => ?_
  have hbounds := a.number_bounds
  rw [beq_iff_eq] at hnumber
  omega

/-! ## The decisions (R192) -/

/-- What ALARM_READ returns: flag, count and condition of alarms 1 to 11 in this order, and the desk as it is. -/
theorem Desk.alarmRead_eq (d : Desk) :
    let shown := fun a => (d.alarms.get a).bytes
    d.alarmRead = d.answerData
      (shown .journalHigh ++ shown .journalFull ++ shown .printer0Fault ++ shown .printer1Fault ++ shown .clockUnsynced ++
        shown .uploadStalled ++ shown .clockDispute ++ shown .tableFull ++ shown .linkOverrun ++ shown .powerRestored ++
        shown .coldStart) := by
  simp [alarmRead, AlarmId.list]

theorem Desk.alarmClear_of_outside (d : Desk) {alarm : Byte} (count : Byte) (h : alarm.toNat = 0 ∨ 11 < alarm.toNat) :
    d.alarmClear alarm count = d.answer .badArg := by
  simp only [alarmClear, AlarmId.ofNumber_of_outside h]

section
variable (d : Desk) {alarm count : Byte} {a : AlarmId} (halarm : AlarmId.ofNumber alarm.toNat = some a)
include halarm

theorem Desk.alarmClear_of_stale (hcount : (d.alarms.get a).count ≠ count.toNat) :
    d.alarmClear alarm count = d.answer .stale := by
  simp [alarmClear, halarm, hcount]

theorem Desk.alarmClear_of_still_active (hcount : (d.alarms.get a).count = count.toNat) (hkind : a.isCondition = true)
    (hholds : (d.alarms.get a).holds = true) : d.alarmClear alarm count = d.answer .stillActive := by
  simp [alarmClear, halarm, hcount, hkind, hholds]

theorem Desk.alarmClear_of_clearable (hcount : (d.alarms.get a).count = count.toNat)
    (hfree : a.isCondition = false ∨ (d.alarms.get a).holds = false) :
    d.alarmClear alarm count =
      ({ d with alarms := d.alarms.set a { d.alarms.get a with active := false } }).answer .ok := by
  have hguard : (a.isCondition && (d.alarms.get a).holds) = false := Bool.and_eq_false_iff.2 hfree
  simp [alarmClear, halarm, hcount, hguard]

end

/-! ## The commands -/

theorem exec_alarmRead (tag : Byte) (s : State) : exec (.alarmRead tag) s = execAlarmRead tag s := rfl

theorem exec_alarmClear (tag alarm count : Byte) (s : State) :
    exec (.alarmClear tag alarm count) s = execAlarmClear tag alarm count s := rfl

theorem exec_alarmRead_of_dispatches {s : State} (hs : s.Dispatches) (tag : Byte) :
    exec (.alarmRead tag) s = .next (s.afterReply tag s.desk.frameArrives.alarmRead) := by
  rw [exec_alarmRead, execAlarmRead, State.deskRequest_dispatched s tag _ hs]

/-- A dispatched ALARM_CLEAR makes its decision against the desk that its frame has reached, and replies with it. -/
theorem exec_alarmClear_of_dispatches {s : State} (hs : s.Dispatches) (tag : Byte) {alarm count : Byte} {x : Decision}
    (h : s.desk.frameArrives.alarmClear alarm count = x) :
    exec (.alarmClear tag alarm count) s = .next (s.afterReply tag x) := by
  rw [exec_alarmClear, execAlarmClear, State.deskRequest_dispatched s tag _ hs, h]

end Sys2Proof.Machine

namespace Sys2Proof.Proofs
open Sys2Proof.Machine

/-- Settles O25: ALARM_READ returns the eleven alarms in their numbers' order with the desk as its frame left it, and each row
of R192 is a branch of ALARM_CLEAR's decision. -/
theorem alarmReadAndClear : Obligations.AlarmReadAndClear := by
  unfold Obligations.AlarmReadAndClear
  intro s tag alarm count hs
  refine ⟨?read, fun houtside => ?badArg, fun a halarm =>
    ⟨fun hcount => ?stale, fun hcount hkind hholds => ?stillActive, fun hcount hfree => ?ok⟩⟩
  case read =>
    rw [exec_alarmRead_of_dispatches hs, Desk.alarmRead_eq]
    rfl
  all_goals apply exec_alarmClear_of_dispatches hs
  case badArg => exact Desk.alarmClear_of_outside _ count houtside
  case stale => exact Desk.alarmClear_of_stale _ halarm hcount
  case stillActive => exact Desk.alarmClear_of_still_active _ halarm hcount hkind hholds
  case ok => exact Desk.alarmClear_of_clearable _ halarm hcount hfree

end Sys2Proof.Proofs
end

section
/-! PROOF. R122 to R126: the selection over a sorted pending set finds the first unmasked entry in the order of levels and sources. -/

namespace Sys2Proof.Machine

/-! ## The order of R122 -/

theorem Source.number_bounds (s : Source) : 1 ≤ s.number ∧ s.number ≤ 16 := by
  cases s <;> decide

theorem Source.number_inj {a b : Source} (h : a.number = b.number) : a = b := by
  revert h
  cases a <;> cases b <;> decide

/-- A precedence list names each of the four levels, and none twice. -/
abbrev IsPrecedence (ls : List Level) : Prop := ls.Perm [.urgent, .refusal, .action, .info]

theorem IsPrecedence.nodup {ls : List Level} (h : IsPrecedence ls) : ls.Nodup := h.nodup_iff.2 (by decide)

theorem IsPrecedence.mem {ls : List Level} (h : IsPrecedence ls) (l : Level) : l ∈ ls :=
  h.mem_iff.2 (by cases l <;> decide)

theorem mem_orderedPrompts {ls : List Level} (hls : IsPrecedence ls) {pending : List Prompt} {p : Prompt} :
    p ∈ orderedPrompts ls pending ↔ p ∈ pending := by
  simp [orderedPrompts, hls.mem]

/-- In a list without repetition an element that stands before another has the lower index. -/
theorem pairwise_idxOf_of_nodup {α : Type} [DecidableEq α] {l : List α} (h : l.Nodup) :
    l.Pairwise fun a b => l.idxOf a < l.idxOf b := by
  rw [List.pairwise_iff_getElem]
  intro i j hi hj hij
  rwa [h.idxOf_getElem i hi, h.idxOf_getElem j hj]

/-- The entries stand in the order of their rank: by level first, and by source number within a level. -/
theorem pairwise_orderedPrompts {ls : List Level} (hls : IsPrecedence ls) {pending : List Prompt}
    (hs : Table.Sorted Prompt.key pending) :
    (orderedPrompts ls pending).Pairwise fun a b => promptRank ls a ≤ promptRank ls b := by
  unfold orderedPrompts
  rw [List.pairwise_flatMap]
  refine ⟨fun l _ => ?within, ?across⟩
  case within =>
    refine (Table.sorted_filter _ pending hs).imp_of_mem ?_
    intro a b ha hb hab
    have hla : a.source.level = l := by simpa using (List.mem_filter.1 ha).2
    have hlb : b.source.level = l := by simpa using (List.mem_filter.1 hb).2
    unfold promptRank
    rw [hla, hlb]
    exact Nat.add_le_add_left (Nat.le_of_lt hab) _
  case across =>
    refine (pairwise_idxOf_of_nodup hls.nodup).imp ?_
    intro l m hlm a ha b hb
    have hla : a.source.level = l := by simpa using (List.mem_filter.1 ha).2
    have hmb : b.source.level = m := by simpa using (List.mem_filter.1 hb).2
    have hnumber := a.source.number_bounds
    unfold promptRank
    rw [hla, hmb]
    omega

/-! ## The selection (R125) -/

/-- The first unmasked entry of a list that stands in the order of R122 is ranked no higher than any other unmasked one. -/
theorem selectPrompt_eq_some {ls : List Level} {masks : LevelMasks} {pending : List Prompt} {p : Prompt}
    (hls : IsPrecedence ls) (hs : Table.Sorted Prompt.key pending) (h : selectPrompt ls masks pending = some p) :
    p ∈ pending ∧ masks.get p.source.level = false ∧
      ∀ q ∈ pending, masks.get q.source.level = false → promptRank ls p ≤ promptRank ls q := by
  obtain ⟨hp, before, after, hsplit, hbefore⟩ := List.find?_eq_some_iff_append.1 h
  have hordered := pairwise_orderedPrompts hls hs
  refine ⟨(mem_orderedPrompts hls).1 (List.mem_of_find?_eq_some h), by simpa using hp, fun q hq hmask => ?_⟩
  have hmem := (mem_orderedPrompts hls).2 hq
  rw [hsplit] at hmem hordered
  rcases List.mem_append.1 hmem with hin | hin
  · have hmasked := hbefore q hin
    simp [hmask] at hmasked
  · rcases List.mem_cons.1 hin with rfl | hin
    · exact le_rfl
    · exact (List.pairwise_cons.1 (List.pairwise_append.1 hordered).2.1).1 q hin

theorem selectPrompt_eq_none {ls : List Level} {masks : LevelMasks} {pending : List Prompt} (hls : IsPrecedence ls)
    (h : selectPrompt ls masks pending = none) : ∀ p ∈ pending, masks.get p.source.level = true := by
  intro p hp
  have hmasked := List.find?_eq_none.1 h p ((mem_orderedPrompts hls).2 hp)
  simpa using hmasked

theorem showsHighest_selectPrompt {ls : List Level} (hls : IsPrecedence ls) (masks : LevelMasks) {pending : List Prompt}
    (hs : Table.Sorted Prompt.key pending) :
    showsHighest ls masks pending ((selectPrompt ls masks pending).map Prompt.source) := by
  cases h : selectPrompt ls masks pending with
  | none => exact selectPrompt_eq_none hls h
  | some p =>
    obtain ⟨hmem, hmask, hfirst⟩ := selectPrompt_eq_some hls hs h
    exact ⟨p, hmem, rfl, hmask, hfirst⟩

/-! ## What a redone selection comes to show (R125, R126, R134) -/

theorem Arbiter.reselect_shown (x : ArbiterSettings) (o : Option Source) (a : Arbiter) :
    (a.reselect x o).shown = (selectPrompt x.precedence x.masks a.pending).map Prompt.source := by
  simp only [Arbiter.reselect]
  split
  · next h => simp_all
  · rfl

theorem Arbiter.reselect_lamp (x : ArbiterSettings) (o : Option Source) {a : Arbiter} (h : a.lamp = lampOf a.shown) :
    (a.reselect x o).lamp = lampOf (a.reselect x o).shown := by
  simp only [Arbiter.reselect]
  split
  · exact h
  · rfl

theorem Arbiter.reselect_right {x : ArbiterSettings} (hls : IsPrecedence x.precedence) (o : Option Source) {a : Arbiter}
    (hs : Table.Sorted Prompt.key a.pending) (hlamp : a.lamp = lampOf a.shown) :
    ArbiterRight x.precedence x.masks (a.reselect x o) where
  pending := by rwa [Arbiter.reselect_pending]
  shown := by
    rw [Arbiter.reselect_pending, Arbiter.reselect_shown]
    exact showsHighest_selectPrompt hls x.masks hs
  lamp := Arbiter.reselect_lamp x o hlamp

end Sys2Proof.Machine
end

section
/-! PROOF. What a property of the desk has to be kept by: every write that an operation of the desk makes, each under the guard that
its rule makes it under. `Desk.KeptByWrites` lists the writes that leave the power, the link, the scan stations, the desk mode and the station states, `Desk.KeptByContexts`
adds the states, `Desk.KeptByUpload` the operations of the Upload Engine, and `Desk.Kept` is all of them. A
property that is kept by these is kept by every operation of the desk, by every command and by every step: that induction is made
once, here, and an invariant is then a matter of the writes alone. An invariant that an operation breaks and restores on its way is
kept by `Desk.KeptByEngine`: the writes, and the operations that change the mode or a state, each as a whole. -/

namespace Sys2Proof.Machine

/-! ## The writes -/

/-- An item list within R81: at most 24 entries, and no code twice. -/
abbrev ItemListRight (l : List ListEntry) : Prop := l.length ≤ 24 ∧ (l.map ListEntry.code).Nodup

/-- The property is kept by every write outside the Upload Engine that leaves power, link, scan stations, mode and states as they are. A
write that the property does not read keeps it by computation, which is the default of each field. -/
structure Desk.KeptByWrites (P : Desk → Prop) : Prop where
  sweep : ∀ {d : Desk} (x : Option Sweep), P d → P { d with sweep := x } := by intros; assumption
  closingTimer : ∀ {d : Desk} (x : Timer), P d → P { d with closingTimer := x } := by intros; assumption
  lookupList : ∀ {d : Desk} (x : List LookupFrame), P d → P { d with lookupList := x } := by intros; assumption
  freeIndex : ∀ {d : Desk} (x : Nat), P d → P { d with freeIndex := x } := by intros; assumption
  lastSlips : ∀ {d : Desk} (x : PerStation (Option SlipJob)), P d → P { d with slips := { d.slips with lastSlips := x } } := by
    intros; assumption
  clock : ∀ {d : Desk} {x : Clock}, (d.clock.Ranged → x.Ranged) → P d → P { d with clock := x } := by intros; assumption
  tables : ∀ {d : Desk} {x : Tables}, (d.tables.Sorted → x.Sorted) →
    ((∀ b ∈ d.tables.borrowers, b.Ranged) → ∀ b ∈ x.borrowers, b.Ranged) → P d → P { d with tables := x } := by
    intros; assumption
  settings : ∀ {d : Desk} {x : Settings}, x.precedence = d.settings.precedence → (d.settings.Ranged → x.Ranged) → P d →
    P { d with settings := x } := by
    intros; assumption
  precedence : ∀ {d : Desk} {ls : List Level}, IsPrecedence ls → P d → P (d.setPrecedence ls) := by intros; assumption
  stationSettings : ∀ {d : Desk} {st : StationId} {f : StationSettings → StationSettings},
    (f (d.stationSettings.get st)).masks = (d.stationSettings.get st).masks →
    ((d.stationSettings.get st).Ranged → (f (d.stationSettings.get st)).Ranged) → P d → P (d.onStationSettings st f) := by
    intros; assumption
  masks : ∀ {d : Desk} (st : StationId) (m : LevelMasks), P d →
    P ((d.onStationSettings st fun x => { x with masks := m }).reselect st) := by
    intros; assumption
  station : ∀ {d : Desk} {st : StationId} {f : EngineStation → EngineStation},
    (f (d.stations.get st)).context = (d.stations.get st).context → P d → P (d.onStation st f) := by
    intros; assumption
  session : ∀ {d : Desk} {st : StationId} {f : Session → Session},
    (∀ x, d.context st = .opened x → ItemListRight x.items → ItemListRight (f x).items) → P d → P (d.onSession st f) := by
    intros; assumption
  arbiter : ∀ {d : Desk} {st : StationId} {f : Arbiter → Arbiter},
    (IsPrecedence d.settings.precedence →
      ArbiterRight d.settings.precedence (d.stationSettings.get st).masks (d.arbiters.get st) →
      ArbiterRight d.settings.precedence (d.stationSettings.get st).masks (f (d.arbiters.get st))) → P d →
    P (d.onArbiter st f) := by
    intros; assumption
  arbitersRestart : ∀ {d : Desk}, P d → P { d with arbiters := .all .restart } := by intros; assumption
  printer : ∀ {d : Desk} {p : PrinterId} {f : Printer → Printer},
    ((d.printer p).queue.length ≤ 8 → (f (d.printer p)).queue.length ≤ 8) → P d → P (d.onPrinter p f) := by
    intros; assumption
  undefer : ∀ {d : Desk} (q : SlipJob → Bool), P d → P (d.onSlips fun s => { s with deferrals := s.deferrals.filter q }) := by
    intros; assumption
  defer : ∀ {d : Desk} {j : SlipJob}, d.deferredAt j.station = none → (d.context j.station).serving = false → P d →
    P (d.onSlips fun s => { s with deferrals := s.deferrals ++ [j] }) := by
    intros; assumption
  slipsRestart : ∀ {d : Desk} (x : PerStation (Option SlipJob)), P d →
    P { d with slips := { printers := ⟨.restart, .restart⟩, deferrals := [], lastSlips := x } } := by
    intros; assumption
  alarms : ∀ {d : Desk} {x : AlarmSet}, (d.alarms.Bounded → x.Bounded) → P d → P { d with alarms := x } := by
    intros; assumption
  notices : ∀ {d : Desk} {x : List Notice}, (Table.Sorted Notice.key d.notices → Table.Sorted Notice.key x) → P d →
    P { d with notices := x } := by
    intros; assumption
  record : ∀ {d : Desk} (station : Option StationId) (flags : RecordFlags) (body : RecordBody), 0 < d.journal.free → P d →
    P { d with journal := d.journal.add (d.recordFor station flags body) } := by
    intros; assumption

/-- Of the writes, and of the operations of the Upload Engine. -/
structure Desk.KeptByUpload (P : Desk → Prop) : Prop extends Desk.KeptByWrites P where
  startUpload : ∀ {d : Desk}, d.upload.state.isIdle = true → P d → P d.startUpload
  waiting : ∀ {d : Desk} (f : Option Nat → Option Nat), P d → P (d.onUpload fun u => { u with waiting := f u.waiting })
  uploadTaken : ∀ {d : Desk} (first : Word) (count : Byte), P d → P (d.uploadTaken first count).desk
  uploadResume : ∀ {d : Desk}, P d → P d.uploadResume.desk
  uploadAbort : ∀ {d : Desk}, P d → P d.uploadAbort.desk
  stallUpload : ∀ {d : Desk}, d.upload.state = .sending → P d → P d.stallUpload
  blockSent : ∀ {d : Desk} (first count : Nat), P d → P (d.blockSent first count)
  unsend : ∀ {d : Desk} {l : List UploadFrame}, (∀ f ∈ l, f ∈ d.uploadList) → P d → P { d with uploadList := l }
  restartUpload : ∀ {d : Desk}, d.uploadList = [] → P d → P d.restartUpload

/-- Of the writes, and of the two operations by which the codes that a station takes change its state. -/
structure Desk.KeptByTaking (P : Desk → Prop) : Prop extends Desk.KeptByUpload P where
  takeBorrower : ∀ {d : Desk} (st : StationId) (card : Code) (category : Nat), P d → P (d.takeBorrower st card category)
  closeSession : ∀ {d : Desk} (st : StationId), P d → P (d.closeSession st)

/-- Of all of these, and of the writes of the scan stations. -/
structure Desk.KeptByQueues (P : Desk → Prop) : Prop extends Desk.KeptByTaking P where
  scan : ∀ {d : Desk} {st : StationId} {f : ScanStation → ScanStation},
    (ScanBounded (d.scan.get st) → ScanBounded (f (d.scan.get st))) → P d → P (d.onScan st f) := by
    intros; assumption
  scanRestart : ∀ {d : Desk}, P d → P { d with scan := .all .restart } := by intros; assumption

/-- Of all of these, of the writes of the power and the link, and of the operations that change the desk mode and the station states. -/
structure Desk.KeptByEngine (P : Desk → Prop) : Prop extends Desk.KeptByQueues P where
  power : ∀ {d : Desk} (x : Power), P d → P { d with power := x } := by intros; assumption
  link : ∀ {d : Desk} (x : LinkState), P d → P { d with link := x } := by intros; assumption
  lookupExpiry : ∀ {d : Desk} (st : StationId), P d → P (d.lookupExpiry st)
  lookupReply : ∀ {d : Desk} (bs : List Byte), P d → P (d.lookupReply bs).desk
  openDesk : ∀ {d : Desk}, P d → P d.openDesk
  closeDesk : ∀ {d : Desk}, P d → P d.closeDesk
  graceExpiry : ∀ {d : Desk}, P d → P d.graceExpiry
  setEnabled : ∀ {d : Desk} (st : StationId) (on : Bool), P d → P (d.setEnabled st on)
  linkLost : ∀ {d : Desk}, P d → P d.linkLost
  linkReset : ∀ {d : Desk}, P d → P d.linkReset
  loseVolatile : ∀ {d : Desk}, P d → P d.loseVolatile
  warmStart : ∀ {d : Desk}, P d → P d.warmStart
  coldStart : ∀ n : Nat, P { Desk.reset with freeIndex := n }

/-- Of the writes, and of the write of a station's context. -/
structure Desk.KeptByContexts (P : Desk → Prop) : Prop extends Desk.KeptByWrites P where
  context : ∀ {d : Desk} {st : StationId} {c : Context},
    (c.serving = true → (d.context st).serving = true ∨ d.deferredAt st = none) → (∀ x, c = .opened x → x.items = []) → P d →
    P (d.onStation st fun x => { x with context := c }) := by
    intros; assumption

/-- Of every write: also those of the power, the link, the scan stations, the desk mode and a restart. -/
structure Desk.KeptByAllWrites (P : Desk → Prop) : Prop extends Desk.KeptByContexts P where
  power : ∀ {d : Desk} (x : Power), P d → P { d with power := x } := by intros; assumption
  link : ∀ {d : Desk} (x : LinkState), P d → P { d with link := x } := by intros; assumption
  scan : ∀ {d : Desk} {st : StationId} {f : ScanStation → ScanStation},
    (ScanBounded (d.scan.get st) → ScanBounded (f (d.scan.get st))) → P d → P (d.onScan st f) := by
    intros; assumption
  scanRestart : ∀ {d : Desk}, P d → P { d with scan := .all .restart } := by intros; assumption
  mode : ∀ {d : Desk} (x : DeskMode), P d → P { d with mode := x } := by intros; assumption
  stationsRestart : ∀ {d : Desk} {x : PerStation EngineStation}, (∀ st, (x.get st).context.serving = false) → P d →
    P { d with stations := x } := by
    intros; assumption
  coldStart : ∀ n : Nat, P { Desk.reset with freeIndex := n }

/-- Of every write, and of the operations of the Upload Engine. -/
structure Desk.Kept (P : Desk → Prop) : Prop extends Desk.KeptByAllWrites P, Desk.KeptByUpload P

/-! ## Operations made at each station, and repeated ones -/

theorem Desk.eachStation_induct {P : Desk → Prop} {f : Desk → StationId → Desk} (hf : ∀ d st, P d → P (f d st)) {d : Desk} (h : P d) :
    P (d.eachStation f) := by
  unfold eachStation
  exact List.foldlRecOn _ f h fun d hd st _ => hf d st hd

theorem Desk.repeat_induct {P : Desk → Prop} {f : Desk → Desk} (hf : ∀ d, P d → P (f d)) (n : Nat) {d : Desk} (h : P d) :
    P (Nat.repeat f n d) := by
  induction n with
  | zero => exact h
  | succ n ih => exact hf _ ih

/-! ## The arbiters (R122 to R130) -/

section
variable {x : ArbiterSettings} {a : Arbiter} (hls : IsPrecedence x.precedence) (ha : ArbiterRight x.precedence x.masks a)
include hls ha

theorem Arbiter.post_right (p : Prompt) : ArbiterRight x.precedence x.masks (a.post x p) :=
  Arbiter.reselect_right hls _ (Table.sorted_put p _ ha.pending) ha.lamp

theorem Arbiter.remove_right (s : Source) : ArbiterRight x.precedence x.masks (a.remove x s) :=
  Arbiter.reselect_right hls _ (Table.sorted_erase _ _ ha.pending) ha.lamp

theorem Arbiter.scanAccepted_right : ArbiterRight x.precedence x.masks (a.scanAccepted x) :=
  Arbiter.reselect_right hls _ (Table.sorted_filter _ _ ha.pending) ha.lamp

theorem Arbiter.clearShown_right : ArbiterRight x.precedence x.masks (a.clearShown x) := by
  unfold Arbiter.clearShown
  split
  · split
    · exact Arbiter.remove_right hls ha _
    · exact ha
  · exact ha

theorem Arbiter.displayExpiry_right : ArbiterRight x.precedence x.masks (a.displayExpiry x) := by
  unfold Arbiter.displayExpiry
  split
  · split
    · exact Arbiter.remove_right hls ha _
    · exact ha
  · exact ha

end

theorem Arbiter.recordSent_right {ls : List Level} {m : LevelMasks} {a : Arbiter} (h : ArbiterRight ls m a) :
    ArbiterRight ls m a.recordSent := ⟨h.pending, h.shown, h.lamp⟩

theorem Arbiter.toneEnd_right {ls : List Level} {m : LevelMasks} {a : Arbiter} (h : ArbiterRight ls m a) :
    ArbiterRight ls m a.toneEnd := ⟨h.pending, h.shown, h.lamp⟩

/-! ## The alarms (R191) -/

theorem AlarmSet.Bounded.set {s : AlarmSet} (h : s.Bounded) {a : AlarmId} {x : AlarmState} (hcount : x.count ≤ 255)
    (hevent : a.isCondition = false → x.holds = false) : (s.set a x).Bounded := by
  intro b
  by_cases hb : b = a
  · subst hb
    rw [AlarmSet.get_set_same]
    exact ⟨hcount, hevent⟩
  · rw [AlarmSet.get_set_other s x hb]
    exact h b

/-! ## The borrowers' counts (R41) -/

theorem Borrower.Ranged.lendOne {b : Borrower} (h : b.Ranged) : b.lendOne.Ranged :=
  ⟨Nat.min_le_right _ _, h.holdsReady, h.finesOwed⟩

theorem Borrower.Ranged.returnOne {b : Borrower} (h : b.Ranged) : b.returnOne.Ranged :=
  ⟨(Nat.sub_le _ _).trans h.loansHeld, h.holdsReady, h.finesOwed⟩

theorem Borrower.Ranged.fine {b : Borrower} (h : b.Ranged) (n : Nat) : (b.fine n).Ranged :=
  ⟨h.loansHeld, h.holdsReady, Nat.min_le_right _ _⟩

theorem Borrower.Ranged.holdUp {b : Borrower} (h : b.Ranged) : b.holdUp.Ranged :=
  ⟨h.loansHeld, Nat.min_le_right _ _, h.finesOwed⟩

theorem Borrower.Ranged.holdDown {b : Borrower} (h : b.Ranged) : b.holdDown.Ranged :=
  ⟨h.loansHeld, (Nat.sub_le _ _).trans h.holdsReady, h.finesOwed⟩

/-! ## What an append can do (R159, R160) -/

theorem Desk.append_cases (d : Desk) (st : Option StationId) (f : RecordFlags) (b : RecordBody) :
    (0 < d.journal.free ∧
      d.append st f b = ({ d with journal := d.journal.add (d.recordFor st f b) }).evaluateJournal) ∨
    d.append st f b = d ∨ d.append st f b = d.raiseAlarm .journalFull := by
  unfold append
  cases b.reservedRoom with
  | true =>
    by_cases hroom : d.loanRoom = true
    · have hfree : d.settings.returnReserve < d.journal.free := by simpa [loanRoom] using hroom
      exact .inl ⟨by omega, by simp [hroom]⟩
    · exact .inr (.inl (by simp [hroom]))
  | false =>
    by_cases hroom : d.anyRoom = true
    · exact .inl ⟨by simpa [anyRoom] using hroom, by simp [hroom]⟩
    · exact .inr (.inr (by simp [hroom]))

/-! ## Prompts, alarms and the journal -/

namespace Desk.KeptByWrites
variable {P : Desk → Prop} (hP : Desk.KeptByWrites P) {d : Desk}
include hP

theorem post (st : StationId) (p : Prompt) (h : P d) : P (d.post st p) :=
  hP.arbiter (fun hls ha => Arbiter.post_right (x := d.arbiterSettings st) hls ha p) h

theorem removePrompt (st : StationId) (s : Source) (h : P d) : P (d.removePrompt st s) :=
  hP.arbiter (fun hls ha => Arbiter.remove_right (x := d.arbiterSettings st) hls ha s) h

theorem refuse (st : StationId) (r : RefusalReason) (h : P d) : P (d.refuse st r) := hP.post st _ h

theorem raiseNotice (b : NoticeBody) (h : P d) : P (d.raiseNotice b) := by
  unfold Desk.raiseNotice
  split
  · exact hP.notices (Table.sorted_put _ _) h
  · exact h

theorem raiseAlarm (a : AlarmId) (h : P d) : P (d.raiseAlarm a) :=
  hP.raiseNotice _ (hP.alarms (fun hb => hb.set (Nat.le_of_lt_succ (Nat.mod_lt _ (by decide))) (hb a).2) h)

/-- An owner reports a condition alarm, never an event alarm (R191). -/
theorem reportCondition {a : AlarmId} (ha : a.isCondition = true) (now : Bool) (h : P d) : P (d.reportCondition a now) := by
  have hset (b : Bool) : P { d with alarms := d.alarms.set a { d.alarms.get a with holds := b } } :=
    hP.alarms (fun hb => hb.set (hb a).1 (by simp [ha])) h
  simp only [Desk.reportCondition]
  split
  · split
    · exact h
    · exact hP.raiseAlarm a (hset true)
  · exact hset false

theorem reportSync (h : P d) : P d.reportSync := hP.reportCondition rfl _ h

theorem tellJournalFull (before now : Bool) (h : P d) : P (d.tellJournalFull before now) := by
  unfold Desk.tellJournalFull
  split
  · refine Desk.eachStation_induct (fun d st hd => ?_) h
    split
    · exact hP.post st _ hd
    · exact hd
  · split
    · refine Desk.eachStation_induct (fun d st hd => ?_) h
      split
      · exact hP.removePrompt st _ hd
      · exact hd
    · exact h

theorem evaluateJournal (h : P d) : P d.evaluateJournal :=
  hP.tellJournalFull _ _ (hP.reportCondition rfl _ (hP.reportCondition rfl _ h))

theorem append (st : Option StationId) (f : RecordFlags) (b : RecordBody) (h : P d) : P (d.append st f b) := by
  rcases d.append_cases st f b with ⟨hfree, happ⟩ | happ | happ <;> rw [happ]
  · exact hP.evaluateJournal (hP.record st f b hfree h)
  · exact h
  · exact hP.raiseAlarm _ h

theorem appendPlain (st : Option StationId) (b : RecordBody) (h : P d) : P (d.appendPlain st b) := hP.append st _ b h

end Desk.KeptByWrites

end Sys2Proof.Machine
end

section
/-! PROOF. The operations on tables, slips, sessions, loans and returns, in the order of the model's files: each keeps what every
write keeps. -/

namespace Sys2Proof.Machine

/-! ## Facts that the guards ask for -/

theorem Desk.context_of_stations {a b : Desk} (h : b.stations = a.stations) (st : StationId) : b.context st = a.context st := by
  rw [context, h, context]

theorem Context.serving_of_not_open {c : Context} (hopen : c.isOpen = false) (hlookup : ∀ r, c ≠ .lookup r) : c.serving = false := by
  cases c with
  | opened x => cases hopen
  | lookup r => exact absurd rfl (hlookup r)
  | idle => rfl
  | disabled => rfl

theorem Context.not_lookup_of_takes {c : Context} (h : c.takes = true) (r : Lookup) : c ≠ .lookup r := by
  rintro rfl
  cases h

theorem Desk.blockNotice_cases (d : Desk) (st : StationId) (card : Code) (w : Option BlockEntry) :
    d.blockNotice st card w = d ∨ ∃ b, d.blockNotice st card w = d.raiseNotice b := by
  unfold blockNotice
  split
  · split <;> exact .inr ⟨_, rfl⟩
  · exact .inl rfl

@[simp] theorem Desk.blockNotice_keeps (d : Desk) (st : StationId) (card : Code) (w : Option BlockEntry) :
    (d.blockNotice st card w).mode = d.mode ∧ (d.blockNotice st card w).stations = d.stations ∧
    (d.blockNotice st card w).slips = d.slips ∧ (d.blockNotice st card w).tables = d.tables ∧
    (d.blockNotice st card w).clock = d.clock ∧ (d.blockNotice st card w).link = d.link ∧
    (d.blockNotice st card w).stationSettings = d.stationSettings ∧ (d.blockNotice st card w).settings = d.settings ∧
    (d.blockNotice st card w).lookupList = d.lookupList ∧ (d.blockNotice st card w).journal = d.journal ∧
    (d.blockNotice st card w).arbiters = d.arbiters ∧ (d.blockNotice st card w).scan = d.scan := by
  rcases d.blockNotice_cases st card w with h | ⟨b, h⟩ <;> simp [h]

theorem Session.loanSlip_station {x : Session} {st : StationId} {j : SlipJob} (h : x.loanSlip st = some j) : j.station = st := by
  simp only [loanSlip, Option.ite_none_left_eq_some, Option.some.injEq] at h
  rw [← h.2]

theorem length_passQueue_le (automatic : SlipJob → Bool) (room : Nat) (js : List SlipJob) :
    (passQueue automatic room js).1.length ≤ room ∧ (passQueue automatic room js).2.length ≤ js.length := by
  induction js generalizing room with
  | nil => cases room <;> simp [passQueue]
  | cons j js ih =>
    cases room with
    | zero => simp [passQueue]
    | succ room =>
      have htaken := ih room
      have hpassed := ih (room + 1)
      simp only [passQueue]
      split <;> simp <;> omega

theorem Printer.linePrinted_queue_le (x : Printer) : x.linePrinted.queue.length ≤ x.queue.length := by
  unfold linePrinted
  split
  · split <;> simp_all
  · simp_all

theorem Printer.interrupt_queue_length (x : Printer) : x.interrupt.queue.length = x.queue.length := by
  unfold interrupt
  split
  · split <;> simp_all
  · rfl

/-- A check that no override passes over has not failed when the loan or renewal is made. -/
theorem judge_made_cons {armed : Bool} {passed made : Option RefusalReason} {c : Check} {cs : List Check}
    (h : judge armed passed (c :: cs) = .made made) (hc : c.overridable = false) :
    c.fails = false ∧ judge armed passed cs = .made made := by
  cases hfails : c.fails <;> simp_all [judge]

theorem Session.lists_eq_false {x : Session} {item : Code} (h : x.lists item = false) :
    item ∉ x.items.map ListEntry.code := by
  simpa [lists] using h

theorem ItemListRight.snoc {l : List ListEntry} (h : ItemListRight l) (hlen : l.length < 24) {e : ListEntry}
    (hnew : e.code ∉ l.map ListEntry.code) : ItemListRight (l ++ [e]) := by
  refine ⟨by simpa using hlen, ?_⟩
  rw [List.map_append, List.map_cons, List.map_nil]
  exact List.nodup_append.2 ⟨h.2, List.nodup_singleton _, fun a ha b hb => by
    rintro rfl
    rw [List.mem_singleton.1 hb] at ha
    exact hnew ha⟩

theorem takeNewestLent_sublist {l rest : List ListEntry} {e : ListEntry} (h : takeNewestLent l = some (e, rest)) :
    rest.Sublist l := by
  induction l generalizing rest with
  | nil => cases h
  | cons a l ih =>
    simp only [takeNewestLent] at h
    split at h
    · next found tail heq =>
      obtain ⟨rfl, rfl⟩ := h
      exact (ih heq).cons_cons a
    · split at h
      · obtain ⟨rfl, rfl⟩ := h
        exact List.sublist_cons_self _ _
      · cases h

theorem ItemListRight.sublist {l m : List ListEntry} (h : ItemListRight l) (hm : m.Sublist l) : ItemListRight m :=
  ⟨hm.length_le.trans h.1, h.2.sublist (hm.map _)⟩

namespace Desk.KeptByWrites
variable {P : Desk → Prop} (hP : Desk.KeptByWrites P) {d : Desk}
include hP

/-! ## Table entries -/

theorem putBorrower {b : Borrower} (hb : (∀ b ∈ d.tables.borrowers, b.Ranged) → b.Ranged) (h : P d) : P (d.putBorrower b) :=
  hP.tables (fun hs => { hs with borrowers := Table.sorted_put _ _ hs.borrowers })
    (fun hr x hx => (Table.mem_put _ _ x hx).elim (fun hxb => hxb ▸ hb hr) (hr x)) h

theorem eraseBorrower (card : Code) (h : P d) : P (d.eraseBorrower card) :=
  hP.tables (fun hs => { hs with borrowers := Table.sorted_erase _ _ hs.borrowers })
    (fun hr x hx => hr x (List.mem_of_mem_filter hx)) h

theorem changeBorrower {f : Borrower → Borrower} (hf : ∀ b, b.Ranged → (f b).Ranged) (card : Code) (h : P d) :
    P (d.changeBorrower card f) := by
  unfold Desk.changeBorrower
  split
  · next b hb => exact hP.putBorrower (fun hr => hf b (hr b (Table.find_some hb).1)) h
  · exact h

theorem putItem (e : ItemEntry) (h : P d) : P (d.putItem e) :=
  hP.tables (fun hs => { hs with items := Table.sorted_put _ _ hs.items }) id h

theorem eraseItem (code : Code) (h : P d) : P (d.eraseItem code) :=
  hP.tables (fun hs => { hs with items := Table.sorted_erase _ _ hs.items }) id h

theorem eraseBlock (k : Nat) (h : P d) :
    P (d.onTables fun t => { t with blocks := Table.erase BlockEntry.rank k t.blocks }) :=
  hP.tables (fun hs => { hs with blocks := Table.sorted_erase _ _ hs.blocks }) id h

theorem spendFree (used : Bool) (h : P d) : P (d.spendFree used) := by
  cases used
  · exact h
  · exact hP.freeIndex _ h

theorem pruneExceptions (day : Nat) (h : P d) : P (d.pruneExceptions day) := by
  unfold Desk.pruneExceptions
  split
  · exact hP.tables (fun hs => { hs with exceptions := Table.sorted_filter _ _ hs.exceptions }) id h
  · exact h

/-! ## Lapses and the sweep (R59, R70 to R72) -/

theorem lapse (st : Option StationId) (code hold : Code) (pickup : Nat) (h : P d) : P (d.lapse st code hold pickup) :=
  hP.appendPlain _ _ (hP.changeBorrower (fun _ => Borrower.Ranged.holdDown) _ (hP.eraseItem _ h))

theorem lapseAtRead (st : StationId) (code : Code) (h : P d) : P (d.lapseAtRead st code) := by
  unfold Desk.lapseAtRead
  split
  · split
    · exact hP.lapse _ _ _ _ h
    · exact h
  · exact h

theorem settleBlockPhase (day : Nat) (position : Option BlockKey) (h : P d) : P (d.settleBlockPhase day position) := by
  unfold Desk.settleBlockPhase
  split <;> exact hP.sweep _ h

theorem settleSweep (h : P d) : P d.settleSweep := by
  unfold Desk.settleSweep
  split
  · split
    · exact h
    · exact hP.settleBlockPhase _ _ h
  · exact hP.settleBlockPhase _ _ h
  · exact h

theorem sweepItem (day : Nat) (e : ItemEntry) (h : P d) : P (d.sweepItem day e) := by
  have hsweep : P { d with sweep := some ⟨day, .items (some e.code)⟩ } := hP.sweep _ h
  simp only [Desk.sweepItem]
  split
  · split
    · exact hP.lapse _ _ _ _ hsweep
    · exact hsweep
  · exact hsweep

theorem sweepBlock (day : Nat) (e : BlockEntry) (h : P d) : P (d.sweepBlock day e) := by
  have hsweep : P { d with sweep := some ⟨day, .blocks (some e.key)⟩ } := hP.sweep _ h
  simp only [Desk.sweepBlock]
  split
  · exact hP.eraseBlock _ hsweep
  · exact hsweep

theorem sweepExamine (h : P d) : P d.sweepExamine := by
  unfold Desk.sweepExamine
  split
  · split
    · exact hP.sweepItem _ _ h
    · exact h
  · split
    · exact hP.sweepBlock _ _ h
    · exact h
  · exact h

theorem sweepStep (h : P d) : P d.sweepStep := hP.settleSweep (hP.sweepExamine (hP.settleSweep h))

/-! ## Block checks (R57, R58) -/

theorem blockNotice (st : StationId) (card : Code) (w : Option BlockEntry) (h : P d) : P (d.blockNotice st card w) := by
  rcases d.blockNotice_cases st card w with hn | ⟨b, hn⟩ <;> rw [hn]
  · exact h
  · exact hP.raiseNotice b h

theorem postBlock (e : BlockEntry) (st : StationId) (card : Code) (h : P d) : P (d.postBlock e st card) := by
  unfold Desk.postBlock
  split
  · exact hP.post _ _ h
  · exact hP.post _ _ h
  · exact hP.raiseNotice _ h

theorem tellBlock (e : BlockEntry) (h : P d) : P (d.tellBlock e) := by
  refine Desk.eachStation_induct (fun d st hd => ?_) h
  split
  · split
    · exact hP.postBlock _ _ _ hd
    · exact hd
  · exact hd

/-! ## Slips (chapter 8) -/

theorem enqueueJob {p : PrinterId} (j : SlipJob) (hroom : d.queueRoom p = true) (h : P d) : P (d.enqueueJob p j) := by
  have hlt : (d.printer p).queue.length < 8 := of_decide_eq_true hroom
  exact hP.printer (fun _ => by simpa using hlt) h

theorem placeOneDeferred (p : PrinterId) (h : P d) : P (d.placeOneDeferred p) := by
  unfold Desk.placeOneDeferred
  split
  · split
    · next hroom => exact hP.removePrompt _ _ (hP.enqueueJob _ hroom (hP.undefer _ h))
    · exact h
  · exact h

theorem placeDeferred (p : PrinterId) (h : P d) : P (d.placeDeferred p) :=
  Desk.repeat_induct (fun _ hd => hP.placeOneDeferred p hd) _ h

/-- What failover takes from a queue leaves it no longer, and fits the other one (R149). -/
theorem failoverFrom (x : PrinterId) (h : P d) : P (d.failoverFrom x) := by
  simp only [Desk.failoverFrom]
  split
  · split
    · have hlengths := length_passQueue_le (fun j => d.isAutomatic j.station)
        (queueCapacity - (d.printer x.other).queue.length) (d.printer x).queue
      have hother : (d.onPrinter x fun q => { q with queue := (passQueue (fun j => d.isAutomatic j.station)
          (queueCapacity - (d.printer x.other).queue.length) (d.printer x).queue).2 }).printer x.other =
          d.printer x.other :=
        PerPrinter.get_set_other _ _ (by cases x <;> decide)
      refine hP.printer (fun hq => ?_) (hP.printer (fun hq => hlengths.2.trans hq) h)
      rw [hother] at hq ⊢
      simp only [List.length_append, queueCapacity] at hlengths ⊢
      omega
    · exact h
  · exact h

theorem slipRound (h : P d) : P d.slipRound :=
  hP.failoverFrom _ (hP.failoverFrom _ (hP.placeDeferred _ (hP.placeDeferred _ h)))

theorem startPrinter (p : PrinterId) (h : P d) : P (d.startPrinter p) :=
  hP.printer (fun hq => by split <;> exact hq) h

theorem settleSlips (h : P d) : P d.settleSlips :=
  hP.startPrinter _ (hP.startPrinter _ (Desk.repeat_induct (fun _ hd => hP.slipRound hd) 5 h))

theorem discardSlip (j : SlipJob) (c : SlipCause) (h : P d) : P (d.discardSlip j c) := hP.appendPlain _ _ h

/-- A slip is deferred at a station that has none and serves nobody (R142, R100). -/
theorem handOver {j : SlipJob} (hj : ∀ r, d.context j.station ≠ .lookup r) (h : P d) : P (d.handOver j) := by
  unfold Desk.handOver
  split
  · exact hP.discardSlip _ _ h
  · next hnone =>
    split
    · next hroom => exact hP.settleSlips (hP.enqueueJob _ hroom h)
    · split
      · exact hP.discardSlip _ _ h
      · next hopen =>
        exact hP.post _ _ (hP.defer (by simpa using hnone)
          (Context.serving_of_not_open (Bool.eq_false_iff.2 hopen) hj) h)

theorem keepCopy (j : SlipJob) (h : P d) : P (d.keepCopy j) := hP.lastSlips _ h

theorem reprint {st : StationId} (hst : ∀ r, d.context st ≠ .lookup r) (h : P d) : P (d.reprint st) := by
  unfold Desk.reprint
  split
  · exact hP.handOver hst h
  · exact h

theorem skipSlip (st : StationId) (h : P d) : P (d.skipSlip st) := by
  unfold Desk.skipSlip
  split
  · exact hP.discardSlip _ _ (hP.removePrompt _ _ (hP.undefer _ h))
  · exact h

theorem lineSent (p : PrinterId) (h : P d) : P (d.lineSent p) := hP.printer (fun hq => by split <;> exact hq) h

theorem reportFault (p : PrinterId) (now : Bool) (h : P d) : P (d.reportCondition (faultAlarm p) now) :=
  hP.reportCondition (by cases p <;> rfl) now h

theorem readyAnswer (p : PrinterId) (h : P d) : P (d.readyAnswer p) := by
  unfold Desk.readyAnswer
  split
  · exact h
  · exact hP.settleSlips (hP.printer (fun hq => (Printer.linePrinted_queue_le _).trans hq) h)
  · exact hP.settleSlips (hP.reportFault _ _ (hP.printer id h))

theorem printerFails (p : PrinterId) (s : PrinterStatus) (h : P d) : P (d.printerFails p s) :=
  hP.settleSlips (hP.reportFault _ _ (hP.printer (fun hq => (Printer.interrupt_queue_length _).trans_le hq) h))

theorem printerCharacter (p : PrinterId) (c : Option Byte) (h : P d) : P (d.printerCharacter p c) := by
  unfold Desk.printerCharacter
  split
  · exact hP.readyAnswer _ h
  · split <;> exact hP.printerFails _ _ h

theorem lineExpiry (p : PrinterId) (h : P d) : P (d.lineExpiry p) := by
  unfold Desk.lineExpiry
  split
  · exact hP.printerFails _ _ h
  · exact h

theorem assignPrinter (st : StationId) (p : PrinterId) (h : P d) : P (d.assignPrinter st p) := by
  have hsettled : P (d.onStationSettings st fun x => { x with printer := p }).settleSlips :=
    hP.settleSlips (hP.stationSettings rfl (fun hr => { hr with }) h)
  simp only [Desk.assignPrinter]
  split
  · exact hP.post _ _ hsettled
  · exact hsettled

theorem setFailover (st : StationId) (f : Failover) (h : P d) : P (d.setFailover st f) :=
  hP.settleSlips (hP.stationSettings rfl (fun hr => { hr with }) h)

theorem restartSlips (copies : PerStation (Option SlipJob)) (h : P d) : P (d.restartSlips copies) :=
  hP.reportCondition rfl _ (hP.reportCondition rfl _ (hP.slipsRestart copies h))

/-! ## Station states (chapter 5) -/

theorem tellStation (st : StationId) (h : P d) : P (d.tellStation st) := by
  unfold Desk.tellStation
  split
  · split
    · exact hP.post _ _ h
    · exact h
  · split
    · exact hP.removePrompt _ _ h
    · exact h

theorem postSessionOpen (st : StationId) (card : Code) (h : P d) : P (d.postSessionOpen st card) := hP.post _ _ h

theorem dropLookup (st : StationId) (h : P d) : P (d.dropLookup st) := hP.removePrompt _ _ (hP.lookupList _ h)

theorem screened {st : StationId} {card : Code} {refused : Desk → Desk} {served : Desk → Option BlockEntry → Desk}
    (hrefused : P (d.blockNotice st card (d.blockCheck card)) → P (refused (d.blockNotice st card (d.blockCheck card))))
    (hserved : ∀ w, P (d.blockNotice st card (d.blockCheck card)) → P (served (d.blockNotice st card (d.blockCheck card)) w))
    (h : P d) : P (d.screened st card refused served) := by
  have hnoticed := hP.blockNotice st card (d.blockCheck card) h
  simp only [Desk.screened]
  split
  · split
    · exact hP.post _ _ (hrefused hnoticed)
    · exact hserved _ hnoticed
  · exact hserved _ hnoticed

theorem resensitise (st : StationId) (h : P d) : P (d.resensitise st) := hP.station rfl h

theorem desensitise (st : StationId) (h : P d) : P (d.desensitise st) := hP.station rfl h

theorem padQuiet (st : StationId) (h : P d) : P (d.padQuiet st) := hP.station rfl h

theorem armExpiry (st : StationId) (h : P d) : P (d.armExpiry st) := hP.session (fun _ _ hx => hx) h

end Desk.KeptByWrites

namespace Desk.KeptByContexts
variable {P : Desk → Prop} (hP : Desk.KeptByContexts P) {d : Desk}
include hP

theorem setContext {st : StationId} {c : Context} (hserving : c.serving = true → (d.context st).serving = true ∨ d.deferredAt st = none)
    (hitems : ∀ x, c = .opened x → x.items = []) (h : P d) : P (d.setContext st c) :=
  hP.tellStation _ (hP.context hserving hitems h)

/-- A station that stops serving may do so at any time. -/
theorem setContext_stopped {c : Context} (hc : c.serving = false) (st : StationId) (h : P d) : P (d.setContext st c) :=
  hP.setContext (fun hs => by simp [hc] at hs) (fun x hx => by simp [hx, Context.serving] at hc) h

theorem openSession {st : StationId} (hst : (d.context st).serving = true ∨ d.deferredAt st = none) (card : Code)
    (winner : Option BlockEntry) (h : P d) : P (d.openSession st card winner) := by
  have hopened := hP.postSessionOpen st card (hP.setContext (c := .opened ⟨card, (d.sessionEntry card).provisional, [], none,
    (d.stationSettings.get st).idleTimeout⟩) (fun _ => hst) (by rintro _ ⟨⟩; rfl) h)
  simp only [Desk.openSession]
  split
  · split
    · exact hP.post _ _ hopened
    · exact hopened
  · exact hopened

theorem endSession {next : Context} (hnext : next.serving = false) (st : StationId) (x : Session) (h : P d) :
    P (d.endSession st x next) := by
  have htold {d : Desk} (h : P d) : P ((d.post st (.sessionEnd (x.items.countP fun e => !e.isReturned))).setContext st next) :=
    hP.setContext_stopped hnext _ (hP.post _ _ h)
  simp only [Desk.endSession]
  split
  · next j hj =>
    have hslip : x.loanSlip st = some j := by
      split at hj
      · exact hj
      · cases hj
    refine hP.handOver (fun r => ?_) (htold (hP.keepCopy j h))
    rw [Session.loanSlip_station hslip, Desk.setContext_context, if_pos rfl]
    rintro rfl
    cases hnext
  · exact htold h

theorem enterLookup {st : StationId} (hst : (d.context st).serving = true ∨ d.deferredAt st = none) (card : Code) (category : Nat)
    (h : P d) : P (d.enterLookup st card category) :=
  hP.post _ _ (hP.lookupList _ (hP.setContext (fun _ => hst) (by rintro _ ⟨⟩) h))

theorem leaveLookup {next : Context} (hnext : next.serving = false) (st : StationId) (h : P d) : P (d.leaveLookup st next) :=
  hP.setContext_stopped hnext _ (hP.dropLookup _ h)

end Desk.KeptByContexts

namespace Desk.KeptByWrites
variable {P : Desk → Prop} (hP : Desk.KeptByWrites P) {d : Desk}
include hP

/-! ## Loans, renewals and CANCEL_LAST -/

theorem refuseItem (st : StationId) (x : Session) (item : Code) (r : RefusalReason) (act : RefusedAct) (h : P d) :
    P (d.refuseItem st x item r act) := by
  have hraised : P (if r == .tableFull then d.raiseAlarm .tableFull else d) := by
    split
    · exact hP.raiseAlarm _ h
    · exact h
  simp only [Desk.refuseItem]
  generalize (if r == .tableFull then d.raiseAlarm .tableFull else d) = raised at hraised ⊢
  split
  · exact hP.post _ _ hraised
  · exact hP.append _ _ _ (hP.post _ _ hraised)

theorem useArm (st : StationId) (card item : Code) (passed : Option RefusalReason) (h : P d) :
    P (d.useArm st card item passed) := by
  unfold Desk.useArm
  split
  · exact hP.raiseNotice _ (hP.session (fun _ _ hx => hx) h)
  · exact h

/-- An entry joins the list of a session that has room for it and does not hold its code (R81, R87). -/
theorem addEntry {st : StationId} {e : ListEntry} {x : Session} (hx : d.context st = .opened x) (hlen : x.items.length < 24)
    (hnew : e.code ∉ x.items.map ListEntry.code) (h : P d) : P (d.addEntry st e) :=
  hP.session (fun y hy hright => by
    obtain rfl : x = y := by simpa [hx] using hy
    exact hright.snoc hlen hnew) h

theorem leaveShelf (entry : Option ItemEntry) (h : P d) : P (d.leaveShelf entry) := by
  unfold Desk.leaveShelf
  split
  · exact hP.changeBorrower (fun _ => Borrower.Ranged.holdDown) _ h
  · exact h

end Desk.KeptByWrites

@[simp] theorem Desk.leaveShelf_stations (d : Desk) (entry : Option ItemEntry) : (d.leaveShelf entry).stations = d.stations := by
  unfold leaveShelf
  split <;> simp

namespace Desk.KeptByWrites
variable {P : Desk → Prop} (hP : Desk.KeptByWrites P) {d : Desk}
include hP

theorem lend {st : StationId} {x : Session} {item : Code} (hx : d.context st = .opened x) (hlen : x.items.length < 24)
    (hnew : item ∉ x.items.map ListEntry.code) (scanned : Nat) (passed : Option RefusalReason) (h : P d) :
    P (d.lend st x item scanned passed) := by
  simp only [Desk.lend]
  split
  · exact h
  · refine hP.post _ _ (hP.desensitise _ (hP.useArm _ _ _ _ (hP.addEntry (x := x) ?_ hlen hnew (hP.append _ _ _
      (hP.changeBorrower (fun _ => Borrower.Ranged.lendOne) _ (hP.leaveShelf _ (hP.putItem _ h)))))))
    rw [← hx]
    exact Desk.context_of_stations (by simp) st

theorem loan {st : StationId} {x : Session} (hx : d.context st = .opened x) (item : Code) (scanned : Nat) (h : P d) :
    P (d.loan st x item scanned) := by
  simp only [Desk.loan]
  split
  · exact hP.refuseItem _ _ _ _ _ h
  · next hlen =>
    split
    · exact hP.refuseItem _ _ _ _ _ h
    · next hnew =>
      split
      · exact hP.refuseItem _ _ _ _ _ h
      · have hread := hP.lapseAtRead st item h
        split
        · exact hP.refuseItem _ _ _ _ _ hread
        · refine hP.lend (x := x) ?_ (Nat.lt_of_not_le hlen) (Session.lists_eq_false (Bool.eq_false_iff.2 hnew)) _ _ hread
          rw [← hx]
          exact Desk.context_of_stations (by simp) st

theorem renew {st : StationId} {x : Session} {item : Code} (hx : d.context st = .opened x) (hlen : x.items.length < 24)
    (hnew : item ∉ x.items.map ListEntry.code) (scanned : Nat) (passed : Option RefusalReason) (h : P d) :
    P (d.renew st x item scanned passed) := by
  simp only [Desk.renew]
  split
  · refine hP.post _ _ (hP.useArm _ _ _ _ (hP.addEntry (x := x) ?_ hlen hnew (hP.append _ _ _ (hP.spendFree _ (hP.putItem _ h)))))
    rw [← hx]
    exact Desk.context_of_stations (by simp) st
  · exact h

theorem renewal {st : StationId} {x : Session} (hx : d.context st = .opened x) (item : Code) (scanned : Nat) (h : P d) :
    P (d.renewal st x item scanned) := by
  have hread := hP.lapseAtRead st item h
  simp only [Desk.renewal]
  split
  · exact hP.refuseItem _ _ _ _ _ hread
  · next passed hmade =>
    obtain ⟨hnew, hmade⟩ := judge_made_cons hmade rfl
    obtain ⟨hlen, -⟩ := judge_made_cons hmade rfl
    refine hP.renew (x := x) ?_ (Nat.lt_of_not_le (of_decide_eq_false hlen)) (Session.lists_eq_false hnew) _ _ hread
    rw [← hx]
    exact Desk.context_of_stations (by simp) st

theorem restoreItem (item : Code) (prior : Option ItemEntry) (h : P d) : P (d.restoreItem item prior) := by
  unfold Desk.restoreItem
  split
  · split
    · exact hP.changeBorrower (fun _ => Borrower.Ranged.holdUp) _ (hP.putItem _ h)
    · exact hP.putItem _ h
  · exact hP.eraseItem _ h

end Desk.KeptByWrites

@[simp] theorem Desk.restoreItem_stations (d : Desk) (item : Code) (prior : Option ItemEntry) :
    (d.restoreItem item prior).stations = d.stations := by
  unfold restoreItem
  split
  · split <;> simp
  · simp

namespace Desk.KeptByWrites
variable {P : Desk → Prop} (hP : Desk.KeptByWrites P) {d : Desk}
include hP

theorem cancelLast {st : StationId} {x : Session} (hx : d.context st = .opened x) (h : P d) : P (d.cancelLast st x) := by
  simp only [Desk.cancelLast]
  split
  · next item due seq prior rest htake =>
    have hread := hP.lapseAtRead st item h
    split
    · refine hP.postSessionOpen _ _ (hP.resensitise _ (hP.session (fun y hy hright => ?_) (hP.appendPlain _ _
        (hP.changeBorrower (fun _ => Borrower.Ranged.returnOne) _ (hP.restoreItem _ _ hread)))))
      obtain rfl : x = y := by
        rw [Desk.context_of_stations (a := d) (by simp), hx] at hy
        exact Context.opened.inj hy
      exact hright.sublist (takeNewestLent_sublist htake)
    · exact hP.refuse _ _ hread
  · exact hP.refuse _ _ h

/-! ## Returns -/

theorem recordReturn (st : StationId) (item : Code) (found : Bool) (loan : Option ReturnedLoan) (h : P d) :
    P (d.recordReturn st item found loan) := hP.append _ _ _ h

theorem listReturn {st : StationId} {item : Code} (hnew : (d.context st).lists item = false) (h : P d) : P (d.listReturn st item) := by
  unfold Desk.listReturn
  split
  · next x hx =>
    split
    · next hlen =>
      rw [hx] at hnew
      exact hP.addEntry hx hlen (Session.lists_eq_false hnew) h
    · exact h
  · exact h

theorem concludeReturn {st : StationId} {item : Code} (hnew : (d.context st).lists item = false) (fine : Nat) (h : P d) :
    P (d.concludeReturn st item fine) := by
  unfold Desk.concludeReturn
  split
  · refine hP.listReturn ?_ (hP.post _ _ h)
    rwa [Desk.context_of_stations (a := d) (by simp)]
  · exact hP.listReturn hnew h

theorem settleLoan (l : ReturnedLoan) (h : P d) : P (d.settleLoan l) :=
  hP.changeBorrower (fun _ hb => hb.returnOne.fine _) _ h

end Desk.KeptByWrites

theorem Desk.resensitise_context (d : Desk) (st o : StationId) : (d.resensitise st).context o = d.context o := by
  simp only [resensitise, context, onStation_stations, PerStation.get_set]
  split <;> simp_all

theorem Desk.recordReturn_stations (d : Desk) (st : StationId) (item : Code) (found : Bool) (loan : Option ReturnedLoan) :
    (d.recordReturn st item found loan).stations = d.stations := by
  simp [recordReturn]

@[simp] theorem Desk.settleLoan_stations (d : Desk) (l : ReturnedLoan) : (d.settleLoan l).stations = d.stations := by
  simp [settleLoan]

namespace Desk.KeptByWrites
variable {P : Desk → Prop} (hP : Desk.KeptByWrites P) {d : Desk}
include hP

theorem returnPlain {st : StationId} {item : Code} (hnew : (d.context st).lists item = false) (found : Bool)
    (loan : Option ReturnedLoan) (h : P d) : P (d.returnPlain st item found loan) := by
  refine hP.concludeReturn ?_ _ (hP.resensitise _ (hP.recordReturn _ _ _ _ h))
  rwa [Desk.resensitise_context, Desk.context_of_stations (Desk.recordReturn_stations ..)]

theorem returnRouted {st : StationId} {entry : ItemEntry} (hst : ∀ r, d.context st ≠ .lookup r)
    (hnew : (d.context st).lists entry.code = false) (hold : Code) (found : Bool) (loan : Option ReturnedLoan) (h : P d) :
    P (d.returnRouted st entry hold found loan) := by
  simp only [Desk.returnRouted]
  set pickup := d.pickupDay hold
  set recorded := (((d.putItem { entry with status := .onHoldShelf hold pickup.1 }).changeBorrower hold
    Borrower.holdUp).recordReturn st entry.code found loan).append (some st) (.given false false false pickup.2)
    (.holdRouted hold entry.code pickup.1) with hrecorded
  set routed := ((recorded.resensitise st).post st (.holdFor (Code.shortNumber hold) pickup.1)).raiseNotice
    (.holdRouted st entry.code hold) with hrouted
  have hkept : P routed := hP.raiseNotice _ (hP.post _ _ (hP.resensitise _ (hP.append _ _ _ (hP.recordReturn _ _ _ _
    (hP.changeBorrower (fun _ => Borrower.Ranged.holdUp) _ (hP.putItem _ h))))))
  have hcontext : routed.context st = d.context st :=
    calc routed.context st = (recorded.resensitise st).context st := Desk.context_of_stations (by simp [hrouted]) st
      _ = recorded.context st := recorded.resensitise_context st st
      _ = d.context st := Desk.context_of_stations (by simp [hrecorded, Desk.recordReturn]) st
  have hcopy (j : SlipJob) : (routed.keepCopy j).context st = d.context st :=
    (Desk.context_of_stations (by simp) st).trans hcontext
  have hover (j : SlipJob) : ((routed.keepCopy j).handOver j).context st = d.context st :=
    (Desk.context_of_stations (by simp) st).trans (hcopy j)
  exact hP.concludeReturn (by rwa [hover]) _ (hP.handOver (fun r => hcopy _ ▸ hst r) (hP.keepCopy _ hkept))

theorem returnEntry {st : StationId} {item : Code} (hst : ∀ r, d.context st ≠ .lookup r) (hnew : (d.context st).lists item = false)
    (scanned : Nat) (h : P d) : P (d.returnEntry st item scanned) := by
  have hplain {d' : Desk} (hd : d'.stations = d.stations) (found : Bool) (loan : Option ReturnedLoan) (h : P d') :
      P (d'.returnPlain st item found loan) :=
    hP.returnPlain (by rwa [Desk.context_of_stations hd]) _ _ h
  have hrouted {d' : Desk} (hd : d'.stations = d.stations) {e : ItemEntry} (he : e.code = item) (hold : Code) (found : Bool)
      (loan : Option ReturnedLoan) (h : P d') : P (d'.returnRouted st e hold found loan) :=
    hP.returnRouted (by rwa [Desk.context_of_stations hd]) (by rwa [Desk.context_of_stations hd, he]) _ _ _ h
  simp only [Desk.returnEntry]
  split
  · exact hplain rfl _ _ h
  · next e hfind =>
    have he : e.code = item := Code.rank_inj (Table.find_some hfind).2
    split
    · split
      · exact hplain (by simp) _ _ (hP.eraseItem _ (hP.settleLoan _ h))
      · exact hrouted (by simp) he _ _ _ (hP.settleLoan _ h)
    · exact hplain (by simp) _ _ (hP.eraseItem _ h)
    · exact hrouted rfl he _ _ _ h
    · exact hrouted rfl he _ _ _ h
    · exact hP.post _ _ h
    · exact hplain rfl _ _ h
    · exact hplain rfl _ _ h

end Desk.KeptByWrites

theorem Desk.lists_of_itemListed {d : Desk} {item : Code} (h : d.itemListed item = false) (st : StationId) :
    (d.context st).lists item = false := by
  simp only [itemListed, StationId.list, List.any_cons, List.any_nil, Bool.or_eq_false_iff] at h
  obtain ⟨h0, h1, h2, h3, -⟩ := h
  cases st
  · exact h0
  · exact h1
  · exact h2
  · exact h3

namespace Desk.KeptByWrites
variable {P : Desk → Prop} (hP : Desk.KeptByWrites P) {d : Desk}
include hP

theorem returnItem {st : StationId} (hst : ∀ r, d.context st ≠ .lookup r) (item : Code) (scanned : Nat) (h : P d) :
    P (d.returnItem st item scanned) := by
  simp only [Desk.returnItem]
  split
  · exact hP.refuse _ _ h
  · next hlisted =>
    have hread := hP.lapseAtRead st item h
    have hcontext : (d.lapseAtRead st item).context st = d.context st := Desk.context_of_stations (by simp) st
    split
    · exact hP.returnEntry (by rwa [hcontext])
        (by rw [hcontext]; exact Desk.lists_of_itemListed (Bool.eq_false_iff.2 hlisted) st) _ hread
    · exact hP.refuse _ _ hread

end Desk.KeptByWrites

end Sys2Proof.Machine
end

section
/-! PROOF. The engine, the clock and the upload's tests: each keeps what every write and every operation of the Upload Engine keep. -/

namespace Sys2Proof.Machine

/-! ## Facts that the guards ask for -/

theorem Desk.deferredAt_of_slips {a b : Desk} (h : b.slips = a.slips) (st : StationId) : b.deferredAt st = a.deferredAt st := by
  rw [deferredAt, h, deferredAt]

theorem ScanStation.pair_fields (s : ScanStation) (required window : Nat) (c : Code) :
    (s.pair required window c).1.wand = s.wand ∧ (s.pair required window c).1.readErrors = s.readErrors ∧
    (s.pair required window c).1.queue = s.queue := by
  unfold pair newCandidate dropCandidate
  repeat' split
  all_goals exact ⟨rfl, rfl, rfl⟩

theorem ScanBounded.pair {s : ScanStation} (h : ScanBounded s) (required window : Nat) (c : Code) :
    ScanBounded (s.pair required window c).1 := by
  obtain ⟨hwand, herrors, hqueue⟩ := s.pair_fields required window c
  exact ⟨hwand ▸ h.wand, herrors ▸ h.readErrors, hqueue ▸ h.queue⟩

theorem ScanBounded.readError {s : ScanStation} (h : ScanBounded s) : ScanBounded s.readError :=
  ⟨trivial, Nat.min_le_right _ _, h.queue⟩

theorem ScanBounded.openFrame {s : ScanStation} (h : ScanBounded s) : ScanBounded s.openFrame :=
  ⟨Nat.zero_le _, h.readErrors, h.queue⟩

theorem ScanBounded.character {s : ScanStation} (h : ScanBounded s) (c : Option Byte) : ScanBounded (s.character c).1 := by
  unfold ScanStation.character
  split
  · split
    · exact h.openFrame
    · exact h
  · unfold ScanStation.frameCharacter
    split
    · split
      · exact h.readError.openFrame
      · split
        · split
          · exact ⟨trivial, h.readErrors, h.queue⟩
          · exact h.readError
        · split
          · split
            · next hlen => exact ⟨by simpa [WandState.bounded] using Nat.succ_le_succ hlen, h.readErrors, h.queue⟩
            · exact h.readError
          · exact h.readError
    · exact h.readError

theorem ScanBounded.gapExpiry {s : ScanStation} (h : ScanBounded s) : ScanBounded s.gapExpiry := by
  unfold ScanStation.gapExpiry
  split
  · exact h.readError
  · exact h

theorem ScanBounded.dropCandidate {s : ScanStation} (h : ScanBounded s) : ScanBounded s.dropCandidate :=
  ⟨h.wand, h.readErrors, h.queue⟩

theorem ScanBounded.pairingExpiry {s : ScanStation} (h : ScanBounded s) : ScanBounded s.pairingExpiry := by
  unfold ScanStation.pairingExpiry
  split
  · exact h.dropCandidate
  · exact h

theorem ScanBounded.disable {s : ScanStation} (h : ScanBounded s) : ScanBounded s.disable :=
  ⟨trivial, h.readErrors, Nat.zero_le _⟩

/-! ## The clock's ranges (R20, R26) -/

theorem Clock.Ranged.count {c : Clock} (h : c.Ranged) : c.count.Ranged := by
  have hmark : ∀ p, c.pendingMark.map PendingMark.older = some p → p.day ≤ 65535 ∧ p.minute ≤ 1439 ∧ p.second ≤ 59 := by
    intro p hp
    obtain ⟨q, hq, rfl⟩ := Option.map_eq_some_iff.1 hp
    exact h.pendingMark q hq
  simp only [Clock.count]
  split
  · exact ⟨h.day, h.minute, by assumption, Nat.zero_lt_succ _, Nat.min_le_right _ _, hmark⟩
  · split
    · exact ⟨h.day, by assumption, Nat.zero_le _, Nat.zero_lt_succ _, Nat.min_le_right _ _, hmark⟩
    · exact ⟨Nat.min_le_right _ _, Nat.zero_le _, Nat.zero_le _, Nat.zero_lt_succ _, Nat.min_le_right _ _, hmark⟩

theorem clockOf_due_le (p : PendingMark) :
    (clockOf p.due).1 ≤ 65535 ∧ (clockOf p.due).2.1 ≤ 1439 ∧ (clockOf p.due).2.2 ≤ 59 := by
  have hdue : p.due ≤ 65535 * 86400 + 86399 := Nat.min_le_right _ _
  simp only [clockOf]
  omega

/-! ## The Upload Engine's tests (R170, R171, R176) -/

namespace Desk.KeptByUpload
variable {P : Desk → Prop} (hP : Desk.KeptByUpload P) {d : Desk}
include hP

theorem tryWaitingUpload (h : P d) : P d.tryWaitingUpload := by
  unfold Desk.tryWaitingUpload
  split
  · next hmay =>
    have hidle : d.upload.state.isIdle = true := by
      simp only [Desk.uploadMayStart, Bool.and_eq_true] at hmay
      exact hmay.2.1.1
    exact hP.startUpload hidle h
  · exact h

theorem announceMinute (h : P d) : P d.announceMinute := by
  unfold Desk.announceMinute
  split
  · split
    · next hmay =>
      have hidle : d.upload.state.isIdle = true := by
        simp only [Desk.uploadMayStart, Bool.and_eq_true] at hmay
        exact hmay.1.1
      exact hP.startUpload hidle h
    · exact hP.waiting (fun _ => some d.clock.day) h
  · exact h

theorem uploadLinkLost (h : P d) : P d.uploadLinkLost := by
  unfold Desk.uploadLinkLost
  split
  · next hs => exact hP.stallUpload (beq_iff_eq.1 hs) h
  · exact h

theorem takenExpiry (h : P d) : P d.takenExpiry := by
  unfold Desk.takenExpiry
  split
  · next hs => exact hP.stallUpload (beq_iff_eq.1 (Bool.and_eq_true_iff.1 hs).1) h
  · exact h

theorem uploadStart (h : P d) : P d.uploadStart.desk := by
  unfold Desk.uploadStart
  split
  · next hidle => exact hP.startUpload hidle h
  · exact h

/-! ## The clock (R20 to R29) -/

theorem dayChange (day : Nat) (h : P d) : P (d.dayChange day) :=
  hP.waiting (fun w => w.filter fun w => !decide (w < day)) (hP.pruneExceptions _ (hP.sweep _ h))

theorem clockMoved (old : Clock) (h : P d) : P (d.clockMoved old) := by
  have hday : P (if old.day < d.clock.day then d.dayChange d.clock.day else d) := by
    split
    · exact hP.dayChange _ h
    · exact h
  simp only [Desk.clockMoved]
  generalize (if old.day < d.clock.day then d.dayChange d.clock.day else d) = moved at hday ⊢
  split
  · exact hday
  · exact hP.announceMinute hday

theorem second (h : P d) : P d.second := hP.reportSync (hP.clockMoved _ (hP.clock Clock.Ranged.count h))

theorem setClock (cause : ClockCause) {day minute second : Nat} (hday : day ≤ 65535) (hminute : minute ≤ 1439)
    (hsecond : second ≤ 59) (h : P d) : P (d.setClock cause day minute second) := by
  have hage (hr : d.clock.Ranged) : cause.markAge d.clock.markAge ≤ 172801 := by
    cases cause
    · exact Nat.zero_le _
    · exact Nat.zero_le _
    · exact hr.markAge
  have hmoved := hP.clockMoved d.clock (hP.clock (x := ⟨day, minute, second, 0, cause.markAge d.clock.markAge, none⟩)
    (fun hr => ⟨hday, hminute, hsecond, Nat.zero_lt_succ _, hage hr, by rintro _ ⟨⟩⟩) h)
  simp only [Desk.setClock]
  split
  · exact hP.reportSync (hP.appendPlain _ _ hmoved)
  · exact hP.reportSync hmoved

theorem applyPendingMark (h : P d) : P d.applyPendingMark := by
  unfold Desk.applyPendingMark
  split
  · next p _ =>
    obtain ⟨hday, hminute, hsecond⟩ := clockOf_due_le p
    exact hP.setClock _ hday hminute hsecond h
  · exact h

theorem timeMark (day minute : Half) (second : Byte) (h : P d) : P (d.timeMark day minute second).desk := by
  have hday : day.toNat ≤ 65535 := Nat.le_of_lt_succ day.isLt
  simp only [Desk.timeMark]
  split
  · exact h
  · next hargs =>
    obtain ⟨hminute, hsecond⟩ : minute.toNat ≤ 1439 ∧ second.toNat ≤ 59 := by simpa [clockArgs] using hargs
    split
    · exact h
    · split
      · exact hP.setClock _ hday hminute hsecond h
      · refine hP.raiseAlarm _ (hP.clock (fun hr => { hr with pendingMark := ?_ }) h)
        rintro _ ⟨⟩
        exact ⟨hday, hminute, hsecond⟩

theorem clockSet (day minute : Half) (second : Byte) (h : P d) : P (d.clockSet day minute second).desk := by
  unfold Desk.clockSet
  split
  · next hargs =>
    obtain ⟨hminute, hsecond⟩ : minute.toNat ≤ 1439 ∧ second.toNat ≤ 59 := by simpa [clockArgs] using hargs
    exact hP.setClock _ (Nat.le_of_lt_succ day.isLt) hminute hsecond h
  · exact h

end Desk.KeptByUpload

namespace Desk.Kept
variable {P : Desk → Prop} (hP : Desk.Kept P) {d : Desk}
include hP

/-! ## The desk becomes CLOSED (R77, R78) -/

theorem becomeClosed (h : P d) : P d.becomeClosed :=
  hP.tryWaitingUpload (hP.applyPendingMark (hP.appendPlain _ _ (hP.closingTimer none (hP.mode .closed h))))

theorem testClosing (h : P d) : P d.testClosing := by
  unfold Desk.testClosing
  split
  · exact hP.becomeClosed h
  · exact h

theorem closeSession (st : StationId) (h : P d) : P (d.closeSession st) := by
  unfold Desk.closeSession
  split
  · exact hP.testClosing (hP.endSession rfl _ _ h)
  · exact h

end Desk.Kept

/-! ## Codes are taken (R79 to R84, R98) -/

namespace Desk.KeptByWrites
variable {P : Desk → Prop} (hP : Desk.KeptByWrites P) {d : Desk}
include hP

theorem askProvisional (st : StationId) (card : Code) (category : Nat) {fails opens : Desk → Desk}
    (hfails : ∀ {d' : Desk}, d'.stations = d.stations → d'.slips = d.slips → P d' → P (fails d'))
    (hopens : ∀ {d' : Desk}, d'.stations = d.stations → d'.slips = d.slips → P d' → P (opens d')) (h : P d) :
    P (d.askProvisional st card category fails opens) := by
  unfold Desk.askProvisional
  split
  · exact hP.post _ _ (hfails rfl rfl h)
  · split
    · exact hP.refuse _ _ (hfails (by simp) (by simp) (hP.raiseAlarm _ h))
    · refine hopens (by simp) (by simp) (hP.raiseNotice _ (hP.putBorrower (fun _ => ?_) h))
      exact ⟨Nat.zero_le _, Nat.zero_le _, Nat.zero_le _⟩

theorem takeItem (st : StationId) (item : Code) (scanned : Nat) (h : P d) : P (d.takeItem st item scanned) := by
  unfold Desk.takeItem
  split
  · next hidle =>
    have hst (r : Lookup) : d.context st ≠ .lookup r := by simp [hidle]
    unfold Desk.takeItemIdle
    split
    · split
      · exact hP.returnItem hst _ _ h
      · exact hP.post _ _ h
    · split
      · exact hP.refuse _ _ h
      · exact hP.post _ _ h
  · next x hx =>
    have hst (r : Lookup) : d.context st ≠ .lookup r := by simp [hx]
    unfold Desk.takeItemOpen
    split
    · exact hP.loan hx _ _ h
    · exact hP.returnItem hst _ _ h
    · exact hP.renewal hx _ _ h
  · exact h

theorem setMode (st : StationId) (m : StationMode) (h : P d) : P (d.setMode st m) := by
  unfold Desk.setMode
  split
  · exact h
  · exact hP.station rfl h

theorem cancelCard (st : StationId) (h : P d) : P (d.cancelCard st) := by
  unfold Desk.cancelCard
  split
  · exact hP.refuse _ _ h
  · next hx => exact hP.cancelLast hx h
  · exact h

theorem overrideCard (st : StationId) (h : P d) : P (d.overrideCard st) := by
  unfold Desk.overrideCard
  split
  · exact hP.refuse _ _ h
  · exact hP.session (fun _ _ hx => hx) h
  · exact h

theorem clearCard (st : StationId) (h : P d) : P (d.clearCard st) := by
  unfold Desk.clearCard
  split
  · exact hP.arbiter (fun hls ha => Arbiter.clearShown_right (x := d.arbiterSettings st) hls ha) h
  · exact h

theorem reprintCard (st : StationId) (h : P d) : P (d.reprintCard st) := by
  unfold Desk.reprintCard
  split
  · next htakes => exact hP.reprint (Context.not_lookup_of_takes htakes) h
  · exact h

theorem skipCard (st : StationId) (h : P d) : P (d.skipCard st) := by
  unfold Desk.skipCard
  split
  · exact hP.skipSlip _ h
  · exact h

theorem acceptScan (st : StationId) (h : P d) : P (d.acceptScan st) :=
  hP.session (fun _ _ hx => hx)
    (hP.arbiter (fun hls ha => Arbiter.scanAccepted_right (x := d.arbiterSettings st) hls ha) h)

theorem confirmSessions (card : Code) (h : P d) : P (d.confirmSessions card) :=
  Desk.eachStation_induct (fun _ _ hd => hP.session (fun x _ hx => by split <;> exact hx) hd) h

theorem notFoundLate (card : Code) (h : P d) : P (d.notFoundLate card) := by
  unfold Desk.notFoundLate
  split
  · split
    · exact hP.raiseNotice _ h
    · exact h
  · exact h

theorem replyLate {b : Borrower} (hb : b.Ranged) (h : P d) : P (d.replyLate b).desk := by
  unfold Desk.replyLate
  split
  · split
    · exact hP.confirmSessions _ (hP.putBorrower (fun _ => ⟨Nat.min_le_right _ _, hb.holdsReady, Nat.min_le_right _ _⟩) h)
    · exact h
  · split
    · exact hP.raiseAlarm _ h
    · exact hP.putBorrower (fun _ => hb) h

end Desk.KeptByWrites

namespace Desk.KeptByContexts
variable {P : Desk → Prop} (hP : Desk.KeptByContexts P) {d : Desk}
include hP

theorem serveCard {st : StationId} (hst : d.deferredAt st = none) (card : Code) (category : Nat) (winner : Option BlockEntry) (h : P d) :
    P (d.serveCard st card category winner) := by
  unfold Desk.serveCard
  split
  · exact hP.refuse _ _ h
  · split
    · exact hP.openSession (.inr hst) _ _ h
    · split
      · exact hP.enterLookup (.inr hst) _ _ h
      · refine hP.askProvisional _ _ _ (fun _ _ h => h) (fun _ hslips h => hP.openSession (.inr ?_) _ _ h) h
        rwa [Desk.deferredAt_of_slips hslips]

theorem takeBorrower (st : StationId) (card : Code) (category : Nat) (h : P d) : P (d.takeBorrower st card category) := by
  have hserved {ended : Desk} (hended : P ended) : P (if (ended.deferredAt st).isSome then ended
      else ended.screened st card id fun d winner => d.serveCard st card category winner) := by
    split
    · exact hended
    · next hnone =>
      refine hP.screened (served := fun d winner => d.serveCard st card category winner) id
        (fun w hn => hP.serveCard ?_ _ _ _ hn) hended
      rw [Desk.deferredAt_of_slips (a := ended) (by simp)]
      simpa using hnone
  unfold Desk.takeBorrower
  split
  · exact hP.post _ _ h
  · split
    · exact hserved (hP.endSession rfl _ _ h)
    · exact hserved h

theorem openFromLookup {st : StationId} {r : Lookup} (hst : d.context st = .lookup r) (card : Code) (h : P d) :
    P (d.openFromLookup st card) := by
  refine hP.screened (hP.setContext_stopped rfl _) (fun w hn => hP.openSession (.inl ?_) _ _ hn) (hP.dropLookup _ h)
  have hstations : ((d.dropLookup st).blockNotice st card ((d.dropLookup st).blockCheck card)).stations = d.stations := by
    simp [Desk.dropLookup]
  rw [Desk.context_of_stations hstations, hst]
  rfl

theorem lookupTimesOut {st : StationId} {r : Lookup} (hst : d.context st = .lookup r) (h : P d) : P (d.lookupTimesOut st r) :=
  hP.askProvisional _ _ _ (fun _ _ h => hP.leaveLookup rfl _ h)
    (fun hstations _ h => hP.openFromLookup ((Desk.context_of_stations hstations st).trans hst) _ h) h

theorem stopStation {next : Context} (hnext : next.serving = false) (st : StationId) (h : P d) : P (d.stopStation next st) := by
  unfold Desk.stopStation
  split
  · exact hP.endSession hnext _ _ h
  · exact hP.leaveLookup hnext _ h
  · exact h

end Desk.KeptByContexts

theorem borrowerOf_ranged {card : CodeField} {category loansHeld holdsReady : Byte} {finesOwed expiryDay : Half} {b : Borrower}
    (h : borrowerOf card category loansHeld holdsReady finesOwed expiryDay = some b) : b.Ranged := by
  unfold borrowerOf at h
  split at h
  · split at h
    · next hfields =>
      simp only [Bool.and_eq_true, decide_eq_true_iff] at hfields
      cases h
      exact ⟨hfields.1.2, hfields.2, Nat.le_of_lt_succ finesOwed.isLt⟩
    · cases h
  · cases h

theorem Desk.lookingFor_context {d : Desk} {card : Code} {st : StationId} (h : d.lookingFor card = some st) :
    ∃ r, d.context st = .lookup r ∧ r.card = card := by
  have hcard := List.find?_some h
  split at hcard
  · next r hr => exact ⟨r, hr, by simpa using hcard⟩
  · cases hcard

namespace Desk.KeptByTaking
variable {P : Desk → Prop} (hP : Desk.KeptByTaking P) {d : Desk}
include hP

theorem takeCommand (st : StationId) (c : Command) (h : P d) : P (d.takeCommand st c) := by
  cases c with
  | loanMode => exact hP.setMode _ _ h
  | returnMode => exact hP.setMode _ _ h
  | renewMode => exact hP.setMode _ _ h
  | endSession => exact hP.closeSession _ h
  | cancelLast => exact hP.cancelCard _ h
  | overrideCard => exact hP.overrideCard _ h
  | clear => exact hP.clearCard _ h
  | reprint => exact hP.reprintCard _ h
  | skipSlip => exact hP.skipCard _ h

theorem takeEntry (st : StationId) (e : QueueEntry) (h : P d) : P (d.takeEntry st e) := by
  cases e with
  | borrower card category => exact hP.takeBorrower _ _ _ h
  | item code itemClass => exact hP.takeItem _ _ _ h
  | command code c => exact hP.takeCommand _ _ h

end Desk.KeptByTaking

/-! ## The scan queue (R17, R18) -/

namespace Desk.KeptByQueues
variable {P : Desk → Prop} (hP : Desk.KeptByQueues P) {d : Desk}
include hP

theorem takeHead (st : StationId) (h : P d) : P (d.takeHead st) := by
  unfold Desk.takeHead
  split
  · next e rest hqueue =>
    split
    · refine hP.takeEntry _ _ (hP.scan (fun hs => ⟨hs.wand, hs.readErrors, ?_⟩) h)
      have hlen := hs.queue
      rw [hqueue] at hlen
      exact (Nat.le_succ _).trans hlen
    · exact h
  · exact h

theorem drain (st : StationId) (h : P d) : P (d.drain st) := Desk.repeat_induct (fun _ hd => hP.takeHead st hd) _ h

theorem offerScan (st : StationId) (e : QueueEntry) (h : P d) : P (d.offerScan st e) := by
  unfold Desk.offerScan
  split
  · next hroom =>
    refine hP.drain _ (hP.scan (fun hs => ⟨hs.wand, hs.readErrors, ?_⟩) h)
    simpa [ScanStation.remember] using hroom
  · exact hP.post _ _ h

theorem classifyRead (st : StationId) (c : Code) (h : P d) : P (d.classifyRead st c) := by
  unfold Desk.classifyRead
  split
  · exact h
  · exact hP.post _ _ (hP.acceptScan _ h)
  · exact hP.offerScan _ _ (hP.acceptScan _ h)

theorem takeRead (st : StationId) (c : Code) (h : P d) : P (d.takeRead st c) := by
  have hpaired : P (d.onScan st fun _ => ((d.scan.get st).pair (d.stationSettings.get st).readsRequired
    (d.stationSettings.get st).pairingWindow c).1) := hP.scan (fun hs => hs.pair _ _ _) h
  simp only [Desk.takeRead]
  split
  · exact hP.classifyRead _ _ hpaired
  · exact hpaired

theorem wandCharacter (st : StationId) (c : Option Byte) (h : P d) : P (d.wandCharacter st c) := by
  have hchar : P (d.onScan st fun _ => ((d.scan.get st).character c).1) := hP.scan (fun hs => hs.character c) h
  simp only [Desk.wandCharacter]
  split
  · exact h
  · split
    · exact hP.takeRead _ _ hchar
    · exact hchar

end Desk.KeptByQueues

namespace Desk.Kept
variable {P : Desk → Prop} (hP : Desk.Kept P) {d : Desk}
include hP

theorem queues : Desk.KeptByQueues P where
  toKeptByUpload := hP.toKeptByUpload
  takeBorrower st card category h := hP.takeBorrower st card category h
  closeSession st h := hP.closeSession st h
  scan hf h := hP.scan hf h
  scanRestart h := hP.scanRestart h

/-! ## Lookups end (R47 to R53, R85) -/

theorem afterLookup (st : StationId) (h : P d) : P (d.afterLookup st) := hP.queues.drain _ (hP.testClosing h)

theorem lookupExpiry (st : StationId) (h : P d) : P (d.lookupExpiry st) := by
  unfold Desk.lookupExpiry
  split
  · next hst => exact hP.afterLookup _ (hP.lookupTimesOut hst h)
  · exact h

theorem replyInTime {st : StationId} {r : Lookup} (hst : d.context st = .lookup r) {b : Borrower} (hb : b.Ranged) (h : P d) :
    P (d.replyInTime st b).desk := by
  unfold Desk.replyInTime
  split
  · exact hP.afterLookup _ (hP.refuse _ _ (hP.leaveLookup rfl _ (hP.raiseAlarm _ h)))
  · refine hP.afterLookup _ (hP.openFromLookup (r := r) ?_ _ (hP.putBorrower (fun _ => hb) h))
    rwa [Desk.context_of_stations (a := d) (by simp)]

theorem lookupFound (card : CodeField) (category loansHeld holdsReady : Byte) (finesOwed expiryDay : Half) (h : P d) :
    P (d.lookupFound card category loansHeld holdsReady finesOwed expiryDay).desk := by
  unfold Desk.lookupFound
  split
  · next hb =>
    split
    · next hst =>
      obtain ⟨r, hr, -⟩ := Desk.lookingFor_context hst
      exact hP.replyInTime hr (borrowerOf_ranged hb) h
    · exact hP.replyLate (borrowerOf_ranged hb) h
  · exact h

theorem lookupNotFound (card : CodeField) (h : P d) : P (d.lookupNotFound card).desk := by
  unfold Desk.lookupNotFound
  split
  · split
    · exact hP.afterLookup _ (hP.post _ _ (hP.leaveLookup rfl _ h))
    · exact hP.notFoundLate _ h
  · exact h

theorem lookupReply (bs : List Byte) (h : P d) : P (d.lookupReply bs).desk := by
  unfold Desk.lookupReply
  split
  · exact hP.lookupFound _ _ _ _ _ _ h
  · exact hP.lookupNotFound _ h
  · exact h

theorem endAllLookups (h : P d) : P d.endAllLookups := by
  refine Desk.eachStation_induct (fun _ st hd => hP.queues.drain st hd) (hP.testClosing (Desk.eachStation_induct (fun d st hd => ?_) h))
  split
  · next hst => exact hP.lookupTimesOut hst hd
  · exact hd

/-! ## The desk mode and station enabled (R77, R78, R80) -/

theorem forceClose (h : P d) : P d.forceClose :=
  Desk.eachStation_induct (fun _ st hd => hP.queues.drain st hd)
    (hP.becomeClosed (Desk.eachStation_induct (fun _ _ hd => hP.stopStation rfl _ hd) h))

theorem openDesk (h : P d) : P d.openDesk := by
  unfold Desk.openDesk
  split
  · exact h
  · exact hP.appendPlain _ _ (hP.closingTimer none (hP.mode .opened h))

theorem beginClosing (h : P d) : P d.beginClosing := by
  have hclosing : P (({ d with mode := .closing, closingTimer := some d.settings.closingGrace }).appendPlain none
    (.deskMode .closing)) := hP.appendPlain _ _ (hP.closingTimer (some d.settings.closingGrace) (hP.mode .closing h))
  simp only [Desk.beginClosing]
  split
  · exact hP.forceClose hclosing
  · exact hP.testClosing hclosing

theorem closeDesk (h : P d) : P d.closeDesk := by
  unfold Desk.closeDesk
  split
  · exact h
  · exact hP.beginClosing h
  · exact hP.forceClose h

theorem graceExpiry (h : P d) : P d.graceExpiry := by
  unfold Desk.graceExpiry
  split
  · exact hP.forceClose h
  · exact h

theorem disableStation (st : StationId) (h : P d) : P (d.disableStation st) := by
  refine hP.testClosing (hP.scan (fun hs => hs.disable) ?_)
  split
  · exact hP.endSession rfl _ _ h
  · exact hP.leaveLookup rfl _ h
  · exact hP.setContext_stopped rfl _ h

theorem setEnabled (st : StationId) (on : Bool) (h : P d) : P (d.setEnabled st on) := by
  have hset : P (d.onStationSettings st fun x => { x with enabled := on }) :=
    hP.stationSettings rfl (fun hr => { hr with }) h
  simp only [Desk.setEnabled]
  split
  · exact h
  · split
    · split
      · exact hP.setContext_stopped rfl _ hset
      · exact hset
    · exact hP.disableStation _ hset

end Desk.Kept

theorem AlarmSet.Bounded.restart {s : AlarmSet} (h : s.Bounded) : s.restart.Bounded := by
  intro a
  cases a with
  | powerRestored => exact ⟨(h .powerRestored).1, fun _ => rfl⟩
  | coldStart => exact ⟨(h .coldStart).1, fun _ => rfl⟩
  | _ => exact ⟨Nat.zero_le _, fun _ => rfl⟩

@[simp] theorem Desk.restartSlips_uploadList (d : Desk) (copies : PerStation (Option SlipJob)) :
    (d.restartSlips copies).uploadList = d.uploadList := by
  simp [restartSlips]

namespace Desk.Kept
variable {P : Desk → Prop} (hP : Desk.Kept P) {d : Desk}
include hP

/-! ## The link and the restarts (R190, R195, R196) -/

/-- The queued frames, the notices and the scan stations are gone after a restart of any kind. -/
theorem clearQueues (h : P d) :
    P { d with link := .offline, lookupList := [], uploadList := [], notices := [], scan := .all .restart, sweep := none,
               arbiters := .all .restart } :=
  hP.arbitersRestart (hP.sweep none (hP.scanRestart (hP.notices (x := []) (fun _ => List.Pairwise.nil)
    (hP.unsend (l := []) (by simp) (hP.lookupList [] (hP.link .offline h))))))

theorem restartEngine (h : P d) : P d.restartEngine := by
  refine hP.stationsRestart (fun st => ?_) (hP.closingTimer none (hP.mode .closed h))
  have hrestart (on : Bool) : (EngineStation.restart on).context.serving = false := by cases on <;> rfl
  cases st <;> exact hrestart _

theorem linkLost (h : P d) : P d.linkLost :=
  hP.uploadLinkLost (hP.endAllLookups (hP.unsend (l := []) (by simp) (hP.lookupList [] (hP.link .offline h))))

theorem linkReset (h : P d) : P d.linkReset := by
  have hmark : P { d with clock := { d.clock with pendingMark := none } } :=
    hP.clock (fun hr => { hr with pendingMark := by rintro _ ⟨⟩ }) h
  exact hP.reportSync (hP.appendPlain _ _ (hP.restartUpload (by simp [Desk.restartEngine])
    (hP.restartSlips _ (hP.restartEngine (hP.clearQueues hmark)))))

theorem loseVolatile (h : P d) : P d.loseVolatile := by
  have halarms : P { d with alarms := d.alarms.restart } := hP.alarms (fun hb => hb.restart) h
  exact hP.restartUpload (by simp [Desk.restartEngine]) (hP.restartSlips _ (hP.restartEngine (hP.clearQueues halarms)))

theorem warmStart (h : P d) : P d.warmStart :=
  hP.reportSync (hP.applyPendingMark (hP.appendPlain _ _ (hP.evaluateJournal (hP.raiseAlarm _ (hP.power _ (hP.loseVolatile h))))))

theorem engine : Desk.KeptByEngine P where
  toKeptByQueues := hP.queues
  power x h := hP.power x h
  link x h := hP.link x h
  lookupExpiry st h := hP.lookupExpiry st h
  lookupReply bs h := hP.lookupReply bs h
  openDesk h := hP.openDesk h
  closeDesk h := hP.closeDesk h
  graceExpiry h := hP.graceExpiry h
  setEnabled st on h := hP.setEnabled st on h
  linkLost h := hP.linkLost h
  linkReset h := hP.linkReset h
  loseVolatile h := hP.loseVolatile h
  warmStart h := hP.warmStart h
  coldStart n := hP.coldStart n

end Desk.Kept

namespace Desk.KeptByEngine
variable {P : Desk → Prop} (hP : Desk.KeptByEngine P) {d : Desk}
include hP

theorem frameArrives (h : P d) : P d.frameArrives := by
  simp only [Desk.frameArrives]
  split
  · exact hP.tryWaitingUpload (hP.link _ h)
  · exact hP.link _ h

end Desk.KeptByEngine

end Sys2Proof.Machine
end

section
/-! PROOF. R185, R198: the fields of a payload are read back as they were laid out, and laid out again as they were read; so the
frame of a request row is taken as that row, and every payload that fits its kind is the frame of a row. -/

namespace Sys2Proof

/-! ## A field behind others -/

@[simp] theorem fieldAt_cons_succ (b : Byte) (bs : List Byte) (offset size : Nat) :
    fieldAt (b :: bs) (offset + 1) size = fieldAt bs offset size := rfl

theorem fieldAt_bytesOf_append (n v : Nat) (bs : List Byte) (offset size : Nat) :
    fieldAt (bytesOf n v ++ bs) (offset + n) size = fieldAt bs offset size := by
  rw [fieldAt, Nat.add_comm, ← List.drop_drop, List.drop_left' (bytesOf_length n v), fieldAt]

section
variable (v : Nat) (bs : List Byte) (offset size : Nat)

@[simp] theorem fieldAt_half_append : fieldAt (bytesOf 2 v ++ bs) (offset + 2) size = fieldAt bs offset size :=
  fieldAt_bytesOf_append 2 v bs offset size

@[simp] theorem fieldAt_word_append : fieldAt (bytesOf 4 v ++ bs) (offset + 4) size = fieldAt bs offset size :=
  fieldAt_bytesOf_append 4 v bs offset size

@[simp] theorem fieldAt_code_append : fieldAt (bytesOf 8 v ++ bs) (offset + 8) size = fieldAt bs offset size :=
  fieldAt_bytesOf_append 8 v bs offset size

end

@[simp] theorem fieldAt_half (x : Half) (bs : List Byte) : fieldAt (bytesOf 2 x.toNat ++ bs) 0 2 = x.toNat :=
  (fieldAt_bytesOf [] bs 2 x.toNat).trans (Nat.mod_eq_of_lt x.isLt)

@[simp] theorem fieldAt_word (x : Word) (bs : List Byte) : fieldAt (bytesOf 4 x.toNat ++ bs) 0 4 = x.toNat :=
  (fieldAt_bytesOf [] bs 4 x.toNat).trans (Nat.mod_eq_of_lt x.isLt)

@[simp] theorem fieldAt_code (x : CodeField) (bs : List Byte) : fieldAt (bytesOf 8 x.toNat ++ bs) 0 8 = x.toNat :=
  (fieldAt_bytesOf [] bs 8 x.toNat).trans (Nat.mod_eq_of_lt x.isLt)

@[simp] theorem fieldAt_half_last (x : Half) : fieldAt (bytesOf 2 x.toNat) 0 2 = x.toNat := by
  simpa using fieldAt_half x []

@[simp] theorem fieldAt_word_last (x : Word) : fieldAt (bytesOf 4 x.toNat) 0 4 = x.toNat := by
  simpa using fieldAt_word x []

@[simp] theorem fieldAt_code_last (x : CodeField) : fieldAt (bytesOf 8 x.toNat) 0 8 = x.toNat := by
  simpa using fieldAt_code x []

@[simp] theorem fieldAt_cons_zero_one (b : Byte) (bs : List Byte) : fieldAt (b :: bs) 0 1 = b.toNat := by
  simp [fieldAt, numberOf]

/-! ## A field read and laid out again -/

theorem numberOf_lt (bs : List Byte) : numberOf bs < 256 ^ bs.length := by
  induction bs using List.reverseRecOn with
  | nil => simp [numberOf]
  | append_singleton bs b ih =>
    have hb := b.isLt
    rw [numberOf_snoc, List.length_append, List.length_singleton, Nat.pow_succ]
    omega

/-- The number that bytes spell is laid out as these bytes. -/
theorem bytesOf_numberOf (bs : List Byte) : bytesOf bs.length (numberOf bs) = bs := by
  induction bs using List.reverseRecOn with
  | nil => rfl
  | append_singleton bs b ih =>
    have hb := b.isLt
    have hhigh : (256 * numberOf bs + b.toNat) / 256 = numberOf bs := by omega
    have hlow : BitVec.ofNat 8 (256 * numberOf bs + b.toNat) = b := by
      apply BitVec.eq_of_toNat_eq
      rw [BitVec.toNat_ofNat]
      omega
    rw [List.length_append, List.length_singleton, numberOf_snoc, bytesOf_succ, hhigh, hlow, ih]

theorem bytesOf_fieldAt {bs : List Byte} {offset size : Nat} (h : offset + size ≤ bs.length) :
    bytesOf size (fieldAt bs offset size) ++ bs.drop (offset + size) = bs.drop offset := by
  have hlen : ((bs.drop offset).take size).length = size := by simp; omega
  have hfield := bytesOf_numberOf ((bs.drop offset).take size)
  rw [hlen] at hfield
  rw [fieldAt, hfield, ← List.drop_drop, List.take_append_drop]

theorem fieldAt_lt {bs : List Byte} {offset size : Nat} : fieldAt bs offset size < 256 ^ size :=
  (numberOf_lt _).trans_le (Nat.pow_le_pow_right (by decide) (by simp))

section
variable {bs : List Byte} {offset : Nat}

theorem byteAt_cons_drop (h : offset + 1 ≤ bs.length) : byteAt bs offset :: bs.drop (offset + 1) = bs.drop offset := by
  have hfield := bytesOf_fieldAt h
  rwa [bytesOf_succ] at hfield

theorem halfAt_append_drop (h : offset + 2 ≤ bs.length) :
    bytesOf 2 (halfAt bs offset).toNat ++ bs.drop (offset + 2) = bs.drop offset := by
  have hlt : fieldAt bs offset 2 < 2 ^ 16 := fieldAt_lt
  rw [halfAt, BitVec.toNat_ofNat, Nat.mod_eq_of_lt hlt, bytesOf_fieldAt h]

theorem halfAt_last (h : bs.length = offset + 2) : bytesOf 2 (halfAt bs offset).toNat = bs.drop offset := by
  simpa [← h] using halfAt_append_drop h.ge

theorem wordAt_append_drop (h : offset + 4 ≤ bs.length) :
    bytesOf 4 (wordAt bs offset).toNat ++ bs.drop (offset + 4) = bs.drop offset := by
  have hlt : fieldAt bs offset 4 < 2 ^ 32 := fieldAt_lt
  rw [wordAt, BitVec.toNat_ofNat, Nat.mod_eq_of_lt hlt, bytesOf_fieldAt h]

theorem wordAt_last (h : bs.length = offset + 4) : bytesOf 4 (wordAt bs offset).toNat = bs.drop offset := by
  simpa [← h] using wordAt_append_drop h.ge

theorem codeAt_append_drop (h : offset + 8 ≤ bs.length) :
    codeBytes (codeAt bs offset) ++ bs.drop (offset + 8) = bs.drop offset := by
  have hlt : fieldAt bs offset 8 < 2 ^ 64 := fieldAt_lt
  rw [codeBytes, codeAt, BitVec.toNat_ofNat, Nat.mod_eq_of_lt hlt, bytesOf_fieldAt h]

end

/-! ## The entries of the tables, read back -/

@[simp] theorem codeBytes_length (f : CodeField) : (codeBytes f).length = 8 := bytesOf_length 8 _

@[simp] theorem PrefixWire.ofBytes_bytes (w : PrefixWire) : PrefixWire.ofBytes w.bytes = w := by
  simp [ofBytes, bytes, byteAt, codeAt, codeBytes]

@[simp] theorem WeeklyWire.ofBytes_bytes (w : WeeklyWire) : WeeklyWire.ofBytes w.bytes = w := by
  simp [ofBytes, bytes, byteAt, halfAt]

@[simp] theorem ExceptionWire.ofBytes_bytes (w : ExceptionWire) : ExceptionWire.ofBytes w.bytes = w := by
  simp [ofBytes, bytes, byteAt, halfAt]

@[simp] theorem BorrowerWire.ofBytes_bytes (w : BorrowerWire) : BorrowerWire.ofBytes w.bytes = w := by
  simp [ofBytes, bytes, byteAt, halfAt, codeAt, codeBytes]

@[simp] theorem BlockKeyWire.ofBytes_bytes (w : BlockKeyWire) : BlockKeyWire.ofBytes w.bytes = w := by
  simp [ofBytes, bytes, byteAt, codeAt, codeBytes]

@[simp] theorem BlockWire.ofBytes_bytes (w : BlockWire) : BlockWire.ofBytes w.bytes = w := by
  simp [ofBytes, bytes, BlockKeyWire.ofBytes, BlockKeyWire.bytes, byteAt, halfAt, codeAt, codeBytes]

@[simp] theorem ItemWire.ofBytes_bytes (w : ItemWire) : ItemWire.ofBytes w.bytes = w := by
  simp [ofBytes, bytes, byteAt, halfAt, codeAt, codeBytes]

/-- The last of the 14 bytes of a loan rule entry is not judged (log 24). -/
@[simp] theorem RuleWire.ofBytes_fieldBytes (w : RuleWire) (last : Byte) : RuleWire.ofBytes (w.fieldBytes ++ [last]) = w := by
  simp [ofBytes, fieldBytes, byteAt, halfAt]

@[simp] theorem CategoryWire.ofBytes_bytes (w : CategoryWire) : CategoryWire.ofBytes w.bytes = w := by
  simp [ofBytes, bytes, byteAt, halfAt]

/-! ## The entries of the tables, laid out again -/

section
variable {bs : List Byte}

theorem PrefixWire.bytes_ofBytes (h : bs.length = 15) : (PrefixWire.ofBytes bs).bytes = bs := by
  have hend : [] = bs.drop 15 := by simp [h]
  simp only [bytes, ofBytes, List.cons_append, List.nil_append]
  simp (disch := omega) only [hend, byteAt_cons_drop, codeAt_append_drop, List.drop_zero]

theorem WeeklyWire.bytes_ofBytes (h : bs.length = 7) : (WeeklyWire.ofBytes bs).bytes = bs := by
  simp only [bytes, ofBytes, List.cons_append, List.nil_append]
  simp (disch := omega) only [halfAt_last, byteAt_cons_drop, halfAt_append_drop, List.drop_zero]

theorem ExceptionWire.bytes_ofBytes (h : bs.length = 8) : (ExceptionWire.ofBytes bs).bytes = bs := by
  simp only [bytes, ofBytes, List.cons_append, List.nil_append, List.append_assoc]
  simp (disch := omega) only [halfAt_last, byteAt_cons_drop, halfAt_append_drop, List.drop_zero]

theorem BorrowerWire.bytes_ofBytes (h : bs.length = 16) : (BorrowerWire.ofBytes bs).bytes = bs := by
  simp only [bytes, ofBytes, List.cons_append, List.nil_append, List.append_assoc]
  simp (disch := omega) only [halfAt_last, byteAt_cons_drop, halfAt_append_drop, codeAt_append_drop, List.drop_zero]

theorem BlockKeyWire.bytes_ofBytes (h : bs.length = 10) : (BlockKeyWire.ofBytes bs).bytes = bs := by
  have hend : [] = bs.drop 10 := by simp [h]
  simp only [bytes, ofBytes]
  simp (disch := omega) only [hend, byteAt_cons_drop, codeAt_append_drop, List.drop_zero]

theorem BlockWire.bytes_ofBytes (h : bs.length = 15) : (BlockWire.ofBytes bs).bytes = bs := by
  simp only [bytes, ofBytes, BlockKeyWire.bytes, BlockKeyWire.ofBytes, List.cons_append, List.nil_append, List.append_assoc]
  simp (disch := omega) only [halfAt_last, byteAt_cons_drop, codeAt_append_drop, List.drop_zero]

theorem ItemWire.bytes_ofBytes (h : bs.length = 34) : (ItemWire.ofBytes bs).bytes = bs := by
  simp only [bytes, ofBytes, List.cons_append, List.nil_append, List.append_assoc]
  simp (disch := omega) only [halfAt_last, byteAt_cons_drop, halfAt_append_drop, codeAt_append_drop, List.drop_zero]

theorem RuleWire.fieldBytes_ofBytes (h : bs.length = 14) : (RuleWire.ofBytes bs).fieldBytes ++ [byteAt bs 13] = bs := by
  have hend : [] = bs.drop 14 := by simp [h]
  simp only [fieldBytes, ofBytes, List.cons_append, List.nil_append, List.append_assoc]
  simp (disch := omega) only [hend, byteAt_cons_drop, halfAt_append_drop, List.drop_zero]

theorem CategoryWire.bytes_ofBytes (h : bs.length = 7) : (CategoryWire.ofBytes bs).bytes = bs := by
  have hend : [] = bs.drop 7 := by simp [h]
  simp only [bytes, ofBytes, List.cons_append, List.nil_append]
  simp (disch := omega) only [hend, byteAt_cons_drop, halfAt_append_drop, List.drop_zero]

end

/-! ## Their lengths -/

@[simp] theorem PrefixWire.bytes_length (w : PrefixWire) : w.bytes.length = 15 := by simp [bytes]
@[simp] theorem WeeklyWire.bytes_length (w : WeeklyWire) : w.bytes.length = 7 := by simp [bytes]
@[simp] theorem ExceptionWire.bytes_length (w : ExceptionWire) : w.bytes.length = 8 := by simp [bytes]
@[simp] theorem BorrowerWire.bytes_length (w : BorrowerWire) : w.bytes.length = 16 := by simp [bytes]
@[simp] theorem BlockKeyWire.bytes_length (w : BlockKeyWire) : w.bytes.length = 10 := by simp [bytes]
@[simp] theorem BlockWire.bytes_length (w : BlockWire) : w.bytes.length = 15 := by simp [bytes]
@[simp] theorem ItemWire.bytes_length (w : ItemWire) : w.bytes.length = 34 := by simp [bytes]
@[simp] theorem RuleWire.fieldBytes_length (w : RuleWire) : w.fieldBytes.length = 13 := by simp [fieldBytes]
@[simp] theorem CategoryWire.bytes_length (w : CategoryWire) : w.bytes.length = 7 := by simp [bytes]

namespace Machine

/-! ## A row's frame is taken as the row (R185, R198) -/

/-- A request of a kind that is neither STATUS_READ nor RESET is decided from its payload. -/
theorem State.takeFrame_decided {kind : Byte} (hkind : isRequestKind kind = true) (hstatus : kind ≠ 0x08) (hreset : kind ≠ 0x12)
    {tag : Byte} {payload : List Byte} {decision : Desk → Decision} (h : ∀ d : Desk, d.request kind.toNat payload = decision d) (s : State) :
    s.takeFrame kind tag payload = s.deskRequest tag decision := by
  rw [State.takeFrame_request s kind tag payload hkind (absurd · hstatus) (absurd · hreset)]
  exact congrArg _ (funext h)

theorem Desk.tableWrite_request (d : Desk) (table op : Byte) (entry : List Byte) :
    d.request 0x01 (table :: op :: entry) = d.tableWrite table op entry := by
  simp [request, byteAt]

theorem Desk.tableRead_request (d : Desk) (table mode : Byte) (key : List Byte) :
    d.request 0x02 (table :: mode :: key) = d.tableRead table mode key := by
  simp [request, byteAt]

theorem Desk.settingWrite_request (d : Desk) (setting index : Byte) (value : Word) :
    d.request 0x03 (setting :: index :: bytesOf 4 value.toNat) = d.writeSetting setting index value := by
  simp [request, sized, byteAt, wordAt]

theorem Desk.sized_self (d : Desk) {n : Nat} {bs : List Byte} (h : bs.length = n) (x : Decision) : d.sized n bs x = x := if_pos h

/-- What a row has to show to be its frame. -/
def IsFrameOf (f : RequestFrame) (c : Instr) : Prop :=
  (∀ s, exec c s = .next (s.powered fun s => s.takeFrame f.kind f.tag f.payload)) ∧ f.payload.length ≤ longestPayload

theorem isFrameOf_decided {c : Instr} {kind tag : Byte} {payload : List Byte} {decision : Desk → Decision}
    (hexec : ∀ s, exec c s = .next (s.powered fun s => s.deskRequest tag decision)) (hkind : isRequestKind kind = true)
    (hstatus : kind ≠ 0x08) (hreset : kind ≠ 0x12) (hlen : payload.length ≤ longestPayload)
    (h : ∀ d : Desk, d.request kind.toNat payload = decision d) : IsFrameOf ⟨kind, tag, payload⟩ c := by
  refine ⟨fun s => ?_, hlen⟩
  rw [hexec]
  exact congrArg (fun f => Host.Outcome.next (s.powered f))
    (funext fun s => (State.takeFrame_decided hkind hstatus hreset h s).symm)

theorem isFrameOf_tableWrite {c : Instr} {tag table op : Byte} {entry : List Byte} {decision : Desk → Decision}
    (hexec : ∀ s, exec c s = .next (s.powered fun s => s.deskRequest tag decision)) (hlen : entry.length ≤ 100)
    (h : ∀ d : Desk, d.tableWrite table op entry = decision d) : IsFrameOf ⟨0x01, tag, table :: op :: entry⟩ c := by
  refine isFrameOf_decided hexec rfl (by decide) (by decide) ?_ fun d => (d.tableWrite_request table op entry).trans (h d)
  simp only [List.length_cons, longestPayload]
  omega

theorem isFrameOf_tableRead {c : Instr} {tag table mode : Byte} {key : List Byte} {decision : Desk → Decision}
    (hexec : ∀ s, exec c s = .next (s.powered fun s => s.deskRequest tag decision)) (hlen : key.length ≤ 100)
    (h : ∀ d : Desk, d.tableRead table mode key = decision d) : IsFrameOf ⟨0x02, tag, table :: mode :: key⟩ c := by
  refine isFrameOf_decided hexec rfl (by decide) (by decide) ?_ fun d => (d.tableRead_request table mode key).trans (h d)
  simp only [List.length_cons, longestPayload]
  omega

theorem isFrameOf_settingWrite {c : Instr} {tag setting index : Byte} {value : Word}
    (hexec : ∀ s, exec c s = .next (s.powered fun s => s.deskRequest tag fun d => d.writeSetting setting index value)) :
    IsFrameOf ⟨0x03, tag, setting :: index :: bytesOf 4 value.toNat⟩ c :=
  isFrameOf_decided hexec rfl (by decide) (by decide) (by simp [longestPayload]) fun d => d.settingWrite_request setting index value

theorem requestFrame_isFrameOf {c : Instr} {index : Byte} {rest : List Byte} {f : RequestFrame} (hrest : rest.length = 7)
    (hf : requestFrame index rest c = some f) : IsFrameOf f c := by
  cases c
  all_goals cases hf
  case statusRead | reset => exact ⟨fun s => rfl, Nat.zero_le _⟩
  case configWriteReadsRequired | configWritePairingWindow | configWriteSuppressionWindow | configWriteTimeSource
      | configWriteStepLimit | configWriteMarkAgeLimit | configWriteLookupTimeout | configWriteStationEnabled
      | configWriteIdleTimeout | configWriteSlipPrinting | configWritePadPulse | configWriteClosingGrace
      | configWriteReturnsWhenClosed | configWriteMinimumRemaining | configWritePrecedenceList | configWriteLevelMasks
      | configWriteDisplayTime | configWritePrinterAssignment | configWriteFailover | configWriteLineTimeout
      | configWriteReturnReserve | configWriteHighWaterPercentage | configWriteUploadMinute | configWriteTakenTimeout
      | configWriteLinkTimeout | configWriteNoticeRouting =>
    exact isFrameOf_settingWrite fun s => rfl
  case tableWritePrefixPut | tableWriteWeeklyHoursPut | tableWriteExceptionPut | tableWriteBorrowerPut | tableWriteBlockPut
      | tableWriteItemPut | tableWriteLoanRulePut | tableWriteCategoryPut =>
    exact isFrameOf_tableWrite (fun s => rfl) (by simp) fun d => by simp [Desk.tableWrite, Desk.sized]
  case tableWritePrefixDelete | tableWriteWeeklyHoursDelete | tableWriteExceptionDelete | tableWriteBorrowerDelete
      | tableWriteBlockDelete | tableWriteItemDelete | tableWriteLoanRuleDelete | tableWriteCategoryDelete =>
    exact isFrameOf_tableWrite (fun s => rfl) (by simp) fun d => by
      simp [Desk.tableWrite, Desk.sized, byteAt, halfAt, codeAt, codeBytes]
  case tableWritePrefixClearAll | tableWriteWeeklyHoursClearAll | tableWriteExceptionClearAll | tableWriteBorrowerClearAll
      | tableWriteBlockClearAll | tableWriteItemClearAll | tableWriteLoanRuleClearAll | tableWriteCategoryClearAll =>
    exact isFrameOf_tableWrite (fun s => rfl) (by simp) fun d => rfl
  case tableReadPrefixKey | tableReadPrefixNext | tableReadWeeklyHoursKey | tableReadWeeklyHoursNext | tableReadExceptionKey
      | tableReadExceptionNext | tableReadBorrowerKey | tableReadBorrowerNext | tableReadBlockKey | tableReadBlockNext
      | tableReadItemKey | tableReadItemNext | tableReadLoanRuleKey | tableReadLoanRuleNext | tableReadCategoryKey
      | tableReadCategoryNext =>
    exact isFrameOf_tableRead (fun s => rfl) (by simp) fun d => by
      simp [Desk.tableRead, Desk.sized, byteAt, halfAt, codeAt, codeBytes]
  case alarmRead | uploadStart | uploadResume | uploadAbort | deskModeOpen | deskModeClose =>
    exact isFrameOf_decided (fun s => rfl) rfl (by decide) (by decide) (by decide) fun d => rfl
  case timeMark | clockSet | stationStatus | alarmClear | promptClear | lookupReplyFound | lookupReplyNotFound | uploadTaken
      | configRead =>
    refine isFrameOf_decided (fun s => rfl) rfl (by decide) (by decide) (by simp [timePayload, longestPayload, hrest]) fun d => ?_
    simp [Desk.request, Desk.sized, Desk.lookupReply, timePayload, byteAt, halfAt, wordAt, codeAt, codeBytes, hrest]

/-! ## Every payload that fits its kind is a row's (R198) -/

/-- The frame is that of a row. -/
def IsRowFrame (kind tag : Byte) (payload : List Byte) : Prop :=
  ∃ c index rest, rest.length = 7 ∧ requestFrame index rest c = some ⟨kind, tag, payload⟩

/-- A row whose frame asks for no byte beyond its operands. -/
theorem isRowFrame_of_row {kind tag : Byte} {payload : List Byte} (c : Instr) (index : Byte)
    (h : requestFrame index (List.replicate 7 0) c = some ⟨kind, tag, payload⟩) : IsRowFrame kind tag payload :=
  ⟨c, index, _, List.length_replicate, h⟩

theorem eq_singleton_byteAt {bs : List Byte} (h : bs.length = 1) : [byteAt bs 0] = bs := by
  have hend : [] = bs.drop 1 := (List.drop_eq_nil_of_le h.le).symm
  simp (disch := omega) only [hend, byteAt_cons_drop, List.drop_zero]

theorem eq_pair_byteAt {bs : List Byte} (h : bs.length = 2) : [byteAt bs 0, byteAt bs 1] = bs := by
  have hend : [] = bs.drop 2 := by simp [h]
  simp (disch := omega) only [hend, byteAt_cons_drop, List.drop_zero]

theorem eq_bytesOf_halfAt {bs : List Byte} (h : bs.length = 2) : bytesOf 2 (halfAt bs 0).toNat = bs := by
  simpa using halfAt_last (offset := 0) h

theorem eq_codeBytes_codeAt {bs : List Byte} (h : bs.length = 8) : codeBytes (codeAt bs 0) = bs := by
  have hend : bs.drop 8 = [] := by simp [h]
  simpa [hend] using codeAt_append_drop (bs := bs) (offset := 0) h.ge

theorem isRowFrame_tableWrite {table op tag : Byte} {entry : List Byte} (h : payloadFits 0x01 (table :: op :: entry) = true) :
    IsRowFrame 0x01 tag (table :: op :: entry) := by
  obtain ⟨x, hx, hfits⟩ := List.any_eq_true.1 h
  simp only [Bool.and_eq_true, Bool.or_eq_true, beq_iff_eq] at hfits
  obtain ⟨htable, hop⟩ := hfits
  have htable : table = BitVec.ofNat 8 x.1 := by rw [htable]; simp
  simp only [tableLengths, List.mem_cons, List.not_mem_nil, or_false] at hx
  rcases hx with rfl | rfl | rfl | rfl | rfl | rfl | rfl | rfl <;> subst htable <;>
    obtain (⟨rfl, hlen⟩ | ⟨rfl, hlen⟩) | ⟨rfl, hlen⟩ := hop
  · exact isRowFrame_of_row (.tableWritePrefixPut tag (.ofBytes entry)) 0
      (congrArg (tableWriteFrame tag 1 1) (PrefixWire.bytes_ofBytes hlen))
  · exact isRowFrame_of_row (.tableWritePrefixDelete tag (byteAt entry 0)) 0
      (congrArg (tableWriteFrame tag 1 2) (eq_singleton_byteAt hlen))
  · exact isRowFrame_of_row (.tableWritePrefixClearAll tag) 0
      (congrArg (tableWriteFrame tag 1 3) (List.eq_nil_of_length_eq_zero hlen).symm)
  · exact isRowFrame_of_row (.tableWriteWeeklyHoursPut tag (.ofBytes entry)) 0
      (congrArg (tableWriteFrame tag 2 1) (WeeklyWire.bytes_ofBytes hlen))
  · exact isRowFrame_of_row (.tableWriteWeeklyHoursDelete tag (byteAt entry 0)) 0
      (congrArg (tableWriteFrame tag 2 2) (eq_singleton_byteAt hlen))
  · exact isRowFrame_of_row (.tableWriteWeeklyHoursClearAll tag) 0
      (congrArg (tableWriteFrame tag 2 3) (List.eq_nil_of_length_eq_zero hlen).symm)
  · exact isRowFrame_of_row (.tableWriteExceptionPut tag (.ofBytes entry)) 0
      (congrArg (tableWriteFrame tag 3 1) (ExceptionWire.bytes_ofBytes hlen))
  · exact isRowFrame_of_row (.tableWriteExceptionDelete tag (halfAt entry 0)) 0
      (congrArg (tableWriteFrame tag 3 2) (eq_bytesOf_halfAt hlen))
  · exact isRowFrame_of_row (.tableWriteExceptionClearAll tag) 0
      (congrArg (tableWriteFrame tag 3 3) (List.eq_nil_of_length_eq_zero hlen).symm)
  · exact isRowFrame_of_row (.tableWriteBorrowerPut tag (.ofBytes entry)) 0
      (congrArg (tableWriteFrame tag 4 1) (BorrowerWire.bytes_ofBytes hlen))
  · exact isRowFrame_of_row (.tableWriteBorrowerDelete tag (codeAt entry 0)) 0
      (congrArg (tableWriteFrame tag 4 2) (eq_codeBytes_codeAt hlen))
  · exact isRowFrame_of_row (.tableWriteBorrowerClearAll tag) 0
      (congrArg (tableWriteFrame tag 4 3) (List.eq_nil_of_length_eq_zero hlen).symm)
  · exact isRowFrame_of_row (.tableWriteBlockPut tag (.ofBytes entry)) 0
      (congrArg (tableWriteFrame tag 5 1) (BlockWire.bytes_ofBytes hlen))
  · exact isRowFrame_of_row (.tableWriteBlockDelete tag (.ofBytes entry)) 0
      (congrArg (tableWriteFrame tag 5 2) (BlockKeyWire.bytes_ofBytes hlen))
  · exact isRowFrame_of_row (.tableWriteBlockClearAll tag) 0
      (congrArg (tableWriteFrame tag 5 3) (List.eq_nil_of_length_eq_zero hlen).symm)
  · exact isRowFrame_of_row (.tableWriteItemPut tag (.ofBytes entry)) 0
      (congrArg (tableWriteFrame tag 6 1) (ItemWire.bytes_ofBytes hlen))
  · exact isRowFrame_of_row (.tableWriteItemDelete tag (codeAt entry 0)) 0
      (congrArg (tableWriteFrame tag 6 2) (eq_codeBytes_codeAt hlen))
  · exact isRowFrame_of_row (.tableWriteItemClearAll tag) 0
      (congrArg (tableWriteFrame tag 6 3) (List.eq_nil_of_length_eq_zero hlen).symm)
  · exact isRowFrame_of_row (.tableWriteLoanRulePut tag (.ofBytes entry)) (byteAt entry 13)
      (congrArg (tableWriteFrame tag 7 1) (RuleWire.fieldBytes_ofBytes hlen))
  · exact isRowFrame_of_row (.tableWriteLoanRuleDelete tag (byteAt entry 0) (byteAt entry 1)) 0
      (congrArg (tableWriteFrame tag 7 2) (eq_pair_byteAt hlen))
  · exact isRowFrame_of_row (.tableWriteLoanRuleClearAll tag) 0
      (congrArg (tableWriteFrame tag 7 3) (List.eq_nil_of_length_eq_zero hlen).symm)
  · exact isRowFrame_of_row (.tableWriteCategoryPut tag (.ofBytes entry)) 0
      (congrArg (tableWriteFrame tag 8 1) (CategoryWire.bytes_ofBytes hlen))
  · exact isRowFrame_of_row (.tableWriteCategoryDelete tag (byteAt entry 0)) 0
      (congrArg (tableWriteFrame tag 8 2) (eq_singleton_byteAt hlen))
  · exact isRowFrame_of_row (.tableWriteCategoryClearAll tag) 0
      (congrArg (tableWriteFrame tag 8 3) (List.eq_nil_of_length_eq_zero hlen).symm)

theorem isRowFrame_tableRead {table mode tag : Byte} {key : List Byte} (h : payloadFits 0x02 (table :: mode :: key) = true) :
    IsRowFrame 0x02 tag (table :: mode :: key) := by
  obtain ⟨x, hx, hfits⟩ := List.any_eq_true.1 h
  simp only [Bool.and_eq_true, Bool.or_eq_true, beq_iff_eq] at hfits
  obtain ⟨⟨htable, hmode⟩, hlen⟩ := hfits
  have htable : table = BitVec.ofNat 8 x.1 := by rw [htable]; simp
  simp only [tableLengths, List.mem_cons, List.not_mem_nil, or_false] at hx
  rcases hx with rfl | rfl | rfl | rfl | rfl | rfl | rfl | rfl <;> subst htable <;> obtain rfl | rfl := hmode
  · exact isRowFrame_of_row (.tableReadPrefixKey tag (byteAt key 0)) 0
      (congrArg (tableReadFrame tag 1 1) (eq_singleton_byteAt hlen))
  · exact isRowFrame_of_row (.tableReadPrefixNext tag (byteAt key 0)) 0
      (congrArg (tableReadFrame tag 1 2) (eq_singleton_byteAt hlen))
  · exact isRowFrame_of_row (.tableReadWeeklyHoursKey tag (byteAt key 0)) 0
      (congrArg (tableReadFrame tag 2 1) (eq_singleton_byteAt hlen))
  · exact isRowFrame_of_row (.tableReadWeeklyHoursNext tag (byteAt key 0)) 0
      (congrArg (tableReadFrame tag 2 2) (eq_singleton_byteAt hlen))
  · exact isRowFrame_of_row (.tableReadExceptionKey tag (halfAt key 0)) 0
      (congrArg (tableReadFrame tag 3 1) (eq_bytesOf_halfAt hlen))
  · exact isRowFrame_of_row (.tableReadExceptionNext tag (halfAt key 0)) 0
      (congrArg (tableReadFrame tag 3 2) (eq_bytesOf_halfAt hlen))
  · exact isRowFrame_of_row (.tableReadBorrowerKey tag (codeAt key 0)) 0
      (congrArg (tableReadFrame tag 4 1) (eq_codeBytes_codeAt hlen))
  · exact isRowFrame_of_row (.tableReadBorrowerNext tag (codeAt key 0)) 0
      (congrArg (tableReadFrame tag 4 2) (eq_codeBytes_codeAt hlen))
  · exact isRowFrame_of_row (.tableReadBlockKey tag (.ofBytes key)) 0
      (congrArg (tableReadFrame tag 5 1) (BlockKeyWire.bytes_ofBytes hlen))
  · exact isRowFrame_of_row (.tableReadBlockNext tag (.ofBytes key)) 0
      (congrArg (tableReadFrame tag 5 2) (BlockKeyWire.bytes_ofBytes hlen))
  · exact isRowFrame_of_row (.tableReadItemKey tag (codeAt key 0)) 0
      (congrArg (tableReadFrame tag 6 1) (eq_codeBytes_codeAt hlen))
  · exact isRowFrame_of_row (.tableReadItemNext tag (codeAt key 0)) 0
      (congrArg (tableReadFrame tag 6 2) (eq_codeBytes_codeAt hlen))
  · exact isRowFrame_of_row (.tableReadLoanRuleKey tag (byteAt key 0) (byteAt key 1)) 0
      (congrArg (tableReadFrame tag 7 1) (eq_pair_byteAt hlen))
  · exact isRowFrame_of_row (.tableReadLoanRuleNext tag (byteAt key 0) (byteAt key 1)) 0
      (congrArg (tableReadFrame tag 7 2) (eq_pair_byteAt hlen))
  · exact isRowFrame_of_row (.tableReadCategoryKey tag (byteAt key 0)) 0
      (congrArg (tableReadFrame tag 8 1) (eq_singleton_byteAt hlen))
  · exact isRowFrame_of_row (.tableReadCategoryNext tag (byteAt key 0)) 0
      (congrArg (tableReadFrame tag 8 2) (eq_singleton_byteAt hlen))

/-- The row that writes the setting of a number from 1 to 26. -/
def settingRow (tag index : Byte) (value : Word) : Nat → Instr
  | 1 => .configWriteReadsRequired tag index value
  | 2 => .configWritePairingWindow tag index value
  | 3 => .configWriteSuppressionWindow tag index value
  | 4 => .configWriteTimeSource tag value
  | 5 => .configWriteStepLimit tag value
  | 6 => .configWriteMarkAgeLimit tag value
  | 7 => .configWriteLookupTimeout tag value
  | 8 => .configWriteStationEnabled tag index value
  | 9 => .configWriteIdleTimeout tag index value
  | 10 => .configWriteSlipPrinting tag index value
  | 11 => .configWritePadPulse tag index value
  | 12 => .configWriteClosingGrace tag value
  | 13 => .configWriteReturnsWhenClosed tag value
  | 14 => .configWriteMinimumRemaining tag value
  | 15 => .configWritePrecedenceList tag value
  | 16 => .configWriteLevelMasks tag index value
  | 17 => .configWriteDisplayTime tag value
  | 18 => .configWritePrinterAssignment tag index value
  | 19 => .configWriteFailover tag index value
  | 20 => .configWriteLineTimeout tag index value
  | 21 => .configWriteReturnReserve tag value
  | 22 => .configWriteHighWaterPercentage tag value
  | 23 => .configWriteUploadMinute tag value
  | 24 => .configWriteTakenTimeout tag value
  | 25 => .configWriteLinkTimeout tag value
  | _ => .configWriteNoticeRouting tag index value

theorem requestFrame_settingRow (tag index : Byte) (value : Word) (rest : List Byte) {n : Nat} (hlow : 1 ≤ n) (hhigh : n ≤ 26) :
    requestFrame index rest (settingRow tag index value n) = configFrame tag (BitVec.ofNat 8 n) index value := by
  interval_cases n <;> rfl

theorem isRowFrame_settingWrite {setting tag : Byte} {payload : List Byte} (h : payloadFits 0x03 (setting :: payload) = true) :
    IsRowFrame 0x03 tag (setting :: payload) := by
  change (decide (1 ≤ setting.toNat) && decide (setting.toNat ≤ 26) && payload.length == 5) = true at h
  simp only [Bool.and_eq_true, decide_eq_true_iff, beq_iff_eq] at h
  obtain ⟨⟨hlow, hhigh⟩, hlen⟩ := h
  have hpayload : byteAt payload 0 :: bytesOf 4 (wordAt payload 1).toNat = payload := by
    simp (disch := omega) only [wordAt_last, byteAt_cons_drop, List.drop_zero]
  refine isRowFrame_of_row (settingRow tag (byteAt payload 0) (wordAt payload 1) setting.toNat) (byteAt payload 0) ?_
  rw [requestFrame_settingRow _ _ _ _ hlow hhigh, BitVec.ofNat_toNat, BitVec.setWidth_eq, configFrame, hpayload]

theorem timePayload_of_length {payload : List Byte} (h : payload.length = 5) :
    timePayload (halfAt payload 0) (halfAt payload 2) (byteAt payload 4) = payload := by
  have hend : [] = payload.drop 5 := (List.drop_eq_nil_of_le h.le).symm
  simp only [timePayload, List.append_assoc]
  simp (disch := omega) only [hend, byteAt_cons_drop, halfAt_append_drop, List.drop_zero]

theorem takenPayload_of_length {payload : List Byte} (h : payload.length = 5) :
    bytesOf 4 (wordAt payload 0).toNat ++ [byteAt payload 4] = payload := by
  have hend : [] = payload.drop 5 := (List.drop_eq_nil_of_le h.le).symm
  simp (disch := omega) only [hend, byteAt_cons_drop, wordAt_append_drop, List.drop_zero]

theorem byteAt_eq_of_getElem? {bs : List Byte} {i : Nat} {b : Byte} (h : bs[i]? = some b) : byteAt bs i = b := by
  obtain ⟨hlt, rfl⟩ := List.getElem?_eq_some_iff.1 h
  have hcons := byteAt_cons_drop (bs := bs) (offset := i) hlt
  rw [List.drop_eq_getElem_cons hlt] at hcons
  exact (List.cons.inj hcons).1

/-- The 16 bytes of a LOOKUP_REPLY, by its answer byte (log 27). -/
theorem isRowFrame_lookupReply {tag : Byte} {payload : List Byte} (hlen : payload.length = 16)
    (hanswer : payload[8]? = some 1 ∨ payload[8]? = some 2) : IsRowFrame 0x0d tag payload := by
  rcases hanswer with hanswer | hanswer
  · have hbyte : (1 : Byte) = byteAt payload 8 := (byteAt_eq_of_getElem? hanswer).symm
    refine isRowFrame_of_row (.lookupReplyFound tag (codeAt payload 0) (byteAt payload 9) (byteAt payload 10) (byteAt payload 11)
      (halfAt payload 12) (halfAt payload 14)) 0 (congrArg (fun p => some (RequestFrame.mk 0x0d tag p)) ?_)
    simp only [hbyte, List.append_assoc, List.cons_append, List.nil_append]
    simp (disch := omega) only [halfAt_last, byteAt_cons_drop, halfAt_append_drop, codeAt_append_drop, List.drop_zero]
  · have hbyte : (2 : Byte) = byteAt payload 8 := (byteAt_eq_of_getElem? hanswer).symm
    refine ⟨.lookupReplyNotFound tag (codeAt payload 0), 0, payload.drop 9, by simp [hlen],
      congrArg (fun p => some (RequestFrame.mk 0x0d tag p)) ?_⟩
    simp only [hbyte, List.append_assoc, List.cons_append, List.nil_append]
    simp (disch := omega) only [byteAt_cons_drop, codeAt_append_drop, List.drop_zero]

theorem isRowFrame_of_fits {kind tag : Byte} {payload : List Byte} (h : payloadFits kind payload = true) :
    IsRowFrame kind tag payload := by
  have hbyte {n : Nat} (hn : kind.toNat = n) : kind = BitVec.ofNat 8 n := by simp [← hn]
  have hrow (c : Instr) (hframe : requestFrame 0 (List.replicate 7 0) c = some ⟨kind, tag, payload⟩) :
      IsRowFrame kind tag payload := isRowFrame_of_row c 0 hframe
  unfold payloadFits at h
  split at h
  next hkind => exact hbyte hkind ▸ isRowFrame_tableWrite h
  next hkind => exact hbyte hkind ▸ isRowFrame_tableRead h
  next hkind => exact hbyte hkind ▸ isRowFrame_settingWrite h
  case h_19 => cases h
  all_goals
    rename_i payload _ _ hkind
    obtain rfl := hbyte hkind
    simp only [beq_iff_eq, Bool.or_eq_true, Bool.and_eq_true] at h
  case h_4 => exact hrow (.configRead tag (byteAt payload 0) (byteAt payload 1)) (congrArg (fun p => some (RequestFrame.mk 0x04 tag p)) (eq_pair_byteAt h))
  case h_5 =>
    exact hrow (.timeMark tag (halfAt payload 0) (halfAt payload 2) (byteAt payload 4))
      (congrArg (fun p => some (RequestFrame.mk 0x05 tag p)) (timePayload_of_length h))
  case h_6 =>
    exact hrow (.clockSet tag (halfAt payload 0) (halfAt payload 2) (byteAt payload 4))
      (congrArg (fun p => some (RequestFrame.mk 0x06 tag p)) (timePayload_of_length h))
  case h_7 =>
    obtain rfl | rfl := h
    · exact hrow (.deskModeOpen tag) rfl
    · exact hrow (.deskModeClose tag) rfl
  case h_8 => exact hrow (.statusRead tag) (h ▸ rfl)
  case h_9 => exact hrow (.stationStatus tag (byteAt payload 0)) (congrArg (fun p => some (RequestFrame.mk 0x09 tag p)) (eq_singleton_byteAt h))
  case h_10 => exact hrow (.alarmRead tag) (h ▸ rfl)
  case h_11 => exact hrow (.alarmClear tag (byteAt payload 0) (byteAt payload 1)) (congrArg (fun p => some (RequestFrame.mk 0x0b tag p)) (eq_pair_byteAt h))
  case h_12 => exact hrow (.promptClear tag (byteAt payload 0) (byteAt payload 1)) (congrArg (fun p => some (RequestFrame.mk 0x0c tag p)) (eq_pair_byteAt h))
  case h_13 => exact isRowFrame_lookupReply h.1 h.2
  case h_14 => exact hrow (.uploadStart tag) (h ▸ rfl)
  case h_15 =>
    exact hrow (.uploadTaken tag (wordAt payload 0) (byteAt payload 4))
      (congrArg (fun p => some (RequestFrame.mk 0x0f tag p)) (takenPayload_of_length h))
  case h_16 => exact hrow (.uploadResume tag) (h ▸ rfl)
  case h_17 => exact hrow (.uploadAbort tag) (h ▸ rfl)
  case h_18 => exact hrow (.reset tag) (h ▸ rfl)

/-- The frame of a row is one of those whose payload R198 gives its kind. -/
theorem fits_of_requestFrame {c : Instr} {index : Byte} {rest : List Byte} {f : RequestFrame} (hrest : rest.length = 7)
    (hf : requestFrame index rest c = some f) : payloadFits f.kind f.payload = true := by
  cases c
  all_goals cases hf
  all_goals simp [payloadFits, tableLengths, timePayload, codeBytes_length, hrest]

end Machine

end Sys2Proof

namespace Sys2Proof.Proofs
open Sys2Proof.Machine

/-- Settles O36: a row's operands are read back from its frame as they were laid out, and a payload that fits its kind is laid out
again from the operands that are read in it. -/
theorem frameIsItsRow : Obligations.FrameIsItsRow := by
  unfold Obligations.FrameIsItsRow
  refine ⟨fun c index rest f s hrest hf => ?taken, fun kind tag payload => ⟨isRowFrame_of_fits, ?fits⟩⟩
  case taken =>
    obtain ⟨hexec, hlen⟩ := requestFrame_isFrameOf hrest hf
    exact ⟨hexec s, hlen⟩
  case fits =>
    rintro ⟨c, index, rest, hrest, hf⟩
    exact fits_of_requestFrame hrest hf

end Sys2Proof.Proofs
end

section
/-! PROOF. The requests: the writes of settings and tables, and every request that a frame carries. -/

namespace Sys2Proof.Machine

/-! ## Decisions that leave the desk as it is -/

@[simp] theorem Desk.answer_desk (d : Desk) (x : Status) : (d.answer x).desk = d := rfl
@[simp] theorem Desk.answerData_desk (d : Desk) (bs : List Byte) : (d.answerData bs).desk = d := rfl

@[simp] theorem Desk.answerRead_desk (d : Desk) (entry : Option (List Byte)) : (d.answerRead entry).desk = d := by
  cases entry <;> rfl

theorem Desk.sized_cases (d : Desk) (n : Nat) (bs : List Byte) (x : Decision) :
    d.sized n bs x = x ∨ d.sized n bs x = d.answer .badArg := ite_eq_or_eq ..

@[simp] theorem Desk.readPrefix_desk (d : Desk) (slot : Byte) : (d.readPrefix slot).desk = d := by
  unfold readPrefix
  split <;> simp

@[simp] theorem Desk.nextPrefix_desk (d : Desk) (slot : Byte) : (d.nextPrefix slot).desk = d := by
  unfold nextPrefix
  split <;> simp

@[simp] theorem Desk.readWeekly_desk (d : Desk) (weekday : Byte) : (d.readWeekly weekday).desk = d := by
  unfold readWeekly
  split <;> simp

@[simp] theorem Desk.nextWeekly_desk (d : Desk) (weekday : Byte) : (d.nextWeekly weekday).desk = d := by
  unfold nextWeekly
  split <;> simp

@[simp] theorem Desk.readException_desk (d : Desk) (day : Half) : (d.readException day).desk = d := Desk.answerRead_desk ..
@[simp] theorem Desk.nextException_desk (d : Desk) (day : Half) : (d.nextException day).desk = d := Desk.answerRead_desk ..

@[simp] theorem Desk.readBorrower_desk (d : Desk) (card : CodeField) : (d.readBorrower card).desk = d := by
  unfold readBorrower
  split <;> simp

@[simp] theorem Desk.nextBorrower_desk (d : Desk) (card : CodeField) : (d.nextBorrower card).desk = d := by
  unfold nextBorrower
  split <;> simp

@[simp] theorem Desk.readBlock_desk (d : Desk) (w : BlockKeyWire) : (d.readBlock w).desk = d := by
  unfold readBlock
  split <;> simp

@[simp] theorem Desk.nextBlock_desk (d : Desk) (w : BlockKeyWire) : (d.nextBlock w).desk = d := by
  unfold nextBlock
  split <;> simp

@[simp] theorem Desk.readItem_desk (d : Desk) (code : CodeField) : (d.readItem code).desk = d := by
  unfold readItem
  split <;> simp

@[simp] theorem Desk.nextItem_desk (d : Desk) (code : CodeField) : (d.nextItem code).desk = d := by
  unfold nextItem
  split <;> simp

@[simp] theorem Desk.readRule_desk (d : Desk) (category itemClass : Byte) : (d.readRule category itemClass).desk = d := by
  unfold readRule
  split <;> simp

@[simp] theorem Desk.nextRule_desk (d : Desk) (category itemClass : Byte) : (d.nextRule category itemClass).desk = d := by
  unfold nextRule
  split <;> simp

@[simp] theorem Desk.readCategory_desk (d : Desk) (category : Byte) : (d.readCategory category).desk = d := by
  unfold readCategory
  split <;> simp

@[simp] theorem Desk.nextCategory_desk (d : Desk) (category : Byte) : (d.nextCategory category).desk = d := by
  unfold nextCategory
  split <;> simp

@[simp] theorem Desk.readSetting_desk (d : Desk) (setting index : Byte) : (d.readSetting setting index).desk = d := by
  unfold readSetting
  split <;> simp

theorem Desk.tableRead_desk (d : Desk) (table mode : Byte) (bs : List Byte) : (d.tableRead table mode bs).desk = d := by
  have hsized (n : Nat) {x : Decision} (hx : x.desk = d) : (d.sized n bs x).desk = d := by
    obtain h | h := d.sized_cases n bs x <;> simp [h, hx]
  unfold tableRead
  split
  all_goals simp [hsized]

/-! ## The precedence list (R123) -/

theorem mapM_eq_some_iff_forall₂ {α β : Type} {f : α → Option β} {l : List α} {r : List β} :
    l.mapM f = some r ↔ List.Forall₂ (fun a b => f a = some b) l r := by
  induction l generalizing r with
  | nil => simp [eq_comm]
  | cons a l ih =>
    simp only [List.mapM_cons, Option.bind_eq_bind, Option.bind_eq_some_iff, ih, Option.pure_def, Option.some.injEq]
    constructor
    · rintro ⟨b, hb, s, hs, rfl⟩
      exact .cons hb hs
    · rintro (_ | ⟨hb, hs⟩)
      exact ⟨_, hb, _, hs, rfl⟩

/-- Four levels of which none stands twice are the four levels. -/
theorem isPrecedence_of_precedenceOf {v : Word} {ls : List Level} (h : precedenceOf v = some ls) : IsPrecedence ls := by
  obtain ⟨hmap, hnodup⟩ := Option.filter_eq_some_iff.1 h
  have hlen : ls.length = 4 := by simpa using (mapM_eq_some_iff_forall₂.1 hmap).length_eq.symm
  have hsub : ls ⊆ [.urgent, .refusal, .action, .info] := fun l _ => by cases l <;> decide
  exact ((of_decide_eq_true hnodup).subperm hsub).perm_of_length_le hlen.ge

/-! ## The writes of settings (R187) -/

namespace Desk.KeptByEngine
variable {P : Desk → Prop} (hP : Desk.KeptByEngine P) {d : Desk}
include hP

omit hP in
theorem writeRange {low high : Nat} (hle : low ≤ high) {v : Word} {store : Desk → Nat → Desk}
    (hstore : ∀ n, low ≤ n → n ≤ high → P (store d n)) : P (d.writeRange low high v store).desk := by
  have hn := hstore (max low (min v.toNat high)) (le_max_left _ _) (max_le hle (min_le_right _ _))
  simp only [Desk.writeRange]
  split <;> exact hn

omit hP in
theorem writeNamed {α : Type} {value : Option α} {store : Desk → α → Desk} (hstore : ∀ a, value = some a → P (store d a)) (h : P d) :
    P (d.writeNamed value store).desk := by
  unfold Desk.writeNamed
  split
  · exact hstore _ rfl
  · exact h

omit hP in
theorem atStation {index : Byte} {f : StationId → Decision} (hf : ∀ st, P (f st).desk) (h : P d) : P (d.atStation index f).desk := by
  unfold Desk.atStation
  split
  · exact hf _
  · exact h

theorem dropCandidate (st : StationId) (h : P d) : P (d.onScan st ScanStation.dropCandidate) := hP.scan (fun hs => hs.dropCandidate) h

theorem setTimeSource (x : TimeSource) (h : P d) : P (d.setTimeSource x) := by
  simp only [Desk.setTimeSource]
  split
  · exact h
  · have hsettings : P { d with settings := { d.settings with timeSource := x } } := hP.settings rfl (fun hr => { hr with }) h
    refine hP.reportSync (hP.clock (d := { d with settings := { d.settings with timeSource := x } })
      (fun hr => { hr with pendingMark := fun p hp => ?_ }) hsettings)
    cases x with
    | marks => exact hr.pendingMark p hp
    | localTime => cases hp

theorem writeSetting (setting index : Byte) (v : Word) (h : P d) : P (d.writeSetting setting index v).desk := by
  unfold Desk.writeSetting
  split
  case h_1 =>
    exact atStation (fun st => writeRange (by decide) fun n hlow hhigh =>
      hP.dropCandidate _ (hP.stationSettings rfl (fun hr => { hr with readsRequired := ⟨hlow, hhigh⟩ }) h)) h
  case h_2 =>
    exact atStation (fun st => writeRange (by decide) fun n hlow hhigh =>
      hP.dropCandidate _ (hP.stationSettings rfl (fun hr => { hr with pairingWindow := ⟨hlow, hhigh⟩ }) h)) h
  case h_3 =>
    exact atStation (fun st => writeRange (by decide) fun n _ hhigh =>
      hP.stationSettings rfl (fun hr => { hr with suppressionWindow := hhigh }) h) h
  case h_4 => exact writeNamed (fun x _ => hP.setTimeSource x h) h
  case h_5 => exact writeRange (by decide) fun n _ hhigh => hP.settings rfl (fun hr => { hr with stepLimit := hhigh }) h
  case h_6 =>
    exact writeRange (by decide) fun n hlow hhigh =>
      hP.reportSync (hP.settings rfl (fun hr => { hr with markAgeLimit := ⟨hlow, hhigh⟩ }) h)
  case h_7 =>
    exact writeRange (by decide) fun n hlow hhigh => hP.settings rfl (fun hr => { hr with lookupTimeout := ⟨hlow, hhigh⟩ }) h
  case h_8 => exact atStation (fun st => writeNamed (fun on _ => hP.setEnabled st on h) h) h
  case h_9 =>
    exact atStation (fun st => writeRange (by decide) fun n hlow hhigh =>
      hP.stationSettings rfl (fun hr => { hr with idleTimeout := ⟨hlow, hhigh⟩ }) h) h
  case h_10 =>
    exact atStation (fun st => writeNamed (fun on _ => hP.stationSettings rfl (fun hr => { hr with }) h) h) h
  case h_11 =>
    exact atStation (fun st => writeRange (by decide) fun n hlow hhigh =>
      hP.stationSettings rfl (fun hr => { hr with padPulse := ⟨hlow, hhigh⟩ }) h) h
  case h_12 => exact writeRange (by decide) fun n _ hhigh => hP.settings rfl (fun hr => { hr with closingGrace := hhigh }) h
  case h_13 => exact writeNamed (fun on _ => hP.settings rfl (fun hr => { hr with }) h) h
  case h_14 => exact writeRange (by decide) fun n _ hhigh => hP.settings rfl (fun hr => { hr with minimumRemaining := hhigh }) h
  case h_15 => exact writeNamed (fun ls hls => hP.precedence (isPrecedence_of_precedenceOf hls) h) h
  case h_16 => exact atStation (fun st => writeNamed (fun m _ => hP.masks st m h) h) h
  case h_17 =>
    exact writeRange (by decide) fun n hlow hhigh => hP.settings rfl (fun hr => { hr with displayTime := ⟨hlow, hhigh⟩ }) h
  case h_18 => exact atStation (fun st => writeNamed (fun p _ => hP.assignPrinter st p h) h) h
  case h_19 => exact atStation (fun st => writeNamed (fun f _ => hP.setFailover st f h) h) h
  case h_20 =>
    unfold Desk.writeLineTimeout
    split
    · next p _ =>
      refine writeRange (by decide) fun n hlow hhigh => hP.settings rfl (fun hr => { hr with lineTimeout := fun o => ?_ }) h
      by_cases ho : o = p
      · subst ho
        rw [PerPrinter.get_set_same]
        exact ⟨hlow, hhigh⟩
      · rw [PerPrinter.get_set_other _ _ ho]
        exact hr.lineTimeout o
    · exact h
  case h_21 =>
    exact writeRange (by decide) fun n _ hhigh =>
      hP.evaluateJournal (hP.settings rfl (fun hr => { hr with returnReserve := hhigh }) h)
  case h_22 =>
    exact writeRange (by decide) fun n hlow hhigh =>
      hP.evaluateJournal (hP.settings rfl (fun hr => { hr with highWater := ⟨hlow, hhigh⟩ }) h)
  case h_23 =>
    have hminute {m : Option Nat} (hm : ∀ n, m = some n → n ≤ 1439) : P (d.setUploadMinute m) :=
      hP.settings rfl (fun hr => { hr with uploadMinute := hm }) h
    unfold Desk.writeUploadMinute
    split
    · exact hminute (by rintro _ ⟨⟩)
    · exact writeRange (by decide) fun n _ hhigh => hminute (by rintro _ ⟨⟩; exact hhigh)
  case h_24 =>
    exact writeRange (by decide) fun n hlow hhigh => hP.settings rfl (fun hr => { hr with takenTimeout := ⟨hlow, hhigh⟩ }) h
  case h_25 =>
    exact writeRange (by decide) fun n hlow hhigh => hP.settings rfl (fun hr => { hr with linkTimeout := ⟨hlow, hhigh⟩ }) h
  case h_26 =>
    unfold Desk.writeNoticeRouting
    split
    · next k _ =>
      refine writeNamed (fun on _ => ?_) h
      have hsettings : P { d with settings := { d.settings with routing := d.settings.routing.set k on } } :=
        hP.settings rfl (fun hr => { hr with }) h
      refine hP.notices (fun hs => ?_) hsettings
      split
      · exact hs
      · exact Table.sorted_filter _ _ hs
    · exact h
  case h_27 => exact h

/-! ## The requests of the tables (R198) -/

omit hP in
theorem sized {n : Nat} {bs : List Byte} {x : Decision} (hx : P x.desk) (h : P d) : P (d.sized n bs x).desk := by
  obtain hsized | hsized := d.sized_cases n bs x <;> rw [hsized]
  · exact hx
  · exact h

theorem putPrefix (w : PrefixWire) (h : P d) : P (d.putPrefix w).desk := by
  unfold Desk.putPrefix
  split
  · split
    · exact h
    · exact hP.tables (fun hs => { hs with prefixes := Table.sorted_put _ _ hs.prefixes }) id h
  · exact h

theorem deletePrefix (slot : Byte) (h : P d) : P (d.deletePrefix slot).desk := by
  unfold Desk.deletePrefix
  split
  · exact h
  · split
    · exact hP.tables (fun hs => { hs with prefixes := Table.sorted_erase _ _ hs.prefixes }) id h
    · exact h

theorem putWeekly (w : WeeklyWire) (h : P d) : P (d.putWeekly w).desk := by
  unfold Desk.putWeekly
  split
  · split
    · exact hP.tables (fun hs => { hs with weekly := Table.sorted_put _ _ hs.weekly }) id h
    · exact hP.tables (fun hs => { hs with weekly := Table.sorted_erase _ _ hs.weekly }) id h
    · exact h
  · exact h

theorem deleteWeekly (weekday : Byte) (h : P d) : P (d.deleteWeekly weekday).desk := by
  unfold Desk.deleteWeekly
  split
  · exact hP.tables (fun hs => { hs with weekly := Table.sorted_erase _ _ hs.weekly }) id h
  · exact h

theorem putException (w : ExceptionWire) (h : P d) : P (d.putException w).desk := by
  unfold Desk.putException
  split
  · split
    · exact hP.tables (fun hs => { hs with exceptions := Table.sorted_put _ _ hs.exceptions }) id h
    · exact h
  · exact h

theorem deleteException (day : Half) (h : P d) : P (d.deleteException day).desk := by
  unfold Desk.deleteException
  split
  · exact hP.tables (fun hs => { hs with exceptions := Table.sorted_erase _ _ hs.exceptions }) id h
  · exact h

theorem putBorrowerEntry (w : BorrowerWire) (h : P d) : P (d.putBorrowerEntry w).desk := by
  unfold Desk.putBorrowerEntry
  split
  · next b hb =>
    have hranged : b.Ranged := by
      unfold BorrowerWire.entry at hb
      split at hb
      · exact borrowerOf_ranged hb
      · cases hb
    split
    · exact h
    · split
      · exact h
      · exact hP.putBorrower (fun _ => hranged) h
  · exact h

theorem deleteBorrower (card : CodeField) (h : P d) : P (d.deleteBorrower card).desk := by
  unfold Desk.deleteBorrower
  split
  · split
    · exact h
    · split
      · exact h
      · exact hP.eraseBorrower _ h
  · exact h

theorem clearBorrowers (h : P d) : P d.clearBorrowers.desk := by
  unfold Desk.clearBorrowers
  split
  · exact hP.tables (fun hs => { hs with borrowers := .nil }) (fun _ b hb => absurd hb List.not_mem_nil) h
  · exact h

theorem putBlock (w : BlockWire) (h : P d) : P (d.putBlock w).desk := by
  unfold Desk.putBlock
  split
  · split
    · exact h
    · exact hP.tellBlock _ (hP.tables (fun hs => { hs with blocks := Table.sorted_put _ _ hs.blocks }) id h)
  · exact h

theorem deleteBlock (w : BlockKeyWire) (h : P d) : P (d.deleteBlock w).desk := by
  unfold Desk.deleteBlock
  split
  · split
    · exact hP.eraseBlock _ h
    · exact h
  · exact h

theorem putItemEntry (w : ItemWire) (h : P d) : P (d.putItemEntry w).desk := by
  unfold Desk.putItemEntry
  split
  · split
    · exact h
    · split
      · exact h
      · split
        · exact hP.putItem _ h
        · exact h
  · exact h

theorem deleteItem (code : CodeField) (h : P d) : P (d.deleteItem code).desk := by
  unfold Desk.deleteItem
  split
  · split
    · exact h
    · split
      · exact h
      · exact hP.eraseItem _ h
  · exact h

theorem clearItems (h : P d) : P d.clearItems.desk := by
  unfold Desk.clearItems
  split
  · exact hP.tables (fun hs => { hs with items := .nil }) id h
  · exact h

theorem setRule (category itemClass : Nat) (rule : Option LoanRule) (h : P d) : P (d.setRule category itemClass rule) := by
  refine hP.tables (fun hs => { hs with rules := ?_ }) id h
  cases rule with
  | some r => exact Table.sorted_put _ _ hs.rules
  | none => exact Table.sorted_erase _ _ hs.rules

theorem putRule (w : RuleWire) (h : P d) : P (d.putRule w).desk := by
  unfold Desk.putRule
  split
  · exact hP.setRule _ _ _ h
  · exact h

theorem deleteRule (category itemClass : Byte) (h : P d) : P (d.deleteRule category itemClass).desk := by
  unfold Desk.deleteRule
  split
  · exact hP.setRule category.toNat itemClass.toNat none h
  · exact h

theorem setCategory (e : CategoryEntry) (h : P d) : P (d.setCategory e) := by
  refine hP.tables (fun hs => { hs with categories := ?_ }) id h
  split
  · exact Table.sorted_erase _ _ hs.categories
  · exact Table.sorted_put _ _ hs.categories

theorem putCategory (w : CategoryWire) (h : P d) : P (d.putCategory w).desk := by
  unfold Desk.putCategory
  split
  · exact hP.setCategory _ h
  · exact h

theorem deleteCategory (category : Byte) (h : P d) : P (d.deleteCategory category).desk := by
  unfold Desk.deleteCategory
  split
  · exact hP.setCategory _ h
  · exact h

theorem tableWrite (table op : Byte) (bs : List Byte) (h : P d) : P (d.tableWrite table op bs).desk := by
  unfold Desk.tableWrite
  split
  case h_1 => exact sized (hP.putPrefix _ h) h
  case h_2 => exact sized (hP.deletePrefix _ h) h
  case h_3 => exact sized (hP.tables (fun hs => { hs with prefixes := .nil }) id h) h
  case h_4 => exact sized (hP.putWeekly _ h) h
  case h_5 => exact sized (hP.deleteWeekly _ h) h
  case h_6 => exact sized (hP.tables (fun hs => { hs with weekly := .nil }) id h) h
  case h_7 => exact sized (hP.putException _ h) h
  case h_8 => exact sized (hP.deleteException _ h) h
  case h_9 => exact sized (hP.tables (fun hs => { hs with exceptions := .nil }) id h) h
  case h_10 => exact sized (hP.putBorrowerEntry _ h) h
  case h_11 => exact sized (hP.deleteBorrower _ h) h
  case h_12 => exact sized (hP.clearBorrowers h) h
  case h_13 => exact sized (hP.putBlock _ h) h
  case h_14 => exact sized (hP.deleteBlock _ h) h
  case h_15 => exact sized (hP.tables (fun hs => { hs with blocks := .nil }) id h) h
  case h_16 => exact sized (hP.putItemEntry _ h) h
  case h_17 => exact sized (hP.deleteItem _ h) h
  case h_18 => exact sized (hP.clearItems h) h
  case h_19 => exact sized (hP.putRule _ h) h
  case h_20 => exact sized (hP.deleteRule _ _ h) h
  case h_21 => exact sized (hP.tables (fun hs => { hs with rules := .nil }) id h) h
  case h_22 => exact sized (hP.putCategory _ h) h
  case h_23 => exact sized (hP.deleteCategory _ h) h
  case h_24 => exact sized (hP.tables (fun hs => { hs with categories := .nil }) id h) h
  case h_25 => exact h

/-! ## The other requests -/

theorem deskMode (mode : Byte) (h : P d) : P (d.deskMode mode).desk := by
  unfold Desk.deskMode
  split
  · exact hP.openDesk h
  · exact hP.closeDesk h
  · exact h

theorem stationStatus (station : Byte) (h : P d) : P (d.stationStatus station).desk := by
  unfold Desk.stationStatus
  split
  · rw [Desk.answerData_desk]
    exact hP.scan (fun hs => ⟨hs.wand, Nat.zero_le _, hs.queue⟩) h
  · exact h

theorem alarmClear (alarm count : Byte) (h : P d) : P (d.alarmClear alarm count).desk := by
  simp only [Desk.alarmClear]
  split
  · split
    · exact h
    · split
      · exact h
      · exact hP.alarms (fun hb => hb.set (hb _).1 (hb _).2) h
  · exact h

theorem promptClear (station source : Byte) (h : P d) : P (d.promptClear station source).1 := by
  unfold Desk.promptClear
  split
  · split
    · exact h
    · split
      · exact hP.removePrompt _ _ h
      · exact h
  · exact h

theorem request (kind : Nat) (bs : List Byte) (h : P d) : P (d.request kind bs).desk := by
  unfold Desk.request
  split
  case h_1 =>
    split
    · exact hP.tableWrite _ _ _ h
    · exact h
  case h_2 =>
    split
    · rwa [Desk.tableRead_desk]
    · exact h
  case h_3 => exact sized (hP.writeSetting _ _ _ h) h
  case h_4 => exact sized (by rwa [Desk.readSetting_desk]) h
  case h_5 => exact sized (hP.timeMark _ _ _ h) h
  case h_6 => exact sized (hP.clockSet _ _ _ h) h
  case h_7 => exact sized (hP.deskMode _ h) h
  case h_8 => exact sized (hP.stationStatus _ h) h
  case h_9 => exact sized h h
  case h_10 => exact sized (hP.alarmClear _ _ h) h
  case h_11 => exact sized (hP.promptClear _ _ h) h
  case h_12 => exact sized (hP.lookupReply _ h) h
  case h_13 => exact sized (hP.uploadStart h) h
  case h_14 => exact sized (hP.uploadTaken _ _ h) h
  case h_15 => exact sized (hP.uploadResume h) h
  case h_16 => exact sized (hP.uploadAbort h) h
  case h_17 => exact h

end Desk.KeptByEngine

end Sys2Proof.Machine
end

section
/-! PROOF. The commands: what each does to the part, and the induction over a step that every invariant uses. -/

namespace Sys2Proof.Machine

/-! ## The commands by what they do -/

/-- The operation of the desk that a command makes, where it makes one and reaches nothing else. -/
def deskEffect : Instr → Option (Desk → Desk)
  | .wandCharacter st c => some fun d => d.wandCharacter st c
  | .characterGapExpiry st => some fun d => d.onScan st ScanStation.gapExpiry
  | .pairingTimerExpiry st => some fun d => d.onScan st ScanStation.pairingExpiry
  | .suppressionTimerExpiry st => some fun d => d.onScan st ScanStation.suppressionExpiry
  | .loanMode st => some fun d => d.setMode st .loan
  | .returnMode st => some fun d => d.setMode st .ret
  | .renewMode st => some fun d => d.setMode st .renew
  | .endCard st => some fun d => d.endCard st
  | .cancelLast st => some fun d => d.cancelCard st
  | .overrideCard st => some fun d => d.overrideCard st
  | .clearCard st => some fun d => d.clearCard st
  | .reprint st => some fun d => d.reprintCard st
  | .skipSlip st => some fun d => d.skipCard st
  | .padPulseExpiry st => some fun d => d.padQuiet st
  | .idleTimeout st => some fun d => d.closeSession st
  | .overrideArmExpiry st => some fun d => d.armExpiry st
  | .closingGraceExpiry => some fun d => d.graceExpiry
  | .lookupTimeout st => some fun d => d.lookupExpiry st
  | .sweepStep => some fun d => d.sweepStep
  | .takenTimeout => some fun d => d.takenExpiry
  | .displayTimerExpiry st => some fun d => d.onArbiter st (Arbiter.displayExpiry (d.arbiterSettings st))
  | .displayRecordSent st => some fun d => d.onArbiter st Arbiter.recordSent
  | .tonePatternEnd st => some fun d => d.onArbiter st Arbiter.toneEnd
  | .printerLineSent p => some fun d => d.lineSent p
  | .printerReadyAnswer p => some fun d => d.readyAnswer p
  | .printerPaperOutAnswer p => some fun d => d.paperOutAnswer p
  | .printerFaultAnswer p c => some fun d => d.printerCharacter p c
  | .lineTimeout p => some fun d => d.lineExpiry p
  | _ => none

theorem exec_deskEffect {c : Instr} {f : Desk → Desk} (h : deskEffect c = some f) (s : State) :
    exec c s = .next (s.poweredDesk f) := by
  cases c
  all_goals simp only [deskEffect, reduceCtorEq, Option.some.injEq] at h
  all_goals
    subst h
    rfl

theorem exec_requestFrame {c : Instr} {f : RequestFrame} (h : requestFrame 0 (List.replicate 7 0) c = some f) (s : State) :
    exec c s = .next (s.powered fun s => s.takeFrame f.kind f.tag f.payload) :=
  (requestFrame_isFrameOf List.length_replicate h).1 s

/-- A command that reaches the line, the power or the clock without being a request. -/
inductive ReachesPart : Instr → Prop
  | secondComplete : ReachesPart .secondComplete
  | linkReset : ReachesPart .linkReset
  | badKindFrame (tag kind : Byte) : ReachesPart (.badKindFrame tag kind)
  | linkBadFrame : ReachesPart .linkBadFrame
  | receiveGapExpiry : ReachesPart .receiveGapExpiry
  | livenessExpiry : ReachesPart .livenessExpiry
  | frameSent : ReachesPart .frameSent
  | mainPowerFail : ReachesPart .mainPowerFail
  | batteryGoodFall : ReachesPart .batteryGoodFall
  | warmStart (straps : Straps) : ReachesPart (.warmStart straps)
  | coldStart (straps : Straps) : ReachesPart (.coldStart straps)
  | linkByteReceived (b : Option Byte) : ReachesPart (.linkByteReceived b)

/-- A command acts on the desk alone, is a request, or reaches the part. -/
theorem reachesPart_of_none {c : Instr} (hdesk : deskEffect c = none) (hframe : requestFrame 0 (List.replicate 7 0) c = none) :
    ReachesPart c := by
  cases c
  all_goals simp only [deskEffect, reduceCtorEq] at hdesk
  all_goals simp only [requestFrame, configFrame, tableWriteFrame, tableReadFrame, reduceCtorEq] at hframe
  all_goals constructor

@[simp] theorem State.linkReset_desk (s : State) : s.linkReset.desk = s.desk.linkReset := rfl

/-! ## The induction over a step -/

/-- The property of a state is kept by what the commands and the arbiter that takes a frame after them do, and by the reference. -/
structure State.KeptByCommands (Q : State → Prop) : Prop where
  desk : ∀ {s : State} {c : Instr} {f : Desk → Desk}, deskEffect c = some f → Q s → Q (s.onDesk f)
  takeFrame : ∀ {s : State} (kind tag : Byte) (payload : List Byte), Q s → Q (s.takeFrame kind tag payload)
  badKind : ∀ {s : State} (tag : Byte), Q s → Q (s.badKind tag)
  badFrame : ∀ {s : State}, Q s → Q (s.onLine LinkLine.badFrame)
  gapExpiry : ∀ {s : State}, Q s → Q (s.onLine LinkLine.gapExpiry)
  receive : ∀ {s : State} (b : Option Byte), Q s → Q (s.receive b)
  livenessExpiry : ∀ {s : State}, Q s → Q s.livenessExpiry
  frameSent : ∀ {s : State}, Q s → Q s.frameSent
  linkReset : ∀ {s : State}, Q s → Q s.linkReset
  transmit : ∀ {s : State}, Q s → Q s.transmit
  second : ∀ {s : State}, Q s → Q (s.onDesk Desk.second)
  tick : ∀ {s : State}, s.desk.clock.prescaler + 1 < 32768 → Q s →
    Q (s.onDesk fun d => { d with clock := { d.clock with prescaler := d.clock.prescaler + 1 } })
  powerFail : ∀ {s : State}, Q s → Q s.powerFail
  batteryFall : ∀ {s : State}, Q s → Q s.batteryFall
  warmStart : ∀ {s : State} (x : Straps), Q s → Q (s.warmStart x)
  coldStart : ∀ {s : State} (x : Straps), Q s → Q (s.coldStart x)

/-- And by what takes a command from the queue. -/
structure State.KeptBySteps (Q : State → Prop) : Prop extends State.KeptByCommands Q where
  pending : ∀ {s : State} (l : List Instr), Q s → Q { s with pending := l }

namespace State.KeptByCommands
variable {Q : State → Prop} (hQ : State.KeptByCommands Q) {s t : State}
include hQ

theorem powered {f : State → State} (hf : Q s → Q (f s)) (h : Q s) : Q (s.powered f) := by
  unfold State.powered
  split
  · exact hQ.transmit (hf h)
  · exact h

theorem secondComplete (h : Q s) : Q s.second := by
  unfold State.second
  split
  · exact hQ.powered hQ.second h
  · split
    · exact h
    · exact hQ.second h

theorem part {c : Instr} (hc : ReachesPart c) (h : Q s) (hexec : exec c s = .next t) : Q t := by
  cases hc
  all_goals obtain rfl := Host.Outcome.next.inj hexec
  case secondComplete => exact hQ.secondComplete h
  case linkReset => exact hQ.powered hQ.linkReset h
  case badKindFrame tag kind =>
    refine hQ.powered (fun hs => ?_) h
    split
    · exact hs
    · exact hQ.badKind tag hs
  case linkBadFrame => exact hQ.powered hQ.badFrame h
  case receiveGapExpiry => exact hQ.powered hQ.gapExpiry h
  case livenessExpiry => exact hQ.powered hQ.livenessExpiry h
  case frameSent => exact hQ.powered hQ.frameSent h
  case mainPowerFail => exact hQ.powerFail h
  case batteryGoodFall => exact hQ.batteryFall h
  case warmStart straps => exact hQ.warmStart straps h
  case coldStart straps => exact hQ.coldStart straps h
  case linkByteReceived b => exact hQ.powered (hQ.receive b) h

theorem exec {c : Instr} (h : Q s) (hexec : exec c s = .next t) : Q t := by
  cases hdesk : deskEffect c with
  | some f =>
    rw [exec_deskEffect hdesk] at hexec
    cases hexec
    exact hQ.powered (hQ.desk hdesk) h
  | none =>
    cases hframe : requestFrame 0 (List.replicate 7 0) c with
    | some f =>
      rw [exec_requestFrame hframe] at hexec
      cases hexec
      exact hQ.powered (hQ.takeFrame _ _ _) h
    | none =>
      exact hQ.part (reachesPart_of_none hdesk hframe) h hexec

theorem cycle (h : Q s) : Q s.cycle := by
  unfold State.cycle
  split
  · exact h
  · split
    · next htick => exact hQ.tick htick h
    · exact hQ.secondComplete h

end State.KeptByCommands

theorem State.KeptBySteps.step {Q : State → Prop} (hQ : State.KeptBySteps Q) {s t : State} (h : Q s) (hstep : step s = .next t) :
    Q t := by
  unfold Machine.step at hstep
  split at hstep
  · exact hQ.exec (hQ.pending _ h) hstep
  · cases hstep
    exact hQ.cycle h

/-! ## Properties of the desk -/

/-- The property of a desk is kept by what the commands, the arbiter that takes a frame after them, and the reference do. -/
structure Desk.KeptByCommands (P : Desk → Prop) : Prop where
  effect : ∀ {d : Desk} {c : Instr} {f : Desk → Desk}, deskEffect c = some f → P d → P (f d)
  request : ∀ {d : Desk} (kind : Nat) (bs : List Byte), P d → P (d.request kind bs).desk
  frameArrives : ∀ {d : Desk}, P d → P d.frameArrives
  overrun : ∀ {d : Desk}, P d → P (d.raiseAlarm .linkOverrun)
  spendFree : ∀ {d : Desk} (used : Bool), P d → P (d.spendFree used)
  lookupSent : ∀ {d : Desk} (l : List LookupFrame), P d → P { d with lookupList := l }
  noticeSent : ∀ {d : Desk} {n : Notice} {l : List Notice}, d.notices = n :: l → P d → P { d with notices := l }
  uploadSent : ∀ {d : Desk} {f : UploadFrame} {l : List UploadFrame}, d.uploadList = f :: l → P d → P { d with uploadList := l }
  blockSent : ∀ {d : Desk} (first count : Nat), P d → P (d.blockSent first count)
  linkLost : ∀ {d : Desk}, P d → P d.linkLost
  linkReset : ∀ {d : Desk}, P d → P d.linkReset
  second : ∀ {d : Desk}, P d → P d.second
  tick : ∀ {d : Desk}, d.clock.prescaler + 1 < 32768 → P d →
    P { d with clock := { d.clock with prescaler := d.clock.prescaler + 1 } }
  powerFail : ∀ {d : Desk}, P d → P { d.loseVolatile with power := ⟨false, false⟩ }
  batteryFall : ∀ {d : Desk}, P d → P { d with power := ⟨false, true⟩ }
  warmStart : ∀ {d : Desk}, P d → P d.warmStart
  coldStart : ∀ n : Nat, P { Desk.reset with freeIndex := n }

namespace Desk.KeptByCommands
variable {P : Desk → Prop} (hP : Desk.KeptByCommands P) {s : State}
include hP

theorem transmit (h : P s.desk) : P s.transmit.desk := by
  unfold State.transmit
  split
  · exact h
  · split
    · exact h
    · exact hP.lookupSent _ h
    · next hlist => exact hP.noticeSent hlist h
    · next hlist => exact hP.uploadSent hlist h
    · exact h

theorem takeValid {dispatch : State → State} (hdispatch : ∀ s : State, P s.desk → P (dispatch s).desk) (h : P s.desk) :
    P (s.takeValid dispatch).desk := by
  have harrived : P (s.onDesk Desk.frameArrives).desk := hP.frameArrives h
  simp only [State.takeValid]
  split
  · exact harrived
  · split
    · exact hP.overrun harrived
    · exact hdispatch _ harrived

theorem badKind (tag : Byte) (h : P s.desk) : P (s.badKind tag).desk := hP.takeValid (fun _ hs => hs) h

theorem takeFrame (kind tag : Byte) (payload : List Byte) (h : P s.desk) : P (s.takeFrame kind tag payload).desk := by
  unfold State.takeFrame
  split
  · exact hP.badKind tag h
  · split
    · exact hP.takeValid (fun s hs => hP.spendFree _ hs) h
    · split
      · exact hP.takeValid (fun s hs => hs) h
      · exact hP.takeValid (fun s hs => hP.request _ _ hs) h

theorem receive (b : Option Byte) (h : P s.desk) : P (s.receive b).desk := by
  simp only [State.receive]
  split
  · exact h
  · exact h
  · exact hP.takeFrame _ _ _ h

theorem livenessExpiry (h : P s.desk) : P s.livenessExpiry.desk := by
  simp only [State.livenessExpiry]
  split
  · exact h
  · generalize hlost : (s.onDesk Desk.linkLost).onLine _ = lost
    have hkept : P lost.desk := by
      rw [← hlost, State.onLine_desk, State.onDesk_desk]
      exact hP.linkLost h
    split
    · rw [State.linkReset_desk]
      exact hP.linkReset hkept
    · exact hkept

theorem frameSent (h : P s.desk) : P s.frameSent.desk := by
  simp only [State.frameSent]
  split
  · split
    · exact hP.linkReset h
    · exact h
  · exact hP.blockSent _ _ h
  · exact h

theorem state : State.KeptBySteps fun s => P s.desk where
  desk hf h := hP.effect hf h
  takeFrame _ _ _ h := hP.takeFrame _ _ _ h
  badKind _ h := hP.badKind _ h
  badFrame h := h
  gapExpiry h := h
  receive _ h := hP.receive _ h
  livenessExpiry h := hP.livenessExpiry h
  frameSent h := hP.frameSent h
  linkReset h := hP.linkReset h
  transmit h := hP.transmit h
  second h := hP.second h
  tick ht h := hP.tick ht h
  powerFail {s} h := by
    unfold State.powerFail
    split
    · exact hP.powerFail h
    · exact h
  batteryFall {s} h := by
    unfold State.batteryFall
    split
    · exact h
    · exact hP.batteryFall h
  warmStart {s} x h := by
    unfold State.warmStart
    split
    · exact hP.coldStart _
    · exact hP.warmStart h
  coldStart {s} x _ := hP.coldStart _
  pending _ h := h

theorem step {t : State} (h : P s.desk) (hstep : step s = .next t) : P t.desk := hP.state.step h hstep

end Desk.KeptByCommands

namespace Desk.KeptByEngine
variable {P : Desk → Prop} (hP : Desk.KeptByEngine P) {d : Desk}
include hP

theorem effect {c : Instr} {f : Desk → Desk} (hf : deskEffect c = some f) (h : P d) : P (f d) := by
  cases c
  all_goals simp only [deskEffect, reduceCtorEq, Option.some.injEq] at hf
  all_goals subst hf
  case wandCharacter => exact hP.wandCharacter _ _ h
  case characterGapExpiry => exact hP.scan (fun hs => hs.gapExpiry) h
  case pairingTimerExpiry => exact hP.scan (fun hs => hs.pairingExpiry) h
  case suppressionTimerExpiry => exact hP.scan (fun hs => ⟨hs.wand, hs.readErrors, hs.queue⟩) h
  case loanMode | returnMode | renewMode => exact hP.setMode _ _ h
  case endCard | idleTimeout => exact hP.closeSession _ h
  case cancelLast => exact hP.cancelCard _ h
  case overrideCard => exact hP.overrideCard _ h
  case clearCard => exact hP.clearCard _ h
  case reprint => exact hP.reprintCard _ h
  case skipSlip => exact hP.skipCard _ h
  case padPulseExpiry => exact hP.padQuiet _ h
  case overrideArmExpiry => exact hP.armExpiry _ h
  case closingGraceExpiry => exact hP.graceExpiry h
  case lookupTimeout => exact hP.lookupExpiry _ h
  case sweepStep => exact hP.sweepStep h
  case takenTimeout => exact hP.takenExpiry h
  case displayTimerExpiry st =>
    exact hP.arbiter (fun hls ha => Arbiter.displayExpiry_right (x := d.arbiterSettings st) hls ha) h
  case displayRecordSent => exact hP.arbiter (fun _ ha => Arbiter.recordSent_right ha) h
  case tonePatternEnd => exact hP.arbiter (fun _ ha => Arbiter.toneEnd_right ha) h
  case printerLineSent => exact hP.lineSent _ h
  case printerReadyAnswer => exact hP.readyAnswer _ h
  case printerPaperOutAnswer => exact hP.printerFails _ _ h
  case printerFaultAnswer => exact hP.printerCharacter _ _ h
  case lineTimeout => exact hP.lineExpiry _ h

theorem keptByCommands : Desk.KeptByCommands P where
  effect hf h := hP.effect hf h
  request _ _ h := hP.request _ _ h
  frameArrives h := hP.frameArrives h
  overrun h := hP.raiseAlarm _ h
  spendFree _ h := hP.spendFree _ h
  lookupSent l h := hP.lookupList l h
  noticeSent hl h := hP.notices (fun hs => (hl ▸ hs).tail) h
  uploadSent hl h := hP.unsend (fun _ hf => hl ▸ List.mem_cons_of_mem _ hf) h
  blockSent first count h := hP.blockSent first count h
  linkLost h := hP.linkLost h
  linkReset h := hP.linkReset h
  second h := hP.second h
  tick ht h := hP.clock (fun hr => { hr with prescaler := ht }) h
  powerFail h := hP.power _ (hP.loseVolatile h)
  batteryFall h := hP.power _ h
  warmStart h := hP.warmStart h
  coldStart n := hP.coldStart n

theorem step {s t : State} (h : P s.desk) (hstep : step s = .next t) : P t.desk := hP.keptByCommands.step h hstep

end Desk.KeptByEngine

theorem Desk.Kept.step {P : Desk → Prop} (hP : Desk.Kept P) {s t : State} (h : P s.desk) (hstep : Machine.step s = .next t) : P t.desk :=
  hP.engine.step h hstep

end Sys2Proof.Machine
end

section
/-! PROOF. The invariants: each is kept by the writes, and so by every step. -/

namespace Sys2Proof.Machine

/-! ## The Upload Engine's operations, for a property that does not read the upload -/

namespace Desk.KeptByWrites
variable {P : Desk → Prop} (hP : Desk.KeptByWrites P) (hupload : ∀ {d : Desk} (u : Upload), P d → P { d with upload := u })
  (hlist : ∀ {d : Desk} (l : List UploadFrame), P d → P { d with uploadList := l })
  (hrelease : ∀ {d : Desk} {n : Nat}, 0 < n → n ≤ d.journal.heldCount → P d → P { d with journal := d.journal.release n })
  {d : Desk}
include hP

omit hP in
include hupload hlist in
theorem composeBlock (h : P d) : P d.composeBlock := hlist _ (hupload _ h)

omit hP in
include hupload hlist in
theorem finishUpload (h : P d) : P d.finishUpload := hlist _ (hupload _ h)

omit hP in
include hupload hlist in
theorem startUpload (h : P d) : P d.startUpload := by
  have hcut : P (d.onUpload fun u => { u with waiting := none, cut := d.journal.newest }) := hupload _ h
  simp only [Desk.startUpload]
  split
  · exact finishUpload hupload hlist hcut
  · exact composeBlock hupload hlist hcut

omit hP in
include hupload hlist in
theorem tryWaitingUpload (h : P d) : P d.tryWaitingUpload := by
  unfold Desk.tryWaitingUpload
  split
  · exact startUpload hupload hlist h
  · exact h

include hrelease in
theorem release (first count : Nat) (h : P d) : P (d.release first count) := by
  unfold Desk.release
  split
  · next hguard =>
    simp only [Bool.and_eq_true, decide_eq_true_iff] at hguard
    obtain ⟨⟨-, hpos⟩, hheld⟩ := hguard
    exact hP.evaluateJournal (hrelease hpos hheld h)
  · exact h

include hupload hlist hrelease in
theorem takeBlock (b : BlockInFlight) (h : P d) : P (d.takeBlock b) := by
  have hreleased := hP.release hrelease b.first b.count (hlist (d.uploadList.filter fun f => !f.isBlock)
    (hupload { d.upload with takenTimer := none, block := none } h))
  simp only [Desk.takeBlock]
  split
  · exact tryWaitingUpload hupload hlist (finishUpload hupload hlist hreleased)
  · exact composeBlock hupload hlist hreleased

include hupload hlist hrelease in
/-- A property that does not read the upload is kept by its operations. -/
theorem keptByUpload : Desk.KeptByUpload P where
  toKeptByWrites := hP
  startUpload _ h := startUpload hupload hlist h
  waiting _ h := hupload _ h
  uploadTaken first count h := by
    unfold Desk.uploadTaken
    split
    · exact h
    · split
      · exact hP.takeBlock hupload hlist hrelease _ (hP.reportCondition rfl _ h)
      · exact h
  uploadResume h := by
    unfold Desk.uploadResume
    split
    · exact composeBlock hupload hlist (hP.reportCondition rfl _ h)
    · exact h
  uploadAbort h := by
    unfold Desk.uploadAbort
    split
    · exact h
    · exact tryWaitingUpload hupload hlist (hupload _ (hlist _ (hP.reportCondition rfl _ h)))
  stallUpload _ h := hP.reportCondition rfl _ (hlist _ (hupload _ h))
  blockSent first count h := by
    unfold Desk.blockSent
    split
    · exact hupload _ h
    · exact h
  unsend _ h := hlist _ h
  restartUpload _ h := hP.reportCondition rfl _ (hupload _ h)

end Desk.KeptByWrites

theorem Desk.KeptByAllWrites.kept {P : Desk → Prop} (hP : Desk.KeptByAllWrites P)
    (hupload : ∀ {d : Desk} (u : Upload), P d → P { d with upload := u })
    (hlist : ∀ {d : Desk} (l : List UploadFrame), P d → P { d with uploadList := l })
    (hrelease : ∀ {d : Desk} {n : Nat}, 0 < n → n ≤ d.journal.heldCount → P d → P { d with journal := d.journal.release n }) :
    Desk.Kept P :=
  { hP, hP.keptByUpload hupload hlist hrelease with }

/-! ## The tables and the notices (R12, R32, R33, R40, R55, R60, R67, R69, R193) -/

theorem reset_tables_sorted : Desk.reset.tables.Sorted := ⟨.nil, .nil, .nil, .nil, .nil, .nil, .nil, .nil⟩

theorem reset_notices_sorted : Table.Sorted Notice.key Desk.reset.notices := by
  unfold Table.Sorted
  decide

theorem kept_tablesSorted : Desk.Kept fun d => d.tables.Sorted :=
  Desk.KeptByAllWrites.kept
    { tables := fun hs _ h => hs h
      coldStart := fun _ => reset_tables_sorted }
    (fun _ h => h) (fun _ h => h) (fun _ _ h => h)

theorem kept_noticesSorted : Desk.Kept fun d => Table.Sorted Notice.key d.notices :=
  Desk.KeptByAllWrites.kept
    { notices := fun hs h => hs h
      coldStart := fun _ => reset_notices_sorted }
    (fun _ h => h) (fun _ h => h) (fun _ _ h => h)

/-! ## The journal (R156, R157) -/

theorem seqForward_eq (a n : Nat) : seqForward a n = if a + n ≤ 4294967295 then a + n else a + n - 4294967295 := rfl

theorem seqDistance_eq (a b : Nat) : seqDistance a b = if a ≤ b then b - a else 4294967295 - a + b := rfl

/-- Steps of the numbering add up, as long as they pass its end once at most. -/
theorem seqForward_seqForward {a m n : Nat} (ha : a ≤ lastSeq) (hn : m + n ≤ lastSeq) :
    seqForward (seqForward a m) n = seqForward a (m + n) := by
  unfold lastSeq at ha hn
  simp only [seqForward_eq]
  split <;> split <;> split <;> omega

namespace Journal.Coherent
variable {j : Journal} (h : j.Coherent)
include h

theorem count_eq : j.held.length = if j.released ≤ j.newest then j.newest - j.released else 4294967295 - j.released + j.newest := h.count

/-- The record of the next seq joins a ring that has a free place (R156). -/
theorem add {r : JournalRecord} (hfree : 0 < j.free) (hr : r.seq = seqForward j.newest 1) : (j.add r).Coherent := by
  have hnewest : j.newest ≤ 4294967295 := h.newest
  have hreleased : j.released ≤ 4294967295 := h.released
  have hcount := h.count_eq
  have hroom : j.held.length < 16384 := Nat.lt_of_sub_pos hfree
  have hnext : seqForward j.newest 1 = seqForward j.released (j.held.length + 1) := by
    simp only [seqForward_eq]
    grind
  refine ⟨?_, h.released, ?_, ?_, fun i hi => ?_⟩
  · simp only [Journal.add, hr, seqForward_eq, lastSeq]
    split <;> omega
  · simp only [Journal.add, hr, seqForward_eq, seqDistance_eq, List.length_append, List.length_singleton]
    grind
  · simpa [Journal.add, journalPlaces] using Nat.succ_le_of_lt hroom
  · simp only [Journal.add, List.length_append, List.length_singleton] at hi ⊢
    rcases Nat.lt_or_ge i j.held.length with hlt | hge
    · rw [List.getElem?_append_left hlt]
      exact h.numbered i hlt
    · obtain rfl : i = j.held.length := by omega
      rw [List.getElem?_append_right le_rfl]
      simpa [hr] using hnext

/-- The oldest records leave the ring. -/
theorem release {n : Nat} (hn : n ≤ j.heldCount) : (j.release n).Coherent := by
  have hnewest : j.newest ≤ 4294967295 := h.newest
  have hreleased : j.released ≤ 4294967295 := h.released
  have hcount := h.count_eq
  have hroom : j.held.length ≤ 16384 := h.room
  have hn : n ≤ j.held.length := hn
  refine ⟨h.newest, ?_, ?_, ?_, fun i hi => ?_⟩
  · simp only [Journal.release, seqForward_eq, lastSeq]
    split <;> omega
  · simp only [Journal.release, seqForward_eq, seqDistance_eq, List.length_drop]
    grind
  · exact (List.length_drop.trans_le (Nat.sub_le _ _)).trans h.room
  · simp only [Journal.release, List.length_drop] at hi ⊢
    rw [List.getElem?_drop, h.numbered (n + i) (by omega), seqForward_seqForward h.released, Nat.add_assoc]
    unfold lastSeq
    omega

end Journal.Coherent

theorem reset_journal_coherent : Desk.reset.journal.Coherent := by
  refine ⟨by decide, by decide, rfl, by decide, fun i hi => ?_⟩
  obtain rfl : i = 0 := Nat.lt_one_iff.1 hi
  rfl

theorem kept_journalCoherent : Desk.Kept fun d => d.journal.Coherent :=
  Desk.KeptByAllWrites.kept
    { record := fun _ _ _ hfree h => h.add hfree rfl
      coldStart := fun _ => reset_journal_coherent }
    (fun _ h => h) (fun _ h => h) (fun _ hn h => h.release hn)

/-! ## The shown prompt (R122, R125, R134) -/

/-- What `Desk.PromptsRight` says, by the parts of the desk that it reads. -/
def SelectionsRight (x : Settings) (stations : PerStation StationSettings) (arbiters : PerStation Arbiter) : Prop :=
  IsPrecedence x.precedence ∧ ∀ st, ArbiterRight x.precedence (stations.get st).masks (arbiters.get st)

theorem Desk.promptsRight_iff (d : Desk) : d.PromptsRight ↔ SelectionsRight d.settings d.stationSettings d.arbiters :=
  ⟨fun h => ⟨h.precedence, h.arbiters⟩, fun h => ⟨h.1, h.2⟩⟩

/-- An arbiter without entries shows nothing. -/
theorem arbiterRight_restart (ls : List Level) (m : LevelMasks) : ArbiterRight ls m Arbiter.restart :=
  ⟨.nil, fun _ hp => absurd hp List.not_mem_nil, rfl⟩

theorem Desk.setPrecedence_arbiters (d : Desk) (ls : List Level) (st : StationId) :
    (d.setPrecedence ls).arbiters.get st =
      (d.arbiters.get st).reselect ⟨ls, (d.stationSettings.get st).masks, d.settings.displayTime⟩ none := by
  cases st <;> rfl

theorem Desk.reselect_right {d : Desk} {o : StationId} (hls : IsPrecedence d.settings.precedence)
    (hs : Table.Sorted Prompt.key (d.arbiters.get o).pending) (hlamp : (d.arbiters.get o).lamp = lampOf (d.arbiters.get o).shown) :
    ArbiterRight d.settings.precedence (d.stationSettings.get o).masks ((d.reselect o).arbiters.get o) := by
  rw [reselect, onArbiter_arbiters, PerStation.get_set_same]
  exact Arbiter.reselect_right (x := d.arbiterSettings o) hls none hs hlamp

theorem kept_promptsRight : Desk.Kept fun d => SelectionsRight d.settings d.stationSettings d.arbiters :=
  Desk.KeptByAllWrites.kept
    { settings := fun hx _ h => ⟨hx ▸ h.1, fun st => hx ▸ h.2 st⟩
      precedence := fun {d ls} hls h => ⟨hls, fun st => by
        rw [d.setPrecedence_arbiters ls st]
        exact Arbiter.reselect_right (x := ⟨ls, (d.stationSettings.get st).masks, d.settings.displayTime⟩) hls none
          (h.2 st).pending (h.2 st).lamp⟩
      stationSettings := fun {d st f} hf _ h => ⟨h.1, fun o => by
        rw [Desk.onStationSettings_stationSettings, PerStation.get_set]
        split
        · next ho => rw [hf, ← ho]; exact h.2 o
        · exact h.2 o⟩
      masks := fun {d} st m h => ⟨h.1, fun o => by
        by_cases ho : o = st
        · subst ho
          have hright := Desk.reselect_right (d := d.onStationSettings o fun x => { x with masks := m }) (o := o) h.1
            (h.2 o).pending (h.2 o).lamp
          exact hright
        · rw [Desk.reselect, Desk.onArbiter_arbiters, Desk.onArbiter_stationSettings, Desk.onStationSettings_stationSettings,
            PerStation.get_set_other _ _ ho, PerStation.get_set_other _ _ ho]
          exact h.2 o⟩
      arbiter := fun {d st f} hf h => ⟨h.1, fun o => by
        rw [Desk.onArbiter_arbiters, PerStation.get_set]
        split
        · next ho => subst ho; exact hf h.1 (h.2 o)
        · exact h.2 o⟩
      arbitersRestart := fun h => ⟨h.1, fun st => by rw [PerStation.get_all]; exact arbiterRight_restart _ _⟩
      coldStart := fun _ => ⟨.refl _, fun st => by cases st <;> exact arbiterRight_restart _ _⟩ }
    (fun _ h => h) (fun _ h => h) (fun _ _ h => h)

/-! ## The scan stations and the alarms (R1, R3, R17, R191) -/

theorem scanBounded_restart : ScanBounded ScanStation.restart := ⟨trivial, Nat.zero_le _, Nat.zero_le _⟩

/-- Every scan station is within its bounds. -/
def ScansBounded (s : PerStation ScanStation) : Prop := ∀ st, ScanBounded (s.get st)

theorem kept_scansBounded : Desk.Kept fun d => ScansBounded d.scan :=
  Desk.KeptByAllWrites.kept
    { scan := fun {d st f} hf h o => by
        rw [Desk.onScan_scan, PerStation.get_set]
        split
        · next ho => subst ho; exact hf (h o)
        · exact h o
      scanRestart := fun _ st => by rw [PerStation.get_all]; exact scanBounded_restart
      coldStart := fun _ st => by cases st <;> exact scanBounded_restart }
    (fun _ h => h) (fun _ h => h) (fun _ _ h => h)

theorem reset_alarms_bounded : Desk.reset.alarms.Bounded := by
  intro a
  cases a <;> decide

theorem kept_alarmsBounded : Desk.Kept fun d => d.alarms.Bounded :=
  Desk.KeptByAllWrites.kept
    { alarms := fun hx h => hx h
      coldStart := fun _ => reset_alarms_bounded }
    (fun _ h => h) (fun _ h => h) (fun _ _ h => h)

/-! ## The clock, the borrowers' counts and the settings (R20, R40, R187) -/

/-- What `Desk.Ranged` says, by the parts of the desk that it reads. -/
def PartsRanged (c : Clock) (borrowers : List Borrower) (x : Settings) (stations : PerStation StationSettings) : Prop :=
  c.Ranged ∧ (∀ b ∈ borrowers, b.Ranged) ∧ x.Ranged ∧ ∀ st, (stations.get st).Ranged

theorem Desk.ranged_iff (d : Desk) : d.Ranged ↔ PartsRanged d.clock d.tables.borrowers d.settings d.stationSettings :=
  ⟨fun h => ⟨h.clock, h.borrowers, h.settings, h.stations⟩, fun ⟨hclock, hborrowers, hsettings, hstations⟩ =>
    ⟨hclock, hborrowers, hsettings, hstations⟩⟩

theorem reset_partsRanged :
    PartsRanged Desk.reset.clock Desk.reset.tables.borrowers Desk.reset.settings Desk.reset.stationSettings := by
  refine ⟨⟨by decide, by decide, by decide, by decide, by decide, by rintro _ ⟨⟩⟩, fun b hb => absurd hb List.not_mem_nil, ?_, fun st => ?_⟩
  · exact ⟨by decide, by decide, by decide, by decide, by decide, by decide, fun p => by cases p <;> decide, by decide, by decide,
      by rintro _ ⟨⟩, by decide, by decide⟩
  · cases st <;> exact ⟨by decide, by decide, by decide, by decide, by decide⟩

theorem kept_partsRanged : Desk.Kept fun d => PartsRanged d.clock d.tables.borrowers d.settings d.stationSettings :=
  have hstation {d : Desk} {st : StationId} {f : StationSettings → StationSettings}
      (hf : (d.stationSettings.get st).Ranged → (f (d.stationSettings.get st)).Ranged)
      (h : ∀ st, (d.stationSettings.get st).Ranged) (o : StationId) : ((d.onStationSettings st f).stationSettings.get o).Ranged := by
    rw [Desk.onStationSettings_stationSettings, PerStation.get_set]
    split
    · next ho => subst ho; exact hf (h o)
    · exact h o
  Desk.KeptByAllWrites.kept
    { clock := fun hx ⟨hclock, hborrowers, hsettings, hstations⟩ => ⟨hx hclock, hborrowers, hsettings, hstations⟩
      tables := fun _ hx ⟨hclock, hborrowers, hsettings, hstations⟩ => ⟨hclock, hx hborrowers, hsettings, hstations⟩
      settings := fun _ hx ⟨hclock, hborrowers, hsettings, hstations⟩ => ⟨hclock, hborrowers, hx hsettings, hstations⟩
      precedence := fun _ ⟨hclock, hborrowers, hsettings, hstations⟩ => ⟨hclock, hborrowers, { hsettings with }, hstations⟩
      stationSettings := fun _ hx ⟨hclock, hborrowers, hsettings, hstations⟩ =>
        ⟨hclock, hborrowers, hsettings, hstation hx hstations⟩
      masks := fun st m ⟨hclock, hborrowers, hsettings, hstations⟩ =>
        ⟨hclock, hborrowers, hsettings, hstation (f := fun x => { x with masks := m }) (fun hr => { hr with }) hstations⟩
      coldStart := fun _ => reset_partsRanged }
    (fun _ h => h) (fun _ h => h) (fun _ _ h => h)

/-! ## Item lists, print queues and deferred slips (R81, R100, R142, R143) -/

/-- What `Desk.WithinCapacities` says, by the parts of the desk that it reads. -/
def PartsWithin (stations : PerStation EngineStation) (slips : Slips) : Prop :=
  (∀ st x, (stations.get st).context = .opened x → ItemListRight x.items) ∧
  (∀ p, (slips.printers.get p).queue.length ≤ 8) ∧
  (slips.deferrals.map SlipJob.station).Nodup ∧ ∀ j ∈ slips.deferrals, (stations.get j.station).context.serving = false

theorem Desk.withinCapacities_iff (d : Desk) : d.WithinCapacities ↔ PartsWithin d.stations d.slips :=
  ⟨fun h => ⟨h.lists, h.queues, h.deferrals, h.unserved⟩, fun ⟨hlists, hqueues, hdeferrals, hunserved⟩ =>
    ⟨hlists, hqueues, hdeferrals, hunserved⟩⟩

theorem Desk.deferredAt_eq_none_iff {d : Desk} {st : StationId} :
    d.deferredAt st = none ↔ ∀ j ∈ d.slips.deferrals, j.station ≠ st := by
  simp [deferredAt]

/-- A change of one station's context keeps the bounds, where the new context keeps them. -/
theorem PartsWithin.onStation {d : Desk} {st : StationId} {f : EngineStation → EngineStation}
    (hitems : ∀ x, (f (d.stations.get st)).context = .opened x → ItemListRight x.items)
    (hserving : (f (d.stations.get st)).context.serving = true → (d.context st).serving = true ∨ d.deferredAt st = none)
    (h : PartsWithin d.stations d.slips) : PartsWithin (d.onStation st f).stations d.slips := by
  obtain ⟨hlists, hqueues, hdeferrals, hunserved⟩ := h
  refine ⟨fun o x => ?_, hqueues, hdeferrals, fun j hj => ?_⟩
  · rw [Desk.onStation_stations, PerStation.get_set]
    split
    · exact hitems x
    · exact hlists o x
  · rw [Desk.onStation_stations, PerStation.get_set]
    split
    · next hst =>
      refine Bool.eq_false_iff.2 fun hs => ?_
      obtain hold | hnone := hserving hs
      · exact Bool.false_ne_true ((hunserved j hj).symm.trans (hst ▸ hold))
      · exact Desk.deferredAt_eq_none_iff.1 hnone j hj hst
    · exact hunserved j hj

theorem reset_partsWithin : PartsWithin Desk.reset.stations Desk.reset.slips := by
  refine ⟨fun st x hx => ?_, fun p => by cases p <;> decide, .nil, fun j hj => absurd hj List.not_mem_nil⟩
  cases st <;> cases hx

theorem kept_partsWithin : Desk.Kept fun d => PartsWithin d.stations d.slips :=
  Desk.KeptByAllWrites.kept
    { station := fun {d st f} hf h => h.onStation (by rw [hf]; exact h.1 st) (by rw [hf]; exact .inl)
      context := fun {d st c} hserving hitems h => h.onStation
        (fun x hx => by rw [ItemListRight, hitems x hx]; exact ⟨Nat.zero_le _, .nil⟩) hserving
      session := fun {d st f} hf h => by
        refine PartsWithin.onStation (fun x hx => ?_) (fun hs => ?_) h
        · dsimp only at hx
          split at hx
          · next y hy => cases hx; exact hf y hy (h.1 st y hy)
          · exact h.1 st x hx
        · dsimp only at hs
          split at hs
          · next y hy => exact .inl (by rw [Desk.context, hy]; rfl)
          · exact .inl hs
      stationsRestart := fun {d x} hx ⟨_, hqueues, hdeferrals, _⟩ =>
        ⟨fun st y hy => by simpa [hy, Context.serving] using hx st, hqueues, hdeferrals, fun j _ => hx j.station⟩
      printer := fun {d p f} hf ⟨hlists, hqueues, hdeferrals, hunserved⟩ => by
        refine ⟨hlists, fun o => ?_, hdeferrals, hunserved⟩
        by_cases ho : o = p
        · subst ho
          exact (PerPrinter.get_set_same ..).symm ▸ hf (hqueues o)
        · exact (PerPrinter.get_set_other _ _ ho).symm ▸ hqueues o
      undefer := fun q ⟨hlists, hqueues, hdeferrals, hunserved⟩ =>
        ⟨hlists, hqueues, hdeferrals.sublist (List.filter_sublist.map _), fun j hj => hunserved j (List.mem_of_mem_filter hj)⟩
      defer := fun {d j} hnone hidle ⟨hlists, hqueues, hdeferrals, hunserved⟩ => by
        refine ⟨hlists, hqueues, ?_, fun i hi => ?_⟩
        · have hfresh := Desk.deferredAt_eq_none_iff.1 hnone
          simpa [List.nodup_append, hdeferrals] using hfresh
        · rcases List.mem_append.1 hi with hi | hi
          · exact hunserved i hi
          · rw [List.mem_singleton.1 hi]
            exact hidle
      slipsRestart := fun _ ⟨hlists, _, _, _⟩ =>
        ⟨hlists, fun p => by cases p <;> exact Nat.zero_le _, .nil, fun j hj => absurd hj List.not_mem_nil⟩
      coldStart := fun _ => reset_partsWithin }
    (fun _ h => h) (fun _ h => h) (fun _ _ h => h)

end Sys2Proof.Machine
end

section
/-! PROOF. The upload's bounds (10.1, R173 to R181): kept by the operations of the Upload Engine over a coherent journal. -/

namespace Sys2Proof.Machine

/-! ## Distances in the numbering (R156) -/

/-- Only a seq itself stands at distance 0, for a seq of the numbering. -/
theorem seqDistance_pos {a b : Nat} (hb : 1 ≤ b) (hne : a ≠ b) : 1 ≤ seqDistance a b := by
  rw [seqDistance_eq]
  grind

/-- The released records are taken off every distance. -/
theorem seqDistance_seqForward {a b n : Nat} (ha : a ≤ lastSeq) (hb : b ≤ lastSeq) (hn : n ≤ seqDistance a b) :
    seqDistance (seqForward a n) b = seqDistance a b - n := by
  unfold lastSeq at ha hb
  simp only [seqDistance_eq, seqForward_eq] at hn ⊢
  grind

theorem seqForward_pos {a n : Nat} (hn : 1 ≤ n) : 1 ≤ seqForward a n := by
  rw [seqForward_eq]
  split <;> omega

/-- One record more after the newest stands one further from the released ones. -/
theorem seqDistance_next {a b : Nat} (ha : a ≤ lastSeq) (hb : b ≤ lastSeq) (hroom : seqDistance a b < lastSeq - 1) :
    seqDistance a (seqForward b 1) = seqDistance a b + 1 := by
  unfold lastSeq at *
  simp only [seqDistance_eq, seqForward_eq] at hroom ⊢
  grind

/-! ## The bounds -/

/-- What `Desk.UploadBounded` says, by the parts of the desk that it reads. -/
structure UploadWithin (j : Journal) (u : Upload) (l : List UploadFrame) : Prop where
  newest : 1 ≤ j.newest
  idle : u.state = .idle → u.block = none ∧ u.sent = j.released
  running : u.state ≠ .idle → 1 ≤ u.cut ∧ u.cut ≤ lastSeq ∧ ∃ n, 1 ≤ n ∧ n ≤ 16 ∧
    u.block = some ⟨seqForward j.released 1, n⟩ ∧ u.sent = seqForward j.released n ∧
    n ≤ seqDistance j.released u.cut ∧ seqDistance j.released u.cut ≤ seqDistance j.released j.newest
  timer : u.takenTimer ≠ none → u.state = .sending
  waiting : ∀ f ∈ l, f.isBlock = true → u.state = .sending

theorem Desk.uploadBounded_iff (d : Desk) : d.UploadBounded ↔ UploadWithin d.journal d.upload d.uploadList :=
  ⟨fun h => ⟨h.newest, h.idle, h.running, h.timer, h.waiting⟩, fun h => ⟨h.newest, h.idle, h.running, h.timer, h.waiting⟩⟩

/-- The bounds over a journal that numbers its records without gaps. -/
def UploadCoherent (j : Journal) (u : Upload) (l : List UploadFrame) : Prop := j.Coherent ∧ UploadWithin j u l

theorem UploadCoherent.add {j : Journal} {u : Upload} {l : List UploadFrame} (h : UploadCoherent j u l) {r : JournalRecord}
    (hfree : 0 < j.free) (hr : r.seq = seqForward j.newest 1) : UploadCoherent (j.add r) u l := by
  obtain ⟨hj, hu⟩ := h
  have hheld : j.held.length < journalPlaces := Nat.lt_of_sub_pos hfree
  have hnext : seqDistance j.released (j.add r).newest = seqDistance j.released j.newest + 1 := by
    rw [Journal.add, hr]
    refine seqDistance_next hj.released hj.newest ?_
    rw [← hj.count]
    exact hheld.trans (by decide)
  refine ⟨hj.add hfree hr, (seqForward_pos le_rfl).trans_eq hr.symm, hu.idle, fun hs => ?_, hu.timer, hu.waiting⟩
  obtain ⟨hcut, hlast, n, hpos, hle, hblock, hsent, hn, hdistance⟩ := hu.running hs
  exact ⟨hcut, hlast, n, hpos, hle, hblock, hsent, hn, hdistance.trans (hnext ▸ Nat.le_succ _)⟩

/-! ## The operations -/

/-- A release of records from the oldest held one on, as far as they are held (R161). -/
theorem Desk.release_journal (d : Desk) {first count : Nat} (hfirst : first = seqForward d.journal.released 1) (hpos : 0 < count)
    (hheld : count ≤ d.journal.heldCount) : (d.release first count).journal = d.journal.release count := by
  simp [release, hfirst, hpos, hheld]

section
variable {d : Desk}

/-- A block composed while records remain up to the cut. -/
theorem Desk.composeBlock_coherent (hj : d.journal.Coherent) (hnewest : 1 ≤ d.journal.newest) (hcut : 1 ≤ d.upload.cut)
    (hlast : d.upload.cut ≤ lastSeq) (hremain : 1 ≤ seqDistance d.journal.released d.upload.cut)
    (hdistance : seqDistance d.journal.released d.upload.cut ≤ seqDistance d.journal.released d.journal.newest) :
    UploadCoherent d.composeBlock.journal d.composeBlock.upload d.composeBlock.uploadList := by
  refine ⟨hj, hnewest, fun hs => (by cases hs), fun _ => ⟨hcut, hlast, d.blockCount, ?_, min_le_left _ _, rfl, rfl, min_le_right _ _,
    hdistance⟩, fun _ => rfl, fun _ _ _ => rfl⟩
  exact le_min (by decide) hremain

/-- UPLOAD_END is no JOURNAL_BLOCK, and in IDLE none waits. -/
theorem Desk.finishUpload_coherent (hj : d.journal.Coherent) (hnewest : 1 ≤ d.journal.newest)
    (hwaiting : ∀ f ∈ d.uploadList, f.isBlock = false) :
    UploadCoherent d.finishUpload.journal d.finishUpload.upload d.finishUpload.uploadList := by
  refine ⟨hj, hnewest, fun _ => ⟨rfl, rfl⟩, fun hs => absurd rfl hs, fun ht => absurd rfl ht, fun f hf hblock => ?_⟩
  rcases List.mem_append.1 hf with hf | hf
  · exact absurd hblock (Bool.eq_false_iff.1 (hwaiting f hf))
  · rw [List.mem_singleton.1 hf] at hblock
    cases hblock

theorem Desk.withdrawBlock_isBlock : ∀ f ∈ d.withdrawBlock.uploadList, f.isBlock = false := by
  simp [withdrawBlock]

theorem UploadState.isIdle_iff (s : UploadState) : s.isIdle = true ↔ s = .idle := by
  cases s <;> decide

section
variable (h : UploadCoherent d.journal d.upload d.uploadList)
include h

theorem UploadCoherent.isBlock_of_not_sending (hs : d.upload.state ≠ .sending) : ∀ f ∈ d.uploadList, f.isBlock = false :=
  fun f hf => Bool.eq_false_iff.2 fun hblock => hs (h.2.waiting f hf hblock)

theorem UploadCoherent.startUpload (hidle : d.upload.state = .idle) :
    UploadCoherent d.startUpload.journal d.startUpload.upload d.startUpload.uploadList := by
  obtain ⟨hj, hu⟩ := h
  have hnone := UploadCoherent.isBlock_of_not_sending ⟨hj, hu⟩ (by simp [hidle])
  simp only [Desk.startUpload]
  split
  · exact Desk.finishUpload_coherent hj hu.newest hnone
  · next hne => exact Desk.composeBlock_coherent hj hu.newest hu.newest hj.newest (seqDistance_pos hu.newest hne) le_rfl

theorem UploadCoherent.tryWaitingUpload :
    UploadCoherent d.tryWaitingUpload.journal d.tryWaitingUpload.upload d.tryWaitingUpload.uploadList := by
  unfold Desk.tryWaitingUpload
  split
  · next hmay =>
    simp only [Desk.uploadMayStart, Bool.and_eq_true, UploadState.isIdle_iff] at hmay
    exact h.startUpload hmay.2.1.1
  · exact h

theorem UploadCoherent.composeBlock (hs : d.upload.state ≠ .idle) :
    UploadCoherent d.composeBlock.journal d.composeBlock.upload d.composeBlock.uploadList := by
  obtain ⟨hcut, hlast, n, hpos, -, -, -, hn, hdistance⟩ := h.2.running hs
  exact Desk.composeBlock_coherent h.1 h.2.newest hcut hlast (hpos.trans hn) hdistance

/-- The block in flight is released whole: it stands at the oldest held records. -/
theorem UploadCoherent.takeBlock (hs : d.upload.state ≠ .idle) {b : BlockInFlight} (hb : d.upload.block = some b) :
    UploadCoherent (d.takeBlock b).journal (d.takeBlock b).upload (d.takeBlock b).uploadList := by
  obtain ⟨hj, hu⟩ := h
  obtain ⟨hcut, hlast, n, hpos, hle, hblock, -, hn, hdistance⟩ := hu.running hs
  obtain rfl : b = ⟨seqForward d.journal.released 1, n⟩ := Option.some.inj (hb.symm.trans hblock)
  have hheld : n ≤ d.journal.heldCount := (hn.trans hdistance).trans hj.count.ge
  set freed := (d.onUpload fun u => { u with takenTimer := none, block := none }).withdrawBlock with hfreed
  set after := freed.release (seqForward d.journal.released 1) n with hafter
  have hjournal : after.journal = d.journal.release n := freed.release_journal rfl hpos hheld
  have hcoherent : after.journal.Coherent := hjournal ▸ hj.release hheld
  have hnewest : 1 ≤ after.journal.newest := hjournal ▸ hu.newest
  have hupload : after.upload = { d.upload with takenTimer := none, block := none } := by simp [hafter, hfreed, Desk.onUpload]
  have hnone : ∀ f ∈ after.uploadList, f.isBlock = false := by
    have hlist : after.uploadList = freed.uploadList := by simp [hafter]
    exact hlist ▸ Desk.withdrawBlock_isBlock
  have htake : d.takeBlock ⟨seqForward d.journal.released 1, n⟩ =
    if after.journal.released = after.upload.cut then after.finishUpload.tryWaitingUpload else after.composeBlock := rfl
  rw [htake]
  split
  · exact (Desk.finishUpload_coherent hcoherent hnewest hnone).tryWaitingUpload
  · next hne =>
    rw [hjournal, hupload] at hne
    refine Desk.composeBlock_coherent hcoherent hnewest ?_ ?_ ?_ ?_
    · rwa [hupload]
    · rwa [hupload]
    · rw [hjournal, hupload]
      exact seqDistance_pos hcut hne
    · rw [hjournal, hupload]
      change seqDistance (seqForward d.journal.released n) d.upload.cut ≤
        seqDistance (seqForward d.journal.released n) d.journal.newest
      rw [seqDistance_seqForward hj.released hlast hn,
        seqDistance_seqForward hj.released hj.newest (hn.trans hdistance)]
      exact Nat.sub_le_sub_right hdistance n

/-- An upload is given up, or has never begun: IDLE without a block. -/
theorem UploadCoherent.idle {u : Upload} {l : List UploadFrame} (hstate : u.state = .idle) (hblock : u.block = none)
    (hsent : u.sent = d.journal.released) (htimer : u.takenTimer = none) (hl : ∀ f ∈ l, f.isBlock = false) :
    UploadCoherent d.journal u l :=
  ⟨h.1, h.2.newest, fun _ => ⟨hblock, hsent⟩, fun hs => absurd hstate hs, fun ht => absurd htimer ht,
    fun f hf hb => absurd hb (Bool.eq_false_iff.1 (hl f hf))⟩

theorem UploadCoherent.stallUpload (hs : d.upload.state = .sending) :
    UploadCoherent d.stallUpload.journal d.stallUpload.upload d.stallUpload.uploadList := by
  obtain ⟨hj, hu⟩ := h
  simp only [Desk.stallUpload, Desk.reportCondition_keeps]
  exact ⟨hj, hu.newest, nofun, fun _ => hu.running (by simp [hs]), fun ht => absurd rfl ht,
    fun f hf hb => absurd hb (Bool.eq_false_iff.1 (Desk.withdrawBlock_isBlock f hf))⟩

end

/-- What an upload command makes of the desk once the UPLOAD_STALLED condition has ended. -/
theorem UploadCoherent.reportCondition (h : UploadCoherent d.journal d.upload d.uploadList) (a : AlarmId) (now : Bool) :
    UploadCoherent (d.reportCondition a now).journal (d.reportCondition a now).upload (d.reportCondition a now).uploadList := by
  simpa using h

end

theorem reset_uploadCoherent : UploadCoherent Desk.reset.journal Desk.reset.upload Desk.reset.uploadList :=
  ⟨reset_journal_coherent, by decide, fun _ => ⟨rfl, rfl⟩, fun hs => absurd rfl hs, fun ht => absurd rfl ht,
    fun _ hf => absurd hf List.not_mem_nil⟩

theorem kept_uploadCoherent : Desk.Kept fun d => UploadCoherent d.journal d.upload d.uploadList where
  toKeptByAllWrites :=
    { record := fun _ _ _ hfree h => h.add hfree rfl
      coldStart := fun _ => reset_uploadCoherent }
  startUpload hidle h := h.startUpload ((UploadState.isIdle_iff _).1 hidle)
  waiting f h := ⟨h.1, h.2.newest, h.2.idle, h.2.running, h.2.timer, h.2.waiting⟩
  uploadTaken {d} first count h := by
    unfold Desk.uploadTaken
    split
    · exact h
    · next hidle =>
      rw [UploadState.isIdle_iff] at hidle
      split
      · next hblock => exact (h.reportCondition .uploadStalled false).takeBlock (by simpa using hidle) (by simpa using hblock)
      · exact h
  uploadResume {d} h := by
    unfold Desk.uploadResume
    split
    · next hs => exact (h.reportCondition .uploadStalled false).composeBlock (by simp [beq_iff_eq.1 hs])
    · exact h
  uploadAbort {d} h := by
    unfold Desk.uploadAbort
    split
    · exact h
    · have hidle := (h.reportCondition .uploadStalled false).idle
        (u := { (d.reportCondition .uploadStalled false).upload with
          state := .idle, takenTimer := none, block := none, sent := (d.reportCondition .uploadStalled false).journal.released })
        rfl rfl rfl rfl (Desk.withdrawBlock_isBlock (d := d.reportCondition .uploadStalled false))
      exact UploadCoherent.tryWaitingUpload hidle
  stallUpload hs h := h.stallUpload hs
  blockSent {d} first count h := by
    unfold Desk.blockSent
    split
    · next hs =>
      have hsending : d.upload.state = .sending := beq_iff_eq.1 (Bool.and_eq_true_iff.1 hs).1
      exact ⟨h.1, h.2.newest, h.2.idle, h.2.running, fun _ => hsending, h.2.waiting⟩
    · exact h
  unsend hl h := ⟨h.1, h.2.newest, h.2.idle, h.2.running, h.2.timer, fun f hf => h.2.waiting f (hl f hf)⟩
  restartUpload {d} hempty h := by
    have hidle := h.idle (l := d.uploadList)
      (u := ⟨.idle, d.journal.released, d.journal.released, none, none, none⟩) rfl rfl rfl rfl (by simp [hempty])
    simpa [Desk.restartUpload, Desk.onUpload] using hidle

end Sys2Proof.Machine
end

section
/-! PROOF. The line's bounds (R183 to R185, R188), and the statements that a step keeps an invariant of the desk. -/

namespace Sys2Proof.Machine

/-! ## The framer (R183) -/

theorem Framer.bounded.take {f : Framer} (h : f.bounded) (b : Option Byte) : (f.take b).1.bounded := by
  unfold Framer.take
  split
  · split
    · exact Nat.zero_lt_succ _
    · trivial
  · trivial
  · next kept x =>
    split
    · unfold Framer.afterHeader
      split
      · trivial
      · next hlong =>
        split
        · exact Nat.zero_le _
        · next hpos => exact ⟨Nat.pos_of_ne_zero hpos, Nat.le_of_not_lt hlong⟩
    · next hshort =>
      have hlen : kept.length < 4 := h
      have hne : kept.length ≠ 3 := fun h3 => by
        obtain ⟨a, b, c, rfl⟩ := List.length_eq_three.1 h3
        exact hshort a b c rfl
      simp only [Framer.bounded, List.length_append, List.length_singleton]
      omega
  · obtain ⟨hkept, hlength⟩ := h
    simp only
    split
    · next hmore => exact ⟨by simpa using hmore, hlength⟩
    · simp only [Framer.bounded, List.length_append, List.length_singleton]
      omega
  · split
    · exact h
    · trivial

/-! ## The line -/

theorem LineBounded.reset (rate : LinkRate) : LineBounded (LinkLine.reset rate) :=
  ⟨Nat.zero_le _, Nat.zero_le _, Nat.zero_le _, trivial⟩

theorem LineBounded.linkReset (s : State) : LineBounded s.linkReset.line := ⟨Nat.zero_le _, Nat.zero_le _, Nat.zero_le _, trivial⟩

theorem saturate16_le (n : Nat) : saturate16 n ≤ 65535 := Nat.min_le_right _ _

section
variable {s : State} (h : LineBounded s.line)
include h

theorem LineBounded.transmit : LineBounded s.transmit.line := by
  unfold State.transmit
  split
  · exact h
  · split
    · next hreplies =>
      refine ⟨?_, h.badFrames, h.overruns, h.framer⟩
      have hlen := h.replies
      rw [hreplies, List.length_cons] at hlen
      exact (Nat.le_succ _).trans hlen
    all_goals first
      | exact h
      | exact ⟨Nat.zero_le _, h.badFrames, h.overruns, h.framer⟩

/-- A reply is queued where the reply queue has room. -/
theorem LineBounded.takeValid {dispatch : State → State}
    (hdispatch : ∀ s : State, s.line.replies.length < replyCapacity → LineBounded s.line → LineBounded (dispatch s).line) :
    LineBounded (s.takeValid dispatch).line := by
  simp only [State.takeValid]
  split
  · exact h
  · split
    · exact ⟨h.replies, h.badFrames, saturate16_le _, h.framer⟩
    · next hroom => exact hdispatch _ (Nat.lt_of_not_le hroom) h

theorem LineBounded.queueReply (hroom : s.line.replies.length < replyCapacity) (r : Reply) : LineBounded (s.queueReply r).line := by
  refine ⟨?_, h.badFrames, h.overruns, h.framer⟩
  simpa [State.queueReply] using hroom

theorem LineBounded.answer (hroom : s.line.replies.length < replyCapacity) (tag : Byte) (x : Decision) :
    LineBounded (s.answer tag x).line :=
  LineBounded.queueReply (s := { s with desk := x.desk }) h hroom _

theorem LineBounded.badKind (tag : Byte) : LineBounded (s.badKind tag).line :=
  h.takeValid fun _ hroom hs => hs.answer hroom _ _

theorem LineBounded.takeFrame (kind tag : Byte) (payload : List Byte) : LineBounded (s.takeFrame kind tag payload).line := by
  unfold State.takeFrame
  split
  · exact h.badKind tag
  · split
    · refine h.takeValid fun s hroom hs => ?_
      have hcleared : LineBounded (s.onLine fun l => { l with badFrames := 0, overruns := 0 }).line :=
        ⟨hs.replies, Nat.zero_le _, Nat.zero_le _, hs.framer⟩
      exact hcleared.answer hroom _ _
    · split
      · refine h.takeValid fun s hroom hs => ?_
        have hqueued := hs.queueReply hroom ⟨tag, .ok, [], true⟩
        exact ⟨hqueued.replies, hqueued.badFrames, hqueued.overruns, hqueued.framer⟩
      · exact h.takeValid fun _ hroom hs => hs.answer hroom _ _

theorem LineBounded.setFramer {f : Framer} (hf : f.bounded) : LineBounded (s.line.setFramer f) :=
  ⟨h.replies, h.badFrames, h.overruns, hf⟩

theorem LineBounded.badFrame : LineBounded s.line.badFrame := ⟨h.replies, saturate16_le _, h.overruns, trivial⟩

theorem LineBounded.receive (b : Option Byte) : LineBounded (s.receive b).line := by
  have hset : LineBounded (s.onLine fun l => l.setFramer (s.line.framer.take b).1).line := h.setFramer (h.framer.take b)
  simp only [State.receive]
  split
  · exact hset
  · exact hset.badFrame
  · exact hset.takeFrame _ _ _

theorem LineBounded.livenessExpiry : LineBounded s.livenessExpiry.line := by
  have hlost : LineBounded ((s.onDesk Desk.linkLost).onLine fun l => { l with replies := [] }).line :=
    ⟨Nat.zero_le _, h.badFrames, h.overruns, h.framer⟩
  simp only [State.livenessExpiry]
  split
  · exact h
  · split
    · exact LineBounded.linkReset _
    · exact hlost

theorem LineBounded.frameSent : LineBounded s.frameSent.line := by
  have hfree : LineBounded (s.onLine fun l => { l with transmitting := none }).line :=
    ⟨h.replies, h.badFrames, h.overruns, h.framer⟩
  simp only [State.frameSent]
  split
  · split
    · exact LineBounded.linkReset _
    · exact hfree
  · exact hfree
  · exact hfree

end

theorem kept_lineBounded : State.KeptBySteps fun s => LineBounded s.line where
  desk _ h := h
  takeFrame _ _ _ h := h.takeFrame _ _ _
  badKind _ h := h.badKind _
  badFrame h := h.badFrame
  gapExpiry {s} h := by
    rw [State.onLine_line, LinkLine.gapExpiry]
    split
    · exact h
    · exact h.setFramer trivial
  receive _ h := h.receive _
  livenessExpiry h := h.livenessExpiry
  frameSent h := h.frameSent
  linkReset _ := .linkReset _
  transmit h := h.transmit
  second h := h
  tick _ h := h
  powerFail {s} h := by
    unfold State.powerFail
    split
    · exact .reset _
    · exact h
  batteryFall {s} h := by
    unfold State.batteryFall
    split <;> exact h
  warmStart {s} x _ := by
    unfold State.warmStart
    split <;> exact .reset _
  coldStart x _ := .reset _
  pending _ h := h

end Sys2Proof.Machine

namespace Sys2Proof.Proofs
open Sys2Proof.Machine

/-- Settles O54: every write of a table or of the notice pending set puts, erases or filters by its key. -/
theorem stepKeepsTablesSorted : Obligations.StepKeepsTablesSorted := by
  unfold Obligations.StepKeepsTablesSorted
  exact ⟨fun s t h => kept_tablesSorted.step h, fun s t h => kept_noticesSorted.step h⟩

/-- Settles O55: records join at the newest end where a place is free, and leave at the oldest. -/
theorem stepKeepsJournalCoherent : Obligations.StepKeepsJournalCoherent := by
  unfold Obligations.StepKeepsJournalCoherent
  exact fun s t h => kept_journalCoherent.step h

/-- Settles O56: every change of a pending set, of the masks or of the precedence list redoes the selection. -/
theorem stepKeepsHighestPromptShown : Obligations.StepKeepsHighestPromptShown := by
  unfold Obligations.StepKeepsHighestPromptShown
  intro s t h hstep
  rw [Desk.promptsRight_iff] at h ⊢
  exact kept_promptsRight.step h hstep

/-- Settles O58: each part's writes keep its own ranges. -/
theorem stepKeepsRanges : Obligations.StepKeepsRanges := by
  unfold Obligations.StepKeepsRanges
  refine ⟨fun s t hline hscan halarms hstep => ?_, fun s t h hstep => ?_⟩
  · exact ⟨kept_lineBounded.step hline hstep, kept_scansBounded.step hscan hstep, kept_alarmsBounded.step halarms hstep⟩
  · rw [Desk.ranged_iff] at h ⊢
    exact kept_partsRanged.step h hstep

/-- Settles O59: an entry is listed where the list has room and does not hold its code, a job is queued where the queue has room, and
a slip is deferred at a station that has none and serves nobody. -/
theorem stepKeepsCapacities : Obligations.StepKeepsCapacities := by
  unfold Obligations.StepKeepsCapacities
  intro s t h hstep
  rw [Desk.withinCapacities_iff] at h ⊢
  exact kept_partsWithin.step h hstep

/-- Settles O60: over a coherent journal the Upload Engine's operations keep its bounds. -/
theorem stepKeepsUploadBounds : Obligations.StepKeepsUploadBounds := by
  unfold Obligations.StepKeepsUploadBounds
  intro s t hjournal h hstep
  rw [Desk.uploadBounded_iff] at h ⊢
  exact (kept_uploadCoherent.step ⟨hjournal, h⟩ hstep).2

end Sys2Proof.Proofs
end

section
/-! PROOF. The agreement of the desk mode and the station states (R77, R78). An operation may end the last session of a CLOSING desk;
the test of R78 then closes the desk. So the operations that change the mode or a state keep the agreement as a whole. -/

namespace Sys2Proof.Machine

/-! ## Properties of the mode and of the states that serve -/

/-- Whether each station serves. -/
def Desk.servingAt (d : Desk) (st : StationId) : Bool := (d.context st).serving

theorem Desk.anyServing_eq_any (d : Desk) : d.anyServing = StationId.list.any d.servingAt := rfl

theorem Desk.anyServing_eq_false_iff {d : Desk} : d.anyServing = false ↔ ∀ st, d.servingAt st = false := by
  rw [anyServing_eq_any, List.any_eq_false]
  exact ⟨fun h st => Bool.eq_false_iff.2 (h st (by cases st <;> decide)), fun h st _ => by simp [h st]⟩

theorem Desk.anyServing_of_context {d : Desk} {st : StationId} (h : (d.context st).serving = true) : d.anyServing = true :=
  Bool.not_eq_false _ ▸ fun hnone => Bool.false_ne_true ((anyServing_eq_false_iff.1 hnone st).symm.trans h)

theorem kept_modeAndServing (R : DeskMode → (StationId → Bool) → Prop) : Desk.KeptByUpload fun d => R d.mode d.servingAt := by
  have hplain : Desk.KeptByWrites fun d => R d.mode d.servingAt :=
    { station := fun {d st f} hf h => by
        have hsame : (d.onStation st f).servingAt = d.servingAt := by
          funext o
          simp only [Desk.servingAt, Desk.context, Desk.onStation_stations, PerStation.get_set]
          split
          · next ho => rw [hf, ho]
          · rfl
        rw [hsame]
        exact h
      session := fun {d st f} _ h => by
        have hsame : (d.onSession st f).servingAt = d.servingAt := by
          funext o
          simp only [Desk.servingAt, Desk.context, Desk.onSession, Desk.onStation_stations, PerStation.get_set]
          split
          · next ho =>
            subst ho
            split
            · next hx => rw [hx]; rfl
            · rfl
          · rfl
        rw [hsame]
        exact h }
  exact hplain.keptByUpload (fun _ h => h) (fun _ h => h) (fun _ _ h => h)

/-- A mode that only the mode's own changes leave. -/
theorem kept_mode (Q : DeskMode → Prop) : Desk.KeptByContexts fun d => Q d.mode where

/-! ## The agreement -/

/-- What `Desk.ModeAgrees` says, by the parts of the desk that it reads. -/
def ServesAsMode (m : DeskMode) (serves : StationId → Bool) : Prop :=
  (m = .closed → StationId.list.any serves = false) ∧ (m = .closing → StationId.list.any serves = true)

theorem Desk.modeAgrees_iff (d : Desk) : d.ModeAgrees ↔ ServesAsMode d.mode d.servingAt :=
  ⟨fun h => ⟨h.closed, h.closing⟩, fun h => ⟨h.1, h.2⟩⟩

/-- The desk is CLOSED, and no station serves. -/
def ClosedAndEmpty (m : DeskMode) (serves : StationId → Bool) : Prop := m = .closed ∧ ∀ st, serves st = false

theorem ClosedAndEmpty.servesAsMode {m : DeskMode} {serves : StationId → Bool} (h : ClosedAndEmpty m serves) :
    ServesAsMode m serves := by
  obtain ⟨rfl, hnone⟩ := h
  exact ⟨fun _ => List.any_eq_false.2 fun st _ => by simp [hnone st], by rintro ⟨⟩⟩

/-- A desk that no station's state makes CLOSED agrees with its states. -/
theorem Desk.servesAsMode_of_opened {d : Desk} (h : d.mode = .opened) : ServesAsMode d.mode d.servingAt := by
  rw [h]
  exact ⟨by rintro ⟨⟩, by rintro ⟨⟩⟩

theorem Desk.not_closed_of_serving {d : Desk} (h : ServesAsMode d.mode d.servingAt) {st : StationId}
    (hst : (d.context st).serving = true) : d.mode ≠ .closed := fun hclosed =>
  Bool.false_ne_true ((h.1 hclosed).symm.trans (anyServing_of_context hst))

theorem Desk.becomeClosed_empty {d : Desk} (h : d.anyServing = false) :
    ClosedAndEmpty d.becomeClosed.mode d.becomeClosed.servingAt := by
  have hkept := kept_modeAndServing ClosedAndEmpty
  have hclosed : ClosedAndEmpty ({ d with mode := .closed, closingTimer := none } : Desk).mode
      ({ d with mode := .closed, closingTimer := none } : Desk).servingAt := ⟨rfl, anyServing_eq_false_iff.1 h⟩
  exact hkept.tryWaitingUpload (hkept.applyPendingMark (hkept.appendPlain _ _ hclosed))

/-- Once the closing has been tested, a desk that is not CLOSED agrees, and a CLOSED one as it did before. -/
theorem Desk.testClosing_servesAsMode {d : Desk} (h : d.mode = .closed → d.anyServing = false) :
    ServesAsMode d.testClosing.mode d.testClosing.servingAt := by
  unfold testClosing
  split
  · next htest =>
    simp only [Bool.and_eq_true, Bool.not_eq_true', beq_iff_eq] at htest
    exact (becomeClosed_empty htest.2).servesAsMode
  · next htest => exact ⟨h, fun hclosing => by
      rw [← Desk.anyServing_eq_any]
      simpa [hclosing] using htest⟩

theorem Desk.setContext_mode (d : Desk) (st : StationId) (c : Context) : (d.setContext st c).mode = d.mode := by simp

theorem Desk.setContext_servesAsMode {d : Desk} {st : StationId} {c : Context} (hc : c.serving = false)
    (hst : (d.context st).serving = false) (h : ServesAsMode d.mode d.servingAt) :
    ServesAsMode (d.setContext st c).mode (d.setContext st c).servingAt := by
  have hsame : (d.setContext st c).servingAt = d.servingAt := by
    funext o
    rw [servingAt, setContext_context]
    split
    · next ho => rw [ho, hc, servingAt, hst]
    · rfl
  rwa [setContext_mode, hsame]

/-! ## Every station stops (R77, R78) -/

theorem Desk.handOver_context (d : Desk) (j : SlipJob) (o : StationId) : (d.handOver j).context o = d.context o :=
  context_of_stations (by simp) o

theorem Desk.endSession_context (d : Desk) (st o : StationId) (x : Session) (next : Context) :
    (d.endSession st x next).context o = if o = st then next else d.context o := by
  have htold (d' : Desk) (hd : d'.stations = d.stations) (p : Prompt) :
      ((d'.post st p).setContext st next).context o = if o = st then next else d.context o := by
    rw [setContext_context, context_of_stations (a := d) (by simpa using hd)]
  simp only [endSession]
  split
  · rw [handOver_context]
    exact htold _ (by simp) _
  · exact htold _ rfl _

theorem Desk.leaveLookup_context (d : Desk) (st o : StationId) (next : Context) :
    (d.leaveLookup st next).context o = if o = st then next else d.context o := by
  rw [leaveLookup, setContext_context]
  rfl

/-- A station that is made to stop serves no more, and no other station's state changes. -/
theorem Desk.stopStation_servingAt {next : Context} (hnext : next.serving = false) (d : Desk) (st o : StationId) :
    (d.stopStation next st).servingAt o = (d.servingAt o && o != st) := by
  unfold stopStation servingAt
  split
  · rw [endSession_context]
    split <;> simp_all
  · rw [leaveLookup_context]
    split <;> simp_all
  · next hopen hlookup =>
    by_cases ho : o = st
    · subst ho
      have hidle : (d.context o).serving = false := by
        cases hc : d.context o with
        | opened x => exact absurd hc (hopen x)
        | lookup r => exact absurd hc (hlookup r)
        | _ => rfl
      simp [hidle]
    · simp [ho]

theorem Desk.stopAll_anyServing (d : Desk) : (d.eachStation fun d st => d.stopStation .idle st).anyServing = false := by
  refine anyServing_eq_false_iff.2 fun o => ?_
  simp only [eachStation, StationId.list, List.foldl_cons, List.foldl_nil, stopStation_servingAt (next := .idle) rfl]
  cases o <;> simp

/-! ## What a station takes (R78, R84, R99) -/

section
variable {d : Desk} (h : ServesAsMode d.mode d.servingAt)
include h

/-- A card opens a session, or begins a lookup, only at an OPEN desk (R84). -/
theorem Desk.takeBorrower_servesAsMode (st : StationId) (card : Code) (category : Nat) :
    ServesAsMode (d.takeBorrower st card category).mode (d.takeBorrower st card category).servingAt := by
  by_cases hopen : d.mode = .opened
  · exact servesAsMode_of_opened ((kept_mode (· = .opened)).takeBorrower st card category hopen)
  · have hpost := (kept_modeAndServing ServesAsMode).post st .deskClosed h
    simpa [takeBorrower, hopen] using hpost

theorem Desk.closeSession_servesAsMode (st : StationId) : ServesAsMode (d.closeSession st).mode (d.closeSession st).servingAt := by
  unfold closeSession
  split
  · next x hx =>
    have hmode := not_closed_of_serving h (st := st) (by rw [hx]; rfl)
    exact testClosing_servesAsMode fun hclosed => absurd hclosed (by simpa using hmode)
  · exact h

end

theorem kept_servesAsMode_queues : Desk.KeptByQueues fun d => ServesAsMode d.mode d.servingAt where
  toKeptByUpload := kept_modeAndServing ServesAsMode
  takeBorrower st card category h := Desk.takeBorrower_servesAsMode h st card category
  closeSession st h := Desk.closeSession_servesAsMode h st

/-! ## Lookups end (R78, R85) -/

/-- The property that the test of R78 turns into the agreement. -/
def Desk.ClosedServesNone (d : Desk) : Prop := d.mode = .closed → d.anyServing = false

theorem Desk.ClosedServesNone.afterLookup {d : Desk} (h : d.ClosedServesNone) (st : StationId) :
    ServesAsMode (d.afterLookup st).mode (d.afterLookup st).servingAt :=
  kept_servesAsMode_queues.drain st (testClosing_servesAsMode h)

theorem Desk.closedServesNone_of_not_closed {d : Desk} (h : d.mode ≠ .closed) : d.ClosedServesNone := fun hclosed => absurd hclosed h

theorem kept_notClosed : Desk.KeptByContexts fun d => d.mode ≠ .closed := kept_mode (· ≠ .closed)

section
variable {d : Desk} (h : ServesAsMode d.mode d.servingAt)

theorem Desk.afterLookup_of_not_closed (st : StationId) (hmode : d.mode ≠ .closed) :
    ServesAsMode (d.afterLookup st).mode (d.afterLookup st).servingAt :=
  (closedServesNone_of_not_closed hmode).afterLookup st

include h

theorem Desk.not_closed_of_lookup {st : StationId} {r : Lookup} (hst : d.context st = .lookup r) : d.mode ≠ .closed :=
  not_closed_of_serving h (st := st) (by rw [hst]; rfl)

theorem Desk.lookupExpiry_servesAsMode (st : StationId) : ServesAsMode (d.lookupExpiry st).mode (d.lookupExpiry st).servingAt := by
  unfold lookupExpiry
  split
  · next hst => exact afterLookup_of_not_closed st (kept_notClosed.lookupTimesOut hst (not_closed_of_lookup h hst))
  · exact h

theorem Desk.replyInTime_servesAsMode {st : StationId} {r : Lookup} (hst : d.context st = .lookup r) (b : Borrower) :
    ServesAsMode (d.replyInTime st b).desk.mode (d.replyInTime st b).desk.servingAt := by
  have hmode := not_closed_of_lookup h hst
  unfold replyInTime
  split
  · refine afterLookup_of_not_closed st ?_
    simpa [leaveLookup, dropLookup, refuse] using hmode
  · refine afterLookup_of_not_closed st (kept_notClosed.openFromLookup (r := r) ?_ _ ?_)
    · rwa [context_of_stations (a := d) (by simp)]
    · simpa using hmode

theorem Desk.lookupReply_servesAsMode (bs : List Byte) : ServesAsMode (d.lookupReply bs).desk.mode (d.lookupReply bs).desk.servingAt := by
  have hkept := (kept_modeAndServing ServesAsMode).toKeptByWrites
  unfold lookupReply
  split
  · unfold lookupFound
    split
    · next hb =>
      split
      · next hst =>
        obtain ⟨r, hr, -⟩ := lookingFor_context hst
        exact replyInTime_servesAsMode h hr _
      · exact hkept.replyLate (borrowerOf_ranged hb) h
    · exact h
  · unfold lookupNotFound
    split
    · split
      · next hst =>
        obtain ⟨r, hr, -⟩ := lookingFor_context hst
        refine afterLookup_of_not_closed _ ?_
        simpa [leaveLookup, dropLookup] using not_closed_of_lookup h hr
      · exact hkept.notFoundLate _ h
    · exact h
  · exact h

end

/-- No lookup is in progress at a CLOSED desk that serves nobody, so that its end finds the desk not CLOSED. -/
theorem Desk.endAllLookups_servesAsMode {d : Desk} (h : d.ClosedServesNone) :
    ServesAsMode d.endAllLookups.mode d.endAllLookups.servingAt := by
  refine eachStation_induct (P := fun d => ServesAsMode d.mode d.servingAt) (fun _ st hd => kept_servesAsMode_queues.drain st hd)
    (testClosing_servesAsMode (eachStation_induct (P := ClosedServesNone) (fun d st hd => ?_) h))
  split
  · next hst =>
    have hmode : d.mode ≠ .closed := fun hclosed =>
      Bool.false_ne_true ((hd hclosed).symm.trans (anyServing_of_context (by rw [hst]; rfl)))
    exact closedServesNone_of_not_closed (kept_notClosed.lookupTimesOut hst hmode)
  · exact hd

/-! ## The desk mode and station enabled (R77, R78, R80) -/

theorem Desk.forceClose_servesAsMode (d : Desk) : ServesAsMode d.forceClose.mode d.forceClose.servingAt :=
  eachStation_induct (P := fun d => ServesAsMode d.mode d.servingAt) (fun _ st hd => kept_servesAsMode_queues.drain st hd)
    (becomeClosed_empty d.stopAll_anyServing).servesAsMode

theorem Desk.beginClosing_servesAsMode (d : Desk) : ServesAsMode d.beginClosing.mode d.beginClosing.servingAt := by
  simp only [beginClosing]
  split
  · exact forceClose_servesAsMode _
  · exact testClosing_servesAsMode fun hclosed => absurd hclosed (by simp)

section
variable {d : Desk} (h : ServesAsMode d.mode d.servingAt)
include h

theorem Desk.closeDesk_servesAsMode : ServesAsMode d.closeDesk.mode d.closeDesk.servingAt := by
  unfold closeDesk
  split
  · exact h
  · exact d.beginClosing_servesAsMode
  · exact d.forceClose_servesAsMode

theorem Desk.graceExpiry_servesAsMode : ServesAsMode d.graceExpiry.mode d.graceExpiry.servingAt := by
  unfold graceExpiry
  split
  · exact d.forceClose_servesAsMode
  · exact h

theorem Desk.openDesk_servesAsMode : ServesAsMode d.openDesk.mode d.openDesk.servingAt := by
  unfold openDesk
  split
  · exact h
  · exact servesAsMode_of_opened (by simp)

theorem Desk.disableStation_servesAsMode (st : StationId) :
    ServesAsMode (d.disableStation st).mode (d.disableStation st).servingAt := by
  refine testClosing_servesAsMode ?_
  split
  · next x hx =>
    have hmode := not_closed_of_serving h (st := st) (by rw [hx]; rfl)
    exact fun hclosed => absurd hclosed (by simpa using hmode)
  · next r hr => exact fun hclosed => absurd hclosed (by simpa [leaveLookup, dropLookup] using not_closed_of_lookup h hr)
  · next hopen hlookup =>
    have hidle : (d.context st).serving = false := by
      cases hc : d.context st with
      | opened x => exact absurd hc (hopen x)
      | lookup r => exact absurd hc (hlookup r)
      | _ => rfl
    exact (setContext_servesAsMode rfl hidle h).1

theorem Desk.setEnabled_servesAsMode (st : StationId) (on : Bool) :
    ServesAsMode (d.setEnabled st on).mode (d.setEnabled st on).servingAt := by
  simp only [setEnabled]
  split
  · exact h
  · split
    · split
      · next hdisabled =>
        refine setContext_servesAsMode rfl ?_ h
        generalize Desk.context _ st = c at hdisabled ⊢
        cases c with
        | disabled => rfl
        | _ => simp [Context.isDisabled] at hdisabled
      · exact h
    · exact disableStation_servesAsMode (d := d.onStationSettings st _) h st

/-! ## The link and the restarts (R190, R195, R196) -/

theorem Desk.linkLost_servesAsMode : ServesAsMode d.linkLost.mode d.linkLost.servingAt :=
  (kept_modeAndServing ServesAsMode).uploadLinkLost (endAllLookups_servesAsMode h.1)

end

theorem Desk.restartEngine_servesAsMode (d : Desk) : ServesAsMode d.restartEngine.mode d.restartEngine.servingAt := by
  refine ClosedAndEmpty.servesAsMode ⟨rfl, fun st => ?_⟩
  have hrestart (on : Bool) : (EngineStation.restart on).context.serving = false := by cases on <;> rfl
  cases st <;> exact hrestart _

theorem Desk.linkReset_servesAsMode (d : Desk) : ServesAsMode d.linkReset.mode d.linkReset.servingAt := by
  have hkept := kept_modeAndServing ServesAsMode
  exact hkept.reportSync (hkept.appendPlain _ _ (hkept.restartUpload (by simp [restartEngine])
    (hkept.restartSlips _ (restartEngine_servesAsMode _))))

theorem Desk.loseVolatile_servesAsMode (d : Desk) : ServesAsMode d.loseVolatile.mode d.loseVolatile.servingAt := by
  have hkept := kept_modeAndServing ServesAsMode
  exact hkept.restartUpload (by simp [restartEngine]) (hkept.restartSlips _ (restartEngine_servesAsMode _))

theorem Desk.warmStart_servesAsMode (d : Desk) : ServesAsMode d.warmStart.mode d.warmStart.servingAt := by
  have hkept := kept_modeAndServing ServesAsMode
  exact hkept.reportSync (hkept.applyPendingMark (hkept.appendPlain _ _ (hkept.evaluateJournal (hkept.raiseAlarm _
    d.loseVolatile_servesAsMode))))

theorem reset_servesAsMode : ServesAsMode Desk.reset.mode Desk.reset.servingAt := by
  refine ClosedAndEmpty.servesAsMode ⟨rfl, fun st => ?_⟩
  cases st <;> rfl

/-! ## Every step -/

theorem kept_servesAsMode : Desk.KeptByEngine fun d => ServesAsMode d.mode d.servingAt where
  toKeptByQueues := kept_servesAsMode_queues
  lookupExpiry st h := Desk.lookupExpiry_servesAsMode h st
  lookupReply bs h := Desk.lookupReply_servesAsMode h bs
  openDesk h := Desk.openDesk_servesAsMode h
  closeDesk h := Desk.closeDesk_servesAsMode h
  graceExpiry h := Desk.graceExpiry_servesAsMode h
  setEnabled st on h := Desk.setEnabled_servesAsMode h st on
  linkLost h := Desk.linkLost_servesAsMode h
  linkReset {d} _ := d.linkReset_servesAsMode
  loseVolatile {d} _ := d.loseVolatile_servesAsMode
  warmStart {d} _ := d.warmStart_servesAsMode
  coldStart _ := reset_servesAsMode

end Sys2Proof.Machine

namespace Sys2Proof.Proofs
open Sys2Proof.Machine

/-- Settles O57: an operation that ends the last session of a CLOSING desk tests the closing, and a CLOSED desk opens none. -/
theorem stepKeepsModeAgreement : Obligations.StepKeepsModeAgreement := by
  unfold Obligations.StepKeepsModeAgreement
  intro s t h hstep
  rw [Desk.modeAgrees_iff] at h ⊢
  exact kept_servesAsMode.step h hstep

/-- Settles O53: each invariant's own lemma about the reset state, and the bounds of an empty upload. -/
theorem resetHoldsTheInvariants : Obligations.ResetHoldsTheInvariants := by
  unfold Obligations.ResetHoldsTheInvariants
  exact ⟨reset_tables_sorted, reset_notices_sorted, reset_journal_coherent, (Desk.promptsRight_iff _).2 (kept_promptsRight.coldStart 0),
    (Desk.modeAgrees_iff _).2 reset_servesAsMode, .reset _, kept_scansBounded.coldStart 0, reset_alarms_bounded,
    (Desk.ranged_iff _).2 reset_partsRanged, (Desk.withinCapacities_iff _).2 reset_partsWithin,
    (Desk.uploadBounded_iff _).2 reset_uploadCoherent.2⟩

end Sys2Proof.Proofs
end

section
/-! PROOF. The queue and the whole machine, and scan acceptance (R1 to R18): the wand receiver, pairing and suppression, the check
of a code, and the scan queue. -/

namespace Sys2Proof.Machine

/-! ## Commands with power and without -/

theorem exec_on {c : Instr} {f : Desk → Desk} (h : deskEffect c = some f) {s : State} (hp : s.desk.power.on = true) :
    exec c s = .next (s.afterDesk (f s.desk)) := by
  rw [exec_deskEffect h, State.poweredDesk_on _ _ hp]

theorem exec_off {c : Instr} (hc : c.actsUnpowered = false) {s : State} (hp : s.desk.power.on = false) : exec c s = .next s := by
  cases hdesk : deskEffect c with
  | some f => rw [exec_deskEffect hdesk, State.poweredDesk_off _ _ hp]
  | none =>
    cases hframe : requestFrame 0 (List.replicate 7 0) c with
    | some f => rw [exec_requestFrame hframe, State.powered_off _ _ hp]
    | none =>
      have hoff (f : State → State) : s.powered f = s := State.powered_off _ _ hp
      have hfail : s.powerFail = s := by simp [State.powerFail, hp]
      cases reachesPart_of_none hdesk hframe with
      | secondComplete | batteryGoodFall | warmStart | coldStart => cases hc
      | mainPowerFail => exact congrArg _ hfail
      | linkReset | badKindFrame | linkBadFrame | receiveGapExpiry | livenessExpiry | frameSent | linkByteReceived =>
        exact congrArg _ (hoff _)

theorem exists_exec (c : Instr) (s : State) : ∃ t, exec c s = .next t := by
  cases hdesk : deskEffect c with
  | some f => exact ⟨_, exec_deskEffect hdesk s⟩
  | none =>
    cases hframe : requestFrame 0 (List.replicate 7 0) c with
    | some f => exact ⟨_, exec_requestFrame hframe s⟩
    | none => cases reachesPart_of_none hdesk hframe <;> exact ⟨_, rfl⟩

/-! ## Commands leave the queue -/

theorem State.takeValid_pending {s : State} {f : State → State} (hf : ∀ s : State, (f s).pending = s.pending) :
    (s.takeValid f).pending = s.pending := by
  simp only [takeValid]
  split
  · rfl
  · split
    · rfl
    · exact hf _

theorem State.badKind_pending (s : State) (tag : Byte) : (s.badKind tag).pending = s.pending := takeValid_pending fun _ => rfl

theorem State.takeFrame_pending (s : State) (kind tag : Byte) (payload : List Byte) :
    (s.takeFrame kind tag payload).pending = s.pending := by
  unfold takeFrame
  split
  · exact s.badKind_pending tag
  · split
    · exact takeValid_pending fun _ => rfl
    · split <;> exact takeValid_pending fun _ => rfl

theorem State.linkReset_pending (s : State) : s.linkReset.pending = s.pending := rfl

theorem kept_pending (l : List Instr) : State.KeptByCommands fun s => s.pending = l where
  desk _ h := h
  takeFrame _ _ _ h := (State.takeFrame_pending ..).trans h
  badKind _ h := (State.badKind_pending ..).trans h
  badFrame h := h
  gapExpiry h := h
  receive {s} b h := by
    simp only [State.receive]
    split
    · exact h
    · exact h
    · exact (State.takeFrame_pending ..).trans h
  livenessExpiry {s} h := by
    simp only [State.livenessExpiry]
    split
    · exact h
    · generalize hlost : (s.onDesk Desk.linkLost).onLine _ = lost
      have hkept : lost.pending = l := by
        rw [← hlost, State.onLine_pending, State.onDesk_pending]
        exact h
      split
      · rwa [State.linkReset_pending]
      · exact hkept
  frameSent {s} h := by
    simp only [State.frameSent]
    split
    · split
      · exact (State.linkReset_pending _).trans h
      · exact h
    · exact h
    · exact h
  linkReset h := h
  transmit h := (State.transmit_pending _).trans h
  second h := h
  tick _ h := h
  powerFail {s} h := by
    unfold State.powerFail
    split <;> exact h
  batteryFall {s} h := by
    unfold State.batteryFall
    split <;> exact h
  warmStart {s} x h := by
    unfold State.warmStart
    split <;> exact h
  coldStart _ h := h

/-! ## An idle step (R20) -/

theorem step_idle {s : State} (h : s.pending = []) : step s = .next s.cycle := by
  unfold step
  rw [h]

theorem State.cycle_dead {s : State} (hp : s.desk.power.on = false) (hb : s.desk.power.batteryFell = true) : s.cycle = s := by
  simp [cycle, hp, hb]

theorem State.cycle_tick {s : State} (hp : s.desk.power.on = true ∨ s.desk.power.batteryFell = false)
    (ht : s.desk.clock.prescaler + 1 < 32768) :
    s.cycle = s.onDesk fun d => { d with clock := { d.clock with prescaler := d.clock.prescaler + 1 } } := by
  have hlive : (!s.desk.power.on && s.desk.power.batteryFell) = false := by
    rcases hp with hp | hp <;> simp [hp]
  simp [cycle, hlive, ht]

theorem State.cycle_second {s : State} (hp : s.desk.power.on = true ∨ s.desk.power.batteryFell = false)
    (ht : 32768 ≤ s.desk.clock.prescaler + 1) : s.cycle = s.second := by
  have hlive : (!s.desk.power.on && s.desk.power.batteryFell) = false := by
    rcases hp with hp | hp <;> simp [hp]
  simp [cycle, hlive, Nat.not_lt.2 ht]

/-! ## The wand receiver (R1) -/

theorem Desk.onScan_get (d : Desk) (st : StationId) : (d.onScan st fun _ => d.scan.get st) = d := by
  simp [onScan]

theorem Context.isDisabled_iff {c : Context} : c.isDisabled = true ↔ c = .disabled := by
  cases c <;> simp [isDisabled]

theorem Desk.wandCharacter_disabled {d : Desk} {st : StationId} (h : d.context st = .disabled) (c : Option Byte) :
    d.wandCharacter st c = d := by
  simp [wandCharacter, h, Context.isDisabled]

theorem Desk.wandCharacter_none {d : Desk} {st : StationId} (h : d.context st ≠ .disabled) {c : Option Byte}
    {f : ScanStation → ScanStation} (hc : (d.scan.get st).character c = (f (d.scan.get st), none)) :
    d.wandCharacter st c = d.onScan st f := by
  have hd : (d.context st).isDisabled = false := Bool.eq_false_iff.2 fun hd => h (Context.isDisabled_iff.1 hd)
  simp only [wandCharacter, hd, hc]
  rfl

theorem Desk.wandCharacter_read {d : Desk} {st : StationId} (h : d.context st ≠ .disabled) {c : Option Byte} {code : Code}
    {f : ScanStation → ScanStation} (hc : (d.scan.get st).character c = (f (d.scan.get st), some code)) :
    d.wandCharacter st c = (d.onScan st f).takeRead st code := by
  have hd : (d.context st).isDisabled = false := Bool.eq_false_iff.2 fun hd => h (Context.isDisabled_iff.1 hd)
  simp only [wandCharacter, hd, hc]
  rfl

section
variable {x : ScanStation} {digits : Code}

theorem ScanStation.character_hunting_start (h : x.wand = .hunting) : x.character (some 0x02) = (x.openFrame, none) := by
  simp [character, h]

theorem ScanStation.character_hunting_other (h : x.wand = .hunting) {c : Option Byte} (hc : c ≠ some 0x02) :
    x.character c = (x, none) := by
  unfold character
  rw [h]
  exact if_neg hc

theorem ScanStation.character_inFrame (h : x.wand = .inFrame digits) (c : Option Byte) :
    x.character c = x.frameCharacter digits c := by
  unfold character
  rw [h]

theorem digitChar_digit (n : Digit) : digitChar (BitVec.ofNat 8 (0x30 + n.val)) = some n := by
  have hn : (BitVec.ofNat 8 (0x30 + n.val)).toNat = 0x30 + n.val := by
    rw [BitVec.toNat_ofNat]
    omega
  simp [digitChar, hn, digitOf]

theorem digit_ne_control (n : Digit) : BitVec.ofNat 8 (0x30 + n.val) ≠ (0x02 : Byte) ∧ BitVec.ofNat 8 (0x30 + n.val) ≠ (0x0d : Byte) := by
  constructor <;> bv_omega

theorem digitChar_eq_none {b : Byte} (h : b.toNat < 0x30 ∨ 0x39 < b.toNat) : digitChar b = none := by
  unfold digitChar digitOf
  split
  · exact dif_neg (by omega)
  · rfl

theorem ScanStation.frameCharacter_digit (x : ScanStation) (digits : Code) (n : Digit) :
    x.frameCharacter digits (some (BitVec.ofNat 8 (0x30 + n.val))) =
      if digits.length ≤ 15 then ({ x with wand := .inFrame (digits ++ [n]), gapTimer := some 20 }, none) else (x.readError, none) := by
  obtain ⟨hstart, hend⟩ := digit_ne_control n
  simp only [frameCharacter, digitChar_digit, if_neg hstart, if_neg hend]
  rfl

theorem ScanStation.frameCharacter_end (x : ScanStation) (digits : Code) :
    x.frameCharacter digits (some 0x0d) =
      if 6 ≤ digits.length then ({ x with wand := .hunting, gapTimer := none }, some digits) else (x.readError, none) := rfl

theorem ScanStation.frameCharacter_foreign (x : ScanStation) (digits : Code) {c : Option Byte} (hc : isForeign c) :
    x.frameCharacter digits c = (x.readError, none) := by
  rcases hc with rfl | ⟨b, rfl, hstart, hend, hdigit⟩
  · rfl
  · simp only [frameCharacter, digitChar_eq_none hdigit, if_neg hstart, if_neg hend]

end

/-! ## Pairing and suppression (R5, R8) -/

section
variable {x : ScanStation} {required window n : Nat} {c k : Code}

theorem ScanStation.pair_first (h : x.candidate = none) : x.pair required window c =
    if required ≤ 1 then (x, true) else ({ x with candidate := some ⟨c, 1⟩, pairingTimer := some window }, false) := by
  unfold pair
  rw [h]
  rfl

theorem ScanStation.pair_other (h : x.candidate = some ⟨k, n⟩) (hk : k ≠ c) : x.pair required window c =
    ({ x with candidate := some ⟨c, 1⟩, pairingTimer := some window }, false) := by
  unfold pair
  rw [h]
  exact if_neg hk

theorem ScanStation.pair_again (h : x.candidate = some ⟨c, n⟩) : x.pair required window c =
    if required ≤ n + 1 then ({ x with candidate := none, pairingTimer := none }, true)
    else ({ x with candidate := some ⟨c, n + 1⟩ }, false) := by
  unfold pair
  rw [h]
  exact if_pos rfl

end

theorem ScanStation.suppresses_iff (x : ScanStation) (c : Code) :
    x.suppresses c = true ↔ x.suppression = some c ∧ x.suppressionTimer ≠ none := by
  simp [suppresses, Option.isSome_iff_ne_none]

theorem Desk.takeRead_held {d : Desk} {st : StationId} {c : Code} {f : ScanStation → ScanStation}
    (h : (d.scan.get st).pair (d.stationSettings.get st).readsRequired (d.stationSettings.get st).pairingWindow c =
      (f (d.scan.get st), false)) : d.takeRead st c = d.onScan st f := by
  simp only [takeRead, h]
  rfl

/-- A code that is read-accepted is classified, unless the suppression stage drops it. -/
theorem Desk.takeRead_accepted {d : Desk} {st : StationId} {c : Code} {f : ScanStation → ScanStation}
    (h : (d.scan.get st).pair (d.stationSettings.get st).readsRequired (d.stationSettings.get st).pairingWindow c =
      (f (d.scan.get st), true)) (hmemory : (f (d.scan.get st)).suppression = (d.scan.get st).suppression)
    (htimer : (f (d.scan.get st)).suppressionTimer = (d.scan.get st).suppressionTimer) :
    d.takeRead st c = if (d.scan.get st).suppression = some c ∧ (d.scan.get st).suppressionTimer ≠ none then d.onScan st f
      else (d.onScan st f).classifyRead st c := by
  have hsame : (f (d.scan.get st)).suppresses c = (d.scan.get st).suppresses c := by
    simp only [ScanStation.suppresses, hmemory, htimer]
  simp only [takeRead, h, hsame, Bool.true_and, ← ScanStation.suppresses_iff]
  by_cases hs : (d.scan.get st).suppresses c = true
  · simp only [hs]; rfl
  · simp only [hs]; rfl

/-! ## The check of a code (R14, R15) -/

theorem weightedSum_eq (l : List Digit) : weightedSum l = (l.mapIdx fun i x => weightAt i * x.val).sum := by
  match l with
  | [] => rfl
  | [a] => simp [weightedSum, weightAt]
  | a :: b :: rest =>
    have hrest := weightedSum_eq rest
    simp [weightedSum, List.mapIdx_cons, hrest, weightAt, Nat.add_assoc]

theorem passesWeighted10_append (body : Code) (check : Digit) : passesWeighted10 (body ++ [check]) = true ↔
    check.val = (10 - ((body.reverse.mapIdx fun i x => weightAt i * x.val).sum) % 10) % 10 := by
  simp [passesWeighted10, weightedSum_eq]

theorem lastTwo_append (body : Code) (a b : Digit) : Code.lastDigits 2 (body ++ [a, b]) = [a, b] := by
  simp [Code.lastDigits]

theorem commandOf_append (body : Code) (a b : Digit) : commandOf (body ++ [a, b]) =
    match a.val, b.val with
    | 0, 1 => some .loanMode
    | 0, 2 => some .returnMode
    | 0, 3 => some .renewMode
    | 1, 0 => some .endSession
    | 1, 1 => some .cancelLast
    | 1, 2 => some .overrideCard
    | 1, 3 => some .clear
    | 1, 4 => some .reprint
    | 1, 5 => some .skipSlip
    | _, _ => none := by
  unfold commandOf
  rw [lastTwo_append]
  revert a b
  decide

/-! ## The outcomes of classification (R13) -/

section
variable {table : List PrefixEntry} {c : Code} {e : PrefixEntry}

theorem classifyScan_of_none (h : winnerOf table c = none) : classifyScan table c = .invalid := by
  simp [classifyScan, h]

theorem classifyScan_of_ignore (h : winnerOf table c = some e) (hcls : e.cls = .ignore) : classifyScan table c = .ignored := by
  simp [classifyScan, h, hcls]

theorem classifyScan_of_passes (h : winnerOf table c = some e) (hpass : e.passes c = true) : classifyScan table c =
    match e.cls with
    | .borrower category => .entry (.borrower c category)
    | .item itemClass => .entry (.item c itemClass)
    | .command =>
      match commandOf c with
      | some command => .entry (.command c command)
      | none => .invalid
    | .ignore => .ignored := by
  unfold classifyScan
  rw [h]
  cases hcls : e.cls with
  | command =>
    simp only [hpass, hcls]
    rfl
  | _ => simp [hpass, hcls]

end

theorem Desk.classifyRead_invalid {d : Desk} {st : StationId} {c : Code} (h : classifyScan d.tables.prefixes c = .invalid) :
    d.classifyRead st c = (d.acceptScan st).post st .scanInvalid := by
  simp [classifyRead, h]

theorem Desk.classifyRead_ignored {d : Desk} {st : StationId} {c : Code} (h : classifyScan d.tables.prefixes c = .ignored) :
    d.classifyRead st c = d := by
  simp [classifyRead, h]

theorem Desk.classifyRead_entry {d : Desk} {st : StationId} {c : Code} {e : QueueEntry}
    (h : classifyScan d.tables.prefixes c = .entry e) : d.classifyRead st c = (d.acceptScan st).offerScan st e := by
  simp [classifyRead, h]

end Sys2Proof.Machine

namespace Sys2Proof.Proofs
open Sys2Proof.Machine

/-- Settles O1: the step's own equation. -/
theorem stepRunsFrontCommand : Obligations.StepRunsFrontCommand := by
  unfold Obligations.StepRunsFrontCommand
  exact fun _ _ => rfl

/-- Settles O2: the reference's three cases, and the commands by what they reach. -/
theorem idleStepsAndCommandsAnswerNext : Obligations.IdleStepsAndCommandsAnswerNext := by
  unfold Obligations.IdleStepsAndCommandsAnswerNext
  refine ⟨fun s hs => ⟨fun hp hb => ?dead, fun hlive => ⟨fun ht => ?tick, fun ht => ?second⟩⟩, fun c s => ?_, fun c s hc hp => exec_off hc hp⟩
  case dead => rw [step_idle hs, State.cycle_dead hp hb]
  case tick => rw [step_idle hs, State.cycle_tick hlive ht]; rfl
  case second => rw [step_idle hs, State.cycle_second hlive ht]; rfl
  · obtain ⟨t, ht⟩ := exists_exec c s
    exact ⟨t, ht, (kept_pending s.pending).exec rfl ht⟩

/-- Settles O3: the receiver's two states, and in a frame the four kinds of character. -/
theorem wandReceiverTable : Obligations.WandReceiverTable := by
  unfold Obligations.WandReceiverTable
  intro s st c hp d
  rw [exec_on (c := .wandCharacter st c) rfl hp]
  refine ⟨fun hd => ?_, fun hd => ⟨fun hw => ⟨?_, fun hc => ?_⟩, fun digits hw => ⟨?_, ?_, ?_, fun hc => ?_⟩⟩⟩
  · rw [Desk.wandCharacter_disabled hd]
  · rintro rfl
    rw [Desk.wandCharacter_none hd (f := ScanStation.openFrame) (ScanStation.character_hunting_start hw)]
    rfl
  · rw [Desk.wandCharacter_none hd (f := fun _ => d.scan.get st) (ScanStation.character_hunting_other hw hc), Desk.onScan_get]
  · rintro rfl
    rw [Desk.wandCharacter_none hd (f := fun x => x.readError.openFrame) (ScanStation.character_inFrame hw _)]
    rfl
  · rintro n rfl
    refine ⟨fun hlen => ?_, fun hlen => ?_⟩
    · rw [Desk.wandCharacter_none hd (f := fun x => { x with wand := .inFrame (digits ++ [n]), gapTimer := some 20 })
        ((ScanStation.character_inFrame hw _).trans ((ScanStation.frameCharacter_digit ..).trans (if_pos hlen)))]
    · rw [Desk.wandCharacter_none hd (f := ScanStation.readError)
        ((ScanStation.character_inFrame hw _).trans ((ScanStation.frameCharacter_digit ..).trans (if_neg (by omega))))]
      rfl
  · rintro rfl
    refine ⟨fun hlen => ?_, fun hlen => ?_⟩
    · rw [Desk.wandCharacter_read hd (f := fun x => { x with wand := .hunting, gapTimer := none })
        ((ScanStation.character_inFrame hw _).trans ((ScanStation.frameCharacter_end ..).trans (if_pos hlen)))]
    · rw [Desk.wandCharacter_none hd (f := ScanStation.readError)
        ((ScanStation.character_inFrame hw _).trans ((ScanStation.frameCharacter_end ..).trans (if_neg (by omega))))]
      rfl
  · rw [Desk.wandCharacter_none hd (f := ScanStation.readError)
      ((ScanStation.character_inFrame hw _).trans (ScanStation.frameCharacter_foreign _ _ hc))]
    rfl

/-- Settles O5: the pairing stage's branches, with the suppression test after those that accept. -/
theorem pairingAndSuppression : Obligations.PairingAndSuppression := by
  unfold Obligations.PairingAndSuppression
  intro d st c x required window accepted
  refine ⟨fun hnone hreq => ?_, fun hnone hreq => ?_, fun k n hk => ⟨fun hne => ?_, fun heq hreq => ?_, fun heq hreq => ?_⟩⟩
  · exact Desk.takeRead_held (f := fun x => { x with candidate := some ⟨c, 1⟩, pairingTimer := some window })
      ((ScanStation.pair_first hnone).trans (if_neg (Nat.not_le.2 hreq)))
  · have haccepted := Desk.takeRead_accepted (f := fun _ => d.scan.get st) (d := d) (st := st) (c := c)
      ((ScanStation.pair_first hnone).trans (if_pos hreq)) rfl rfl
    rwa [Desk.onScan_get] at haccepted
  · exact Desk.takeRead_held (f := fun x => { x with candidate := some ⟨c, 1⟩, pairingTimer := some window })
      (ScanStation.pair_other hk hne)
  · subst heq
    exact Desk.takeRead_held (f := fun x => { x with candidate := some ⟨k, n + 1⟩ })
      ((ScanStation.pair_again hk).trans (if_neg (Nat.not_le.2 hreq)))
  · subst heq
    exact Desk.takeRead_accepted (f := fun x => { x with candidate := none, pairingTimer := none })
      ((ScanStation.pair_again hk).trans (if_pos hreq)) rfl rfl

/-- Settles O7: the weighted sum by places, the last two digits, and the classes of the winner. -/
theorem classificationOutcomes : Obligations.ClassificationOutcomes := by
  unfold Obligations.ClassificationOutcomes
  refine ⟨⟨passesWeighted10_append, commandOf_append⟩, fun d st c => ⟨fun hw => ?_, fun e hw => ⟨fun hcls => ?_, fun hcls hcheck hfail => ?_,
    fun hpass => ?_⟩⟩⟩
  · exact Desk.classifyRead_invalid (classifyScan_of_none hw)
  · exact Desk.classifyRead_ignored (classifyScan_of_ignore hw hcls)
  · exact Desk.classifyRead_invalid (classifyScan_of_check_fails hw hcls hcheck hfail)
  · have hclass := classifyScan_of_passes hw (by simpa [PrefixEntry.passes] using hpass)
    refine ⟨fun hcls hnone => ?_, fun k hcls hk => ?_, fun n hcls => ?_, fun n hcls => ?_⟩
    · exact Desk.classifyRead_invalid (by rw [hclass, hcls]; simp only [hnone])
    · exact Desk.classifyRead_entry (by rw [hclass, hcls]; simp only [hk])
    · exact Desk.classifyRead_entry (by rw [hclass, hcls])
    · exact Desk.classifyRead_entry (by rw [hclass, hcls])

end Sys2Proof.Proofs
end

section
/-! PROOF. A station's timers and outputs (R2, R6, R8, R102, R122 to R135), and the scan queue (R16 to R18). -/

namespace Sys2Proof.Machine

/-! ## Writes of one station's part -/

theorem Desk.onScan_congr {d : Desk} {st : StationId} {f g : ScanStation → ScanStation} (h : f (d.scan.get st) = g (d.scan.get st)) :
    d.onScan st f = d.onScan st g := by
  simp only [onScan, h]

theorem Desk.onScan_self {d : Desk} {st : StationId} {f : ScanStation → ScanStation} (h : f (d.scan.get st) = d.scan.get st) :
    d.onScan st f = d :=
  (onScan_congr (g := fun _ => d.scan.get st) h).trans (d.onScan_get st)

theorem Desk.onArbiter_congr {d : Desk} {st : StationId} {f g : Arbiter → Arbiter} (h : f (d.arbiters.get st) = g (d.arbiters.get st)) :
    d.onArbiter st f = d.onArbiter st g := by
  simp only [onArbiter, h]

theorem Desk.onArbiter_self {d : Desk} {st : StationId} {f : Arbiter → Arbiter} (h : f (d.arbiters.get st) = d.arbiters.get st) :
    d.onArbiter st f = d := by
  simp only [onArbiter, h, PerStation.set_get]

theorem Desk.onStation_congr {d : Desk} {st : StationId} {f g : EngineStation → EngineStation}
    (h : f (d.stations.get st) = g (d.stations.get st)) : d.onStation st f = d.onStation st g := by
  simp only [onStation, h]

theorem Desk.onStation_self {d : Desk} {st : StationId} {f : EngineStation → EngineStation}
    (h : f (d.stations.get st) = d.stations.get st) : d.onStation st f = d := by
  simp only [onStation, h, PerStation.set_get]

/-! ## The timers of a scan station (R2, R6) -/

theorem ScanStation.gapExpiry_hunting {x : ScanStation} (h : x.wand = .hunting) : x.gapExpiry = x := by
  simp [gapExpiry, h]

theorem ScanStation.gapExpiry_inFrame {x : ScanStation} (h : x.wand ≠ .hunting) : x.gapExpiry = x.readError := by
  unfold gapExpiry
  split
  · rfl
  · next hw => exact absurd hw h

theorem ScanStation.pairingExpiry_stopped {x : ScanStation} (h : x.pairingTimer = none) : x.pairingExpiry = x := by
  simp [pairingExpiry, h]

theorem ScanStation.pairingExpiry_running {x : ScanStation} (h : x.pairingTimer ≠ none) : x.pairingExpiry = x.dropCandidate := by
  simp [pairingExpiry, Option.isSome_iff_ne_none, h]

/-! ## The pending set (R122) -/

/-- An entry stands in a sorted table exactly when it is found by its key. -/
theorem Table.mem_iff_find {α : Type} {key : α → Nat} {t : List α} (hs : Table.Sorted key t) (e : α) :
    e ∈ t ↔ Table.find key (key e) t = some e :=
  ⟨Table.find_of_mem hs, fun h => (Table.find_some h).1⟩

theorem Table.mem_put_iff {α : Type} {key : α → Nat} {t : List α} (hs : Table.Sorted key t) (e x : α) :
    x ∈ Table.put key e t ↔ x = e ∨ (x ∈ t ∧ key x ≠ key e) := by
  rw [mem_iff_find (sorted_put e t hs), mem_iff_find hs]
  by_cases hk : key x = key e
  · simp [hk, find_put_same, eq_comm]
  · rw [find_put_other e t hk]
    simp only [hk, not_false_eq_true, and_true, ne_eq, iff_or_self]
    rintro rfl
    exact absurd rfl hk

theorem Table.mem_erase_iff {α : Type} {key : α → Nat} (k : Nat) (t : List α) (x : α) :
    x ∈ Table.erase key k t ↔ x ∈ t ∧ key x ≠ k := by
  simp [Table.erase]

theorem Prompt.key_ne_iff {p q : Prompt} : q.key ≠ p.key ↔ q.source ≠ p.source :=
  not_congr ⟨fun h => Source.number_inj h, fun h => congrArg Source.number h⟩

theorem Source.number_ne_iff {a b : Source} : a.number ≠ b.number ↔ a ≠ b :=
  not_congr ⟨fun h => Source.number_inj h, fun h => congrArg Source.number h⟩

/-- Two entries of a sorted pending set that have one source are one entry. -/
theorem Prompt.eq_of_source {l : List Prompt} (hs : Table.Sorted Prompt.key l) {p q : Prompt} (hp : p ∈ l) (hq : q ∈ l)
    (h : p.source = q.source) : p = q := by
  have hfind := Table.find_of_mem hs hp
  rw [show p.key = q.key from congrArg Source.number h, Table.find_of_mem hs hq] at hfind
  exact (Option.some.inj hfind).symm

/-! ## A redone selection (R125 to R128, R134, R135) -/

section
variable {x : ArbiterSettings} (o : Option Source) (a : Arbiter)

omit x in
theorem Arbiter.not_changes_iff (b : Arbiter) :
    ¬ a.Changes o b ↔ (b.shown == a.shown && !(o.isSome && o == b.shown)) = true := by
  unfold Arbiter.Changes
  cases o <;> simp

theorem Arbiter.reselect_unchanged (h : ¬ a.Changes o (a.reselect x o)) : a.reselect x o = a := by
  rw [Arbiter.not_changes_iff, Arbiter.reselect_shown] at h
  exact if_pos h

theorem Arbiter.reselect_changed (h : a.Changes o (a.reselect x o)) : a.reselect x o =
    { a with
      shown := (a.reselect x o).shown
      lamp := lampOf (a.reselect x o).shown
      display := a.display.hand (match selectPrompt x.precedence x.masks a.pending with | some p => .prompt p | none => .blank)
      tone := match (a.reselect x o).shown with
        | some s => if o = some s then .playing s.level else a.tone
        | none => a.tone
      displayTimer := match (a.reselect x o).shown with
        | some s => if s.clearKind = .transient then some x.displayTime else none
        | none => none } := by
  have hguard := mt (Arbiter.not_changes_iff o a _).2 (not_not_intro h)
  rw [Arbiter.reselect_shown] at hguard ⊢
  refine (if_neg hguard).trans ?_
  cases selectPrompt x.precedence x.masks a.pending with
  | none => cases o <;> simp
  | some p => cases o <;> simp

end

/-- The selection redone over a changed pending set. -/
theorem Arbiter.reselect_turns {x : ArbiterSettings} (hls : IsPrecedence x.precedence) (o : Option Source) (a : Arbiter)
    {l : List Prompt} (hs : Table.Sorted Prompt.key l) : a.Turns x o (({ a with pending := l }).reselect x o) := by
  generalize hb : ({ a with pending := l } : Arbiter).reselect x o = b
  have hpending : b.pending = l := by rw [← hb, Arbiter.reselect_pending]
  have hshown : b.shown = (selectPrompt x.precedence x.masks l).map Prompt.source := by rw [← hb, Arbiter.reselect_shown]
  have hchanged (h : a.Changes o b) := Arbiter.reselect_changed (x := x) o { a with pending := l } (by rw [hb]; exact h)
  rw [hb] at hchanged
  refine ⟨?shown, fun h => ?stands, fun h => ?lamp, fun h q hq hsource => ?record, fun h hnone => ?blank, fun h => ?tone, fun h => ?timer⟩
  case shown =>
    rw [hpending, hshown]
    exact showsHighest_selectPrompt hls x.masks hs
  case stands =>
    have hsame := Arbiter.reselect_unchanged (x := x) o { a with pending := l } (by rw [hb]; exact h)
    rw [hb] at hsame
    rw [hpending, hsame]
  case lamp => exact congrArg Arbiter.lamp (hchanged h)
  case tone => exact congrArg Arbiter.tone (hchanged h)
  case timer => exact congrArg Arbiter.displayTimer (hchanged h)
  case record =>
    refine (congrArg Arbiter.display (hchanged h)).trans ?_
    rw [hsource, eq_comm, Option.map_eq_some_iff] at hshown
    obtain ⟨p, hp, hpq⟩ := hshown
    rw [hpending] at hq
    obtain rfl := Prompt.eq_of_source hs (selectPrompt_eq_some hls hs hp).1 hq hpq
    simp only [hp]
  case blank =>
    refine (congrArg Arbiter.display (hchanged h)).trans ?_
    rw [hnone, eq_comm, Option.map_eq_none_iff] at hshown
    simp only [hshown]

/-! ## What posts, removals and accepted scans make of an arbiter (R122, R129) -/

section
variable {d : Desk} {st : StationId} (hls : IsPrecedence d.settings.precedence)
  (hs : Table.Sorted Prompt.key (d.arbiters.get st).pending)
include hls hs

theorem Arbiter.post_turns (p : Prompt) :
    (d.arbiters.get st).Turns (d.arbiterSettings st) (some p.source) ((d.arbiters.get st).post (d.arbiterSettings st) p) ∧
    ∀ q, q ∈ ((d.arbiters.get st).post (d.arbiterSettings st) p).pending ↔
      q = p ∨ (q ∈ (d.arbiters.get st).pending ∧ q.source ≠ p.source) := by
  refine ⟨Arbiter.reselect_turns (x := d.arbiterSettings st) hls _ _ (Table.sorted_put p _ hs), fun q => ?_⟩
  rw [Arbiter.post, Arbiter.reselect_pending, Table.mem_put_iff hs, Prompt.key_ne_iff]

theorem Arbiter.remove_turns (s : Source) :
    (d.arbiters.get st).Turns (d.arbiterSettings st) none ((d.arbiters.get st).remove (d.arbiterSettings st) s) ∧
    ∀ q, q ∈ ((d.arbiters.get st).remove (d.arbiterSettings st) s).pending ↔ q ∈ (d.arbiters.get st).pending ∧ q.source ≠ s := by
  refine ⟨Arbiter.reselect_turns (x := d.arbiterSettings st) hls _ _ (Table.sorted_erase _ _ hs), fun q => ?_⟩
  rw [Arbiter.remove, Arbiter.reselect_pending, Table.mem_erase_iff]
  exact and_congr_right fun _ => Source.number_ne_iff

theorem Arbiter.reselected_turns :
    (d.arbiters.get st).Turns (d.arbiterSettings st) none ((d.arbiters.get st).reselect (d.arbiterSettings st) none) ∧
    ∀ q, q ∈ ((d.arbiters.get st).reselect (d.arbiterSettings st) none).pending ↔ q ∈ (d.arbiters.get st).pending :=
  ⟨Arbiter.reselect_turns (x := d.arbiterSettings st) hls _ _ hs, fun q => by rw [Arbiter.reselect_pending]⟩

theorem Arbiter.scanAccepted_turns :
    (d.arbiters.get st).Turns (d.arbiterSettings st) none ((d.arbiters.get st).scanAccepted (d.arbiterSettings st)) ∧
    ∀ q, q ∈ ((d.arbiters.get st).scanAccepted (d.arbiterSettings st)).pending ↔
      q ∈ (d.arbiters.get st).pending ∧ q.source.clearKind ≠ .transient := by
  refine ⟨Arbiter.reselect_turns (x := d.arbiterSettings st) hls _ _ (Table.sorted_filter _ _ hs), fun q => ?_⟩
  rw [Arbiter.scanAccepted, Arbiter.reselect_pending]
  simp

end

theorem Desk.onSession_opened {d : Desk} {st : StationId} {y : Session} (h : d.context st = .opened y) (f : Session → Session) :
    d.onSession st f = d.onStation st fun e => { e with context := .opened (f y) } := by
  refine onStation_congr ?_
  rw [show (d.stations.get st).context = .opened y from h]

theorem Desk.onSession_not_open {d : Desk} {st : StationId} (h : (d.context st).isOpen = false) (f : Session → Session) :
    d.onSession st f = d := by
  refine onStation_self ?_
  change (d.stations.get st).context.isOpen = false at h
  generalize d.stations.get st = e at h ⊢
  obtain ⟨context, mode, pad⟩ := e
  cases context with
  | opened y => cases h
  | _ => rfl

/-! ## A station's outputs (R127, R128, R135) -/

theorem Arbiter.displayExpiry_running {x : ArbiterSettings} {a : Arbiter} {p : Source} (htimer : a.displayTimer ≠ none)
    (hshown : a.shown = some p) (hkind : p.clearKind = .transient) : a.displayExpiry x = a.remove x p := by
  obtain ⟨n, hn⟩ := Option.ne_none_iff_exists'.1 htimer
  simp [displayExpiry, hn, hshown, hkind]

theorem Arbiter.displayExpiry_stopped {x : ArbiterSettings} {a : Arbiter} (htimer : a.displayTimer = none) : a.displayExpiry x = a := by
  simp [displayExpiry, htimer]

theorem Arbiter.recordSent_idle {a : Arbiter} (h : a.display = .idle) : a.recordSent = a := by
  cases a
  cases h
  rfl

/-! ## The scan queue (R16 to R18) -/

theorem Desk.takeHead_cons {d : Desk} {st : StationId} {e : QueueEntry} {rest : List QueueEntry}
    (hqueue : (d.scan.get st).queue = e :: rest) (htakes : (d.context st).takes = true) :
    d.takeHead st = (d.onScan st fun x => { x with queue := rest }).takeEntry st e := by
  simp [takeHead, hqueue, htakes]

theorem Desk.takeHead_nil {d : Desk} {st : StationId} (hqueue : (d.scan.get st).queue = []) : d.takeHead st = d := by
  simp [takeHead, hqueue]

theorem Desk.takeHead_stuck {d : Desk} {st : StationId} (htakes : (d.context st).takes = false) : d.takeHead st = d := by
  unfold takeHead
  split
  · exact if_neg (by simp [htakes])
  · rfl

/-- What a station takes reaches neither the scan stations nor the link nor the power. -/
theorem kept_outsideEngine (Q : PerStation ScanStation → LinkState → Power → Prop) :
    Desk.KeptByTaking fun d => Q d.scan d.link d.power where
  toKeptByUpload := Desk.KeptByWrites.keptByUpload { } (fun _ h => h) (fun _ h => h) (fun _ _ h => h)
  takeBorrower st card category h := ({ } : Desk.KeptByContexts fun d => Q d.scan d.link d.power).takeBorrower st card category h
  closeSession {d} st h := by
    unfold Desk.closeSession
    split
    · simpa using h
    · exact h

/-- The queue that a station's code is taken from stands while the code acts. -/
theorem Desk.takeHead_queue {d : Desk} {st : StationId} {e : QueueEntry} {rest : List QueueEntry}
    (hqueue : (d.scan.get st).queue = e :: rest) (htakes : (d.context st).takes = true) :
    ((d.takeHead st).scan.get st).queue = rest := by
  rw [takeHead_cons hqueue htakes, (kept_outsideEngine fun x _ _ => x = _).takeEntry st e rfl]
  simp

theorem repeat_succ_apply {α : Type} (f : α → α) (n : Nat) (a : α) : Nat.repeat f (n + 1) a = Nat.repeat f n (f a) := by
  induction n with
  | zero => rfl
  | succ n ih => exact congrArg f ih

theorem repeat_fixed {α : Type} {f : α → α} {a : α} (h : f a = a) (n : Nat) : Nat.repeat f n a = a := by
  induction n with
  | zero => rfl
  | succ n ih => exact (congrArg f ih).trans h

theorem Desk.drain_cons {d : Desk} {st : StationId} {e : QueueEntry} {rest : List QueueEntry}
    (hqueue : (d.scan.get st).queue = e :: rest) (htakes : (d.context st).takes = true) :
    d.drain st = ((d.onScan st fun x => { x with queue := rest }).takeEntry st e).drain st := by
  rw [← takeHead_cons hqueue htakes]
  unfold drain
  rw [takeHead_queue hqueue htakes, hqueue]
  exact repeat_succ_apply _ _ _

theorem Desk.drain_nil {d : Desk} {st : StationId} (hqueue : (d.scan.get st).queue = []) : d.drain st = d :=
  repeat_fixed (takeHead_nil hqueue) _

theorem Desk.drain_stuck {d : Desk} {st : StationId} (htakes : (d.context st).takes = false) : d.drain st = d :=
  repeat_fixed (takeHead_stuck htakes) _

theorem Desk.drain_singleton {d : Desk} {st : StationId} {e : QueueEntry} (hqueue : (d.scan.get st).queue = [e])
    (htakes : (d.context st).takes = true) : d.drain st = (d.onScan st fun x => { x with queue := [] }).takeEntry st e := by
  have hrest := takeHead_queue hqueue htakes
  rw [takeHead_cons hqueue htakes] at hrest
  rw [drain_cons hqueue htakes, drain_nil hrest]

/-! ## A station that takes codes is not disabled by one -/

/-- The station is not DISABLED. -/
def Desk.EnabledAt (st : StationId) (d : Desk) : Prop := d.context st ≠ .disabled

theorem Desk.EnabledAt.setContext {d : Desk} {st : StationId} (h : d.EnabledAt st) (o : StationId) {c : Context} (hc : c ≠ .disabled) :
    (d.setContext o c).EnabledAt st := by
  rw [EnabledAt, setContext_context]
  split
  · exact hc
  · exact h

theorem kept_enabledAt_writes (st : StationId) : Desk.KeptByUpload (Desk.EnabledAt st) := by
  have hplain : Desk.KeptByWrites (Desk.EnabledAt st) :=
    { station := fun {d o f} hf h => by
        rw [Desk.EnabledAt, Desk.context, Desk.onStation_stations, PerStation.get_set]
        split
        · next ho => subst ho; rw [hf]; exact h
        · exact h
      session := fun {d o f} _ h => by
        rw [Desk.EnabledAt, Desk.context, Desk.onSession, Desk.onStation_stations, PerStation.get_set]
        split
        · next ho =>
          subst ho
          split
          · exact nofun
          · exact h
        · exact h }
  exact hplain.keptByUpload (fun _ h => h) (fun _ h => h) (fun _ _ h => h)

theorem Desk.EnabledAt.openSession {d : Desk} {st : StationId} (h : d.EnabledAt st) (o : StationId) (card : Code)
    (winner : Option BlockEntry) : (d.openSession o card winner).EnabledAt st := by
  have hkept := kept_enabledAt_writes st
  have hopened := hkept.postSessionOpen o card (h.setContext o (c := .opened ⟨card, (d.sessionEntry card).provisional, [], none,
    (d.stationSettings.get o).idleTimeout⟩) nofun)
  simp only [Desk.openSession]
  split
  · split
    · exact hkept.post _ _ hopened
    · exact hopened
  · exact hopened

theorem Desk.EnabledAt.serveCard {d : Desk} {st : StationId} (h : d.EnabledAt st) (o : StationId) (card : Code) (category : Nat)
    (winner : Option BlockEntry) : (d.serveCard o card category winner).EnabledAt st := by
  have hkept := kept_enabledAt_writes st
  unfold Desk.serveCard
  split
  · exact hkept.refuse _ _ h
  · split
    · exact h.openSession _ _ _
    · split
      · exact hkept.post _ _ (hkept.lookupList _ (h.setContext o (c := .lookup _) nofun))
      · exact hkept.askProvisional _ _ _ (fun _ _ h => h) (fun _ _ h => EnabledAt.openSession h _ _ _) h

theorem Desk.EnabledAt.endSession {d : Desk} {st : StationId} (h : d.EnabledAt st) (o : StationId) (x : Session) :
    (d.endSession o x .idle).EnabledAt st := by
  rw [EnabledAt, endSession_context]
  split
  · exact nofun
  · exact h

theorem kept_enabledAt (st : StationId) : Desk.KeptByTaking (Desk.EnabledAt st) where
  toKeptByUpload := kept_enabledAt_writes st
  takeBorrower {d} o card category h := by
    have hkept := kept_enabledAt_writes st
    have hserved {ended : Desk} (hended : ended.EnabledAt st) : Desk.EnabledAt st (if (ended.deferredAt o).isSome then ended
        else ended.screened o card id fun d winner => d.serveCard o card category winner) := by
      split
      · exact hended
      · exact hkept.screened (served := fun d winner => d.serveCard o card category winner) id
          (fun w hn => hn.serveCard _ _ _ _) hended
    unfold Desk.takeBorrower
    split
    · exact hkept.post _ _ h
    · split
      · exact hserved (h.endSession _ _)
      · exact hserved h
  closeSession {d} o h := by
    unfold Desk.closeSession
    split
    · next x _ =>
      rw [Desk.EnabledAt, Desk.context_of_stations (a := d.endSession o x .idle) (by simp)]
      exact h.endSession _ _
    · exact h

theorem Context.lookup_of_not_takes {c : Context} (htakes : c.takes = false) (hc : c ≠ .disabled) : ∃ r, c = .lookup r := by
  cases c with
  | lookup r => exact ⟨r, rfl⟩
  | disabled => exact absurd rfl hc
  | _ => cases htakes

/-- The codes are taken until none waits or the station looks a card up (R18). -/
theorem Desk.drain_ends {st : StationId} (n : Nat) : ∀ d : Desk, d.EnabledAt st → (d.scan.get st).queue.length = n →
    ((d.drain st).scan.get st).queue = [] ∨ ∃ r, (d.drain st).context st = .lookup r := by
  induction n with
  | zero =>
    intro d _ hlen
    have hqueue := List.eq_nil_of_length_eq_zero hlen
    rw [drain_nil hqueue]
    exact .inl hqueue
  | succ n ih =>
    intro d henabled hlen
    cases htakes : (d.context st).takes with
    | false =>
      rw [drain_stuck htakes]
      exact .inr (Context.lookup_of_not_takes htakes henabled)
    | true =>
      obtain ⟨e, rest, hqueue⟩ := List.exists_cons_of_length_eq_add_one hlen
      have hrest := takeHead_queue hqueue htakes
      rw [takeHead_cons hqueue htakes] at hrest
      rw [drain_cons hqueue htakes]
      exact ih _ ((kept_enabledAt st).takeEntry st e henabled) (by rw [hrest]; simpa [hqueue] using hlen)

end Sys2Proof.Machine

namespace Sys2Proof.Proofs
open Sys2Proof.Machine

/-- Settles O4: the timers and outputs by their state, and the selection that every change of a pending set redoes. -/
theorem stationTimersAndOutputs : Obligations.StationTimersAndOutputs := by
  unfold Obligations.StationTimersAndOutputs
  refine ⟨fun s st hp => ?timers, fun s st hp => ?outputs, by decide, ⟨fun _ => rfl, fun _ _ _ => rfl, rfl, fun s => ?lamp⟩,
    fun d st hls hs => ?turns⟩
  case timers =>
    rw [exec_on (c := .characterGapExpiry st) rfl hp, exec_on (c := .pairingTimerExpiry st) rfl hp,
      exec_on (c := .suppressionTimerExpiry st) rfl hp]
    refine ⟨fun hw => ?_, fun hw => ?_, fun ht => ?_, fun ht => ?_, rfl⟩
    · rw [Desk.onScan_self (ScanStation.gapExpiry_hunting hw)]
    · rw [Desk.onScan_congr (g := ScanStation.counted) (ScanStation.gapExpiry_inFrame hw)]
    · rw [Desk.onScan_self (ScanStation.pairingExpiry_stopped ht)]
    · rw [Desk.onScan_congr (g := ScanStation.dropCandidate) (ScanStation.pairingExpiry_running ht)]
      rfl
  case outputs =>
    rw [exec_on (c := .padPulseExpiry st) rfl hp, exec_on (c := .tonePatternEnd st) rfl hp,
      exec_on (c := .displayRecordSent st) rfl hp, exec_on (c := .displayTimerExpiry st) rfl hp]
    refine ⟨rfl, rfl, fun r w hd => ?_, fun r hd => ?_, fun hd => ?_, fun p ht hshown hkind => ?_, fun ht => ?_⟩
    · rw [Desk.onArbiter_congr (g := fun x => { x with display := .sending w none }) (by simp [Arbiter.recordSent, hd, DisplayOutput.sent])]
    · rw [Desk.onArbiter_congr (g := fun x => { x with display := .idle }) (by simp [Arbiter.recordSent, hd, DisplayOutput.sent])]
    · rw [Desk.onArbiter_self (Arbiter.recordSent_idle hd)]
    · rw [Desk.onArbiter_congr (g := Arbiter.remove (s.desk.arbiterSettings st) p) (Arbiter.displayExpiry_running ht hshown hkind)]
      rfl
    · rw [Desk.onArbiter_self (Arbiter.displayExpiry_stopped ht)]
  case lamp => cases s <;> rfl
  case turns =>
    refine ⟨fun p => ⟨_, rfl, Arbiter.post_turns hls hs p⟩, fun s => ⟨_, rfl, Arbiter.remove_turns hls hs s⟩,
      ⟨_, rfl, Arbiter.reselected_turns hls hs⟩, ⟨_, rfl, Arbiter.scanAccepted_turns hls hs⟩, fun y hy => ?_, fun hclosed => ?_⟩
    · rw [Desk.acceptScan, Desk.onSession_opened (d := d.onArbiter st _) (y := y) hy]
      rfl
    · rw [Desk.acceptScan, Desk.onSession_not_open (d := d.onArbiter st _) hclosed]
      rfl

/-- Settles O8: the first code is taken and the rest of the queue drains, until none waits or the station looks a card up. -/
theorem scanQueueHoldsFour : Obligations.ScanQueueHoldsFour := by
  unfold Obligations.ScanQueueHoldsFour
  refine ⟨fun d st e => ⟨fun hroom => if_pos hroom, fun hfull => if_neg (Nat.not_lt.2 hfull), Desk.drain_stuck, Desk.drain_nil,
    Desk.drain_singleton, fun rest => Desk.drain_cons⟩, fun d st htakes => Desk.drain_ends _ d ?_ rfl⟩
  intro hdisabled
  rw [hdisabled] at htakes
  cases htakes

end Sys2Proof.Proofs
end

section
/-! PROOF. What the engine does with the codes it takes (R79, R83, R84), the command cards (R80, R89, R98, R130, R140, R144), the end
of a session (R99) and CANCEL_LAST (R97). -/

namespace Sys2Proof.Machine

/-! ## Sessions open (R84, R86) -/

theorem Desk.sessionEntry_of_tables {a b : Desk} (h : b.tables = a.tables) (card : Code) : b.sessionEntry card = a.sessionEntry card := by
  simp only [sessionEntry, borrower, h]

theorem Desk.sessionEntry_of_borrower {d : Desk} {card : Code} {b : Borrower} (h : d.borrower card = some b) : d.sessionEntry card = b := by
  simp [sessionEntry, h]

theorem Desk.openSession_of_borrower {d : Desk} {card : Code} {b : Borrower} (h : d.borrower card = some b) (st : StationId)
    (winner : Option BlockEntry) : d.openSession st card winner = d.withSession st card b winner := by
  have hentry := sessionEntry_of_borrower h
  have hafter (c : Context) : (d.setContext st c).sessionEntry card = b := (sessionEntry_of_tables (by simp) card).trans hentry
  unfold openSession withSession postSessionOpen
  simp only [hentry, hafter]
  cases winner with
  | none => rfl
  | some e =>
    simp only [beq_iff_eq]
    rfl

theorem Desk.blockNotice_blockCheck (d : Desk) (st : StationId) (card : Code) :
    d.blockNotice st card (d.blockCheck card) = d.blockChecked st card := by
  unfold blockNotice blockChecked
  cases d.blockCheck card with
  | none => rfl
  | some e =>
    obtain ⟨key, action, reason, expiryDay⟩ := e
    cases action <;> rfl

section
variable {d : Desk} {st : StationId} {card : Code} {refused : Desk → Desk} {served : Desk → Option BlockEntry → Desk}

theorem Desk.screened_refuse {e : BlockEntry} (hwinner : d.blockCheck card = some e) (haction : e.action = .refuse) :
    d.screened st card refused served = (refused (d.blockChecked st card)).post st (.borrowerBlocked e.reason) := by
  simp only [screened, blockNotice_blockCheck]
  rw [hwinner]
  simp only [haction]
  rfl

theorem Desk.screened_pass (hwinner : ∀ e, d.blockCheck card = some e → e.action ≠ .refuse) :
    d.screened st card refused served = served (d.blockChecked st card) (d.blockCheck card) := by
  simp only [screened, blockNotice_blockCheck]
  cases hcheck : d.blockCheck card with
  | none => rfl
  | some e =>
    have hne : (e.action == .refuse) = false := by simpa using hwinner e hcheck
    simp only [hne]
    rfl

end

theorem Desk.blockChecked_stations (d : Desk) (st : StationId) (card : Code) : (d.blockChecked st card).stations = d.stations := by
  simp [← blockNotice_blockCheck]

/-! ## Borrower cards (R44, R84) -/

theorem Desk.cardInUse_iff (d : Desk) (card : Code) : d.cardInUse card = true ↔ ∃ st, (d.context st).card = some card := by
  unfold cardInUse
  rw [List.any_eq_true]
  constructor
  · rintro ⟨st, -, h⟩
    exact ⟨st, by simpa using h⟩
  · rintro ⟨st, h⟩
    exact ⟨st, by cases st <;> decide, by simpa using h⟩

theorem Desk.borrower_putBorrower (d : Desk) (b : Borrower) : (d.putBorrower b).borrower b.card = some b :=
  Table.find_put_same (key := Borrower.key) b d.tables.borrowers

theorem Desk.borrower_of_tables {a b : Desk} (h : b.tables = a.tables) (card : Code) : b.borrower card = a.borrower card := by
  simp only [borrower, h]

section
variable {d : Desk} {st : StationId} {card : Code} {category : Nat} {winner : Option BlockEntry}

theorem Desk.serveCard_elsewhere (h : d.cardInUse card = true) :
    d.serveCard st card category winner = d.post st (.loanRefused .borrowerElsewhere none) := if_pos h

theorem Desk.serveCard_known (huse : d.cardInUse card = false) {b : Borrower} (hb : d.borrower card = some b) :
    d.serveCard st card category winner = d.withSession st card b winner := by
  rw [← openSession_of_borrower hb]
  simp [serveCard, huse, hb]

theorem Desk.isOffline_eq_false (d : Desk) (h : d.link ≠ .offline) : d.isOffline = false := by
  simpa [isOffline] using h

theorem Desk.isOffline_of (d : Desk) (h : d.link = .offline) : d.isOffline = true := by
  simp [isOffline, h]

theorem Desk.serveCard_lookup (huse : d.cardInUse card = false) (hb : d.borrower card = none) (hlink : d.link ≠ .offline) :
    d.serveCard st card category winner =
      ({ d.setContext st (.lookup ⟨card, category, d.settings.lookupTimeout⟩) with
        lookupList := d.lookupList ++ [LookupFrame.mk st card] }).post st .lookupWait := by
  simp [serveCard, huse, hb, d.isOffline_eq_false hlink, enterLookup]

theorem Desk.serveCard_provisional (huse : d.cardInUse card = false) (hb : d.borrower card = none) (hlink : d.link = .offline) :
    d.serveCard st card category winner = d.askProvisional st card category id fun d => d.openSession st card winner := by
  simp [serveCard, huse, hb, d.isOffline_of hlink]

variable {fails opens : Desk → Desk}

theorem Desk.askProvisional_capped (h : (d.category category).offlineCap = 0) :
    d.askProvisional st card category fails opens = (fails d).post st .unknownBorrower := if_pos h

theorem Desk.askProvisional_full (hcap : (d.category category).offlineCap ≠ 0) (hfull : d.borrowerTableFull = true) :
    d.askProvisional st card category fails opens = (fails (d.raiseAlarm .tableFull)).post st (.loanRefused .tableFull none) :=
  (if_neg hcap).trans (if_pos hfull)

theorem Desk.askProvisional_opens (hcap : (d.category category).offlineCap ≠ 0) (hroom : d.borrowerTableFull = false) :
    d.askProvisional st card category fails opens =
      opens ((d.putBorrower (d.provisionalEntry card category)).raiseNotice (.provisionalOpened st card)) :=
  (if_neg hcap).trans (if_neg (by simp [hroom]))

end

theorem Desk.borrowerTableFull_iff (d : Desk) : d.borrowerTableFull = true ↔ 65536 ≤ d.tables.borrowers.length :=
  decide_eq_true_iff

theorem Desk.borrowerTableFull_eq_false (d : Desk) : d.borrowerTableFull = false ↔ d.tables.borrowers.length < 65536 :=
  decide_eq_false_iff_not.trans Nat.not_le

/-- The desk once a card that is taken at a station has ended the station's session. -/
def Desk.cardEnds (d : Desk) (st : StationId) : Desk :=
  match d.context st with
  | .opened x => d.endSession st x .idle
  | _ => d

theorem Desk.cardEnds_context {d : Desk} {st : StationId} (h : (d.context st).takes = true) : (d.cardEnds st).context st = .idle := by
  unfold cardEnds
  split
  · rw [endSession_context, if_pos rfl]
  · next hopen =>
    cases hc : d.context st with
    | idle => rfl
    | opened x => exact absurd hc (hopen x)
    | _ => rw [hc] at h; cases h

theorem Desk.takeBorrower_closed {d : Desk} (h : d.mode ≠ .opened) (st : StationId) (card : Code) (category : Nat) :
    d.takeBorrower st card category = d.post st .deskClosed := by
  simp [takeBorrower, h]

theorem Desk.takeBorrower_opened {d : Desk} (h : d.mode = .opened) (st : StationId) (card : Code) (category : Nat) :
    d.takeBorrower st card category = if ((d.cardEnds st).deferredAt st).isSome then d.cardEnds st
      else (d.cardEnds st).screened st card id fun d winner => d.serveCard st card category winner := by
  simp only [takeBorrower, h]
  rfl

/-! ## Items (R79, R83) -/

section
variable {d : Desk} {st : StationId} {item : Code} {scanned : Nat}

theorem Desk.takeItem_idle (h : d.context st = .idle) : d.takeItem st item scanned = d.takeItemIdle st item scanned := by
  simp [takeItem, h]

theorem Desk.takeItemIdle_ret (h : (d.stations.get st).mode = .ret) : d.takeItemIdle st item scanned =
    if d.mode ≠ .closed ∨ d.settings.returnsWhenClosed = true then d.returnItem st item scanned else d.post st .deskClosed := by
  simp [takeItemIdle, h]

theorem Desk.takeItemIdle_other (h : (d.stations.get st).mode ≠ .ret) : d.takeItemIdle st item scanned =
    if d.mode = .opened then d.post st (.loanRefused .noSession none) else d.post st .deskClosed := by
  unfold takeItemIdle
  split
  · next hret => exact absurd hret h
  · simp [refuse]

theorem Desk.takeItem_opened {x : Session} (h : d.context st = .opened x) :
    d.takeItem st item scanned = d.takeItemOpen st x item scanned := by
  simp [takeItem, h]

end

/-! ## The command cards (R80, R89, R98) -/

section
variable {d : Desk} {st : StationId}

theorem Desk.setMode_enabled (h : d.context st ≠ .disabled) (m : StationMode) :
    d.setMode st m = d.onStation st fun x => { x with mode := m } :=
  if_neg fun hd => h (Context.isDisabled_iff.1 hd)

theorem Desk.setMode_disabled (h : d.context st = .disabled) (m : StationMode) : d.setMode st m = d :=
  if_pos (Context.isDisabled_iff.2 h)

theorem Desk.closeSession_opened {x : Session} (h : d.context st = .opened x) : d.closeSession st = (d.endSession st x .idle).testClosing := by
  simp [closeSession, h]

theorem Desk.closeSession_not_open (h : (d.context st).isOpen = false) : d.closeSession st = d := by
  unfold closeSession
  split
  · next x hx => rw [hx] at h; cases h
  · rfl

theorem Desk.cancelCard_idle (h : d.context st = .idle) : d.cancelCard st = d.post st (.loanRefused .noSession none) := by
  simp [cancelCard, h, refuse]

theorem Desk.cancelCard_opened {x : Session} (h : d.context st = .opened x) : d.cancelCard st = d.cancelLast st x := by
  simp [cancelCard, h]

theorem Desk.overrideCard_idle (h : d.context st = .idle) : d.overrideCard st = d.post st (.loanRefused .noSession none) := by
  simp [overrideCard, h, refuse]

theorem Desk.overrideCard_opened {x : Session} (h : d.context st = .opened x) :
    d.overrideCard st = d.onStation st fun e => { e with context := .opened { x with arm := some 60 } } := by
  rw [← onSession_opened h fun x => { x with arm := some 60 }]
  simp [overrideCard, h]

/-- At a station that takes no codes a command card has no effect. -/
theorem Desk.cards_not_taken (h : (d.context st).takes = false) :
    d.cancelCard st = d ∧ d.overrideCard st = d ∧ d.clearCard st = d ∧ d.reprintCard st = d ∧ d.skipCard st = d := by
  have hnone : d.clearCard st = d ∧ d.reprintCard st = d ∧ d.skipCard st = d := by
    simp [clearCard, reprintCard, skipCard, h]
  refine ⟨?_, ?_, hnone⟩
  all_goals
    cases hc : d.context st with
    | idle | opened => rw [hc] at h; cases h
    | _ => simp [cancelCard, overrideCard, hc]

theorem Arbiter.clearShown_staff {x : ArbiterSettings} {a : Arbiter} {p : Source} (hshown : a.shown = some p)
    (hkind : p.clearKind = .staff) : a.clearShown x = a.remove x p := by
  simp [clearShown, hshown, hkind]

theorem Arbiter.clearShown_other {x : ArbiterSettings} {a : Arbiter} (h : ∀ p, a.shown = some p → p.clearKind ≠ .staff) :
    a.clearShown x = a := by
  unfold clearShown
  split
  · next p hp => exact if_neg (by simpa using h p hp)
  · rfl

end

/-! ## The end of a session (R99) -/

theorem Desk.endSession_slip {d : Desk} {st : StationId} {x : Session} {next : Context} {j : SlipJob}
    (hprints : (d.stationSettings.get st).slipPrinting = true) (hslip : x.loanSlip st = some j) :
    d.endSession st x next = (((d.onSlips fun s => { s with lastSlips := s.lastSlips.set st (some j) }).post st
      (.sessionEnd (x.items.countP fun e => !e.isReturned))).setContext st next).handOver j := by
  simp only [endSession, hprints, hslip, if_true, keepCopy, Session.loanSlip_station hslip]

theorem Desk.endSession_plain {d : Desk} {st : StationId} {x : Session} {next : Context}
    (h : (d.stationSettings.get st).slipPrinting = false ∨ x.loanSlip st = none) :
    d.endSession st x next = (d.post st (.sessionEnd (x.items.countP fun e => !e.isReturned))).setContext st next := by
  have hnone : (if (d.stationSettings.get st).slipPrinting then x.loanSlip st else none) = none := by
    rcases h with h | h <;> simp [h]
  simp only [endSession, hnone]

/-! ## CANCEL_LAST (R97) -/

theorem takeNewestLent_none {l : List ListEntry} (h : ∀ e ∈ l, e.isLent = false) : takeNewestLent l = none := by
  induction l with
  | nil => rfl
  | cons e es ih =>
    obtain ⟨he, hes⟩ := List.forall_mem_cons.1 h
    simp [takeNewestLent, ih hes, he]

theorem takeNewestLent_append {before after : List ListEntry} {e : ListEntry} (he : e.isLent = true)
    (hafter : ∀ e ∈ after, e.isLent = false) : takeNewestLent (before ++ e :: after) = some (e, before ++ after) := by
  induction before with
  | nil => simp [takeNewestLent, takeNewestLent_none hafter, he]
  | cons b before ih => simp [takeNewestLent, ih]

theorem Desk.lapseAtRead_stations (d : Desk) (st : StationId) (code : Code) : (d.lapseAtRead st code).stations = d.stations := by
  simp

theorem Desk.onSession_resensitise {d : Desk} {st : StationId} {x : Session} (h : d.context st = .opened x) (f : Session → Session) :
    (d.onSession st f).resensitise st = d.onStation st fun e =>
      { e with context := .opened (f x), pad := .resensitising (d.stationSettings.get st).padPulse } := by
  rw [onSession_opened h]
  simp [resensitise, onStation]

end Sys2Proof.Machine

namespace Sys2Proof.Proofs
open Sys2Proof.Machine

/-- Settles O9: R84's steps for a card, the station mode for an item, and each command's row. -/
theorem codesAreTaken : Obligations.CodesAreTaken := by
  unfold Obligations.CodesAreTaken
  refine ⟨fun d st card category htakes => ?card, fun d st item scanned => ?item, fun s st c hp => ?command⟩
  case card =>
    intro a ended winner noticed elsewhere opens waits entry
    have hidle : ended.context st = .idle := Desk.cardEnds_context htakes
    have helsewhere : elsewhere ↔ noticed.cardInUse card = true := by
      have hst : (noticed.context st).card = none := by
        rw [Desk.context_of_stations (ended.blockChecked_stations st card), hidle]
        rfl
      rw [Desk.cardInUse_iff]
      constructor
      · rintro ⟨o, -, ho⟩
        exact ⟨o, ho⟩
      · rintro ⟨o, ho⟩
        refine ⟨o, ?_, ho⟩
        rintro rfl
        rw [hst] at ho
        cases ho
    refine ⟨fun hmode => Desk.takeBorrower_closed hmode st card category, fun hmode hdeferred => ?_, fun hmode hfree => ?_⟩
    · exact (Desk.takeBorrower_opened hmode st card category).trans (if_pos (Option.isSome_iff_ne_none.2 hdeferred))
    · have ha : a = ended.screened st card id fun d winner => d.serveCard st card category winner :=
        (Desk.takeBorrower_opened hmode st card category).trans (if_neg (by
          rw [show (d.cardEnds st).deferredAt st = none from hfree]
          exact Bool.false_ne_true))
      refine ⟨fun e hwinner haction => ha.trans (Desk.screened_refuse hwinner haction), fun hpass => ?_⟩
      have hserve : a = noticed.serveCard st card category winner := ha.trans (Desk.screened_pass hpass)
      refine ⟨fun huse => hserve.trans (Desk.serveCard_elsewhere (helsewhere.1 huse)), fun huse => ?_⟩
      have hfree := Bool.eq_false_iff.2 fun hin => huse (helsewhere.2 hin)
      refine ⟨fun b hb => hserve.trans (Desk.serveCard_known hfree hb), fun hnone => ⟨fun hlink => ?_, fun hlink => ?_⟩⟩
      · exact hserve.trans (Desk.serveCard_lookup hfree hnone hlink)
      · have hask := hserve.trans (Desk.serveCard_provisional hfree hnone hlink)
        refine ⟨fun hcap => hask.trans (Desk.askProvisional_capped hcap), fun hcap hfull => ?_, fun hcap hroom => ?_⟩
        · exact hask.trans (Desk.askProvisional_full hcap (noticed.borrowerTableFull_iff.2 hfull))
        · refine (hask.trans (Desk.askProvisional_opens hcap (noticed.borrowerTableFull_eq_false.2 hroom))).trans
            (Desk.openSession_of_borrower ?_ st winner)
          rw [Desk.borrower_of_tables (a := noticed.putBorrower entry) (by simp only [Desk.raiseNotice_keeps]; rfl)]
          exact noticed.borrower_putBorrower entry
  case item =>
    intro a mode
    refine ⟨fun hidle => ?_, fun x hx => ?_⟩
    · have ha : a = d.takeItemIdle st item scanned := Desk.takeItem_idle hidle
      refine ⟨fun hret hmay => ?_, fun hret hclosed hno => ?_, fun hne hopen => ?_, fun hne hopen => ?_⟩
      · exact ha.trans ((Desk.takeItemIdle_ret hret).trans (if_pos hmay))
      · exact ha.trans ((Desk.takeItemIdle_ret hret).trans (if_neg (by simp [hclosed, hno])))
      · exact ha.trans ((Desk.takeItemIdle_other hne).trans (if_pos hopen))
      · exact ha.trans ((Desk.takeItemIdle_other hne).trans (if_neg hopen))
    · have ha : a = d.takeItemOpen st x item scanned := Desk.takeItem_opened hx
      refine ⟨fun hm => ?_, fun hm => ?_, fun hm => ?_⟩
      all_goals
        rw [ha, Desk.takeItemOpen]
        rw [show (d.stations.get st).mode = _ from hm]
  case command =>
    intro acts
    have hacts {row : Instr} {k : Command} (h : deskEffect row = some fun d => d.takeEntry st (.command c k)) : acts row k :=
      exec_on h hp
    exact ⟨hacts rfl, hacts rfl, hacts rfl, hacts rfl, hacts rfl, hacts rfl, hacts rfl, hacts rfl, hacts rfl⟩

/-- Settles O10: each card by the station's state. -/
theorem commandCardsAct : Obligations.CommandCardsAct := by
  unfold Obligations.CommandCardsAct
  refine ⟨fun s st hp => ?modes, ⟨fun s st hp => ?unopened, fun s st x hp hx => ?arms⟩, fun s st hp htakes => ?clear,
    fun s st hp htakes => ?slips⟩
  case modes =>
    have hmode {c : Instr} {m : StationMode} (h : deskEffect c = some fun d => d.setMode st m) :
        exec c s = .next (s.afterDesk (s.desk.setMode st m)) := exec_on h hp
    intro d becomes
    refine ⟨fun hd => ?_, fun hd => ?_⟩
    · have hbecomes {c : Instr} {m : StationMode} (h : deskEffect c = some fun d => d.setMode st m) : becomes c m :=
        (hmode h).trans (by rw [Desk.setMode_enabled hd])
      exact ⟨hbecomes rfl, hbecomes rfl, hbecomes rfl⟩
    · rw [hmode (c := .loanMode st) rfl, hmode (c := .returnMode st) rfl, hmode (c := .renewMode st) rfl]
      simp only [Desk.setMode_disabled hd, d, and_self]
  case unopened =>
    rw [exec_on (c := .endCard st) rfl hp, exec_on (c := .cancelLast st) rfl hp, exec_on (c := .overrideCard st) rfl hp,
      exec_on (c := .clearCard st) rfl hp, exec_on (c := .reprint st) rfl hp, exec_on (c := .skipSlip st) rfl hp]
    refine ⟨fun hclosed => ?_, fun hidle => ?_, fun htakes => ?_⟩
    · rw [Desk.endCard, Desk.closeSession_not_open hclosed]
    · rw [Desk.cancelCard_idle hidle, Desk.overrideCard_idle hidle]
      exact ⟨rfl, rfl⟩
    · obtain ⟨hcancel, hoverride, hclear, hreprint, hskip⟩ := Desk.cards_not_taken htakes
      rw [hcancel, hoverride, hclear, hreprint, hskip]
      exact ⟨rfl, rfl, rfl, rfl, rfl⟩
  case arms =>
    rw [exec_on (c := .overrideCard st) rfl hp, exec_on (c := .overrideArmExpiry st) rfl hp, Desk.overrideCard_opened hx,
      Desk.armExpiry, Desk.onSession_opened hx]
    exact ⟨rfl, rfl⟩
  case clear =>
    rw [exec_on (c := .clearCard st) rfl hp, Desk.clearCard, if_pos htakes]
    refine ⟨fun p hshown hkind => ?_, fun hother => ?_⟩
    · rw [Desk.onArbiter_congr (g := Arbiter.remove (s.desk.arbiterSettings st) p) (Arbiter.clearShown_staff hshown hkind)]
      rfl
    · rw [Desk.onArbiter_self (Arbiter.clearShown_other hother)]
  case slips =>
    rw [exec_on (c := .reprint st) rfl hp, exec_on (c := .skipSlip st) rfl hp, Desk.reprintCard, Desk.skipCard, if_pos htakes,
      if_pos htakes]
    refine ⟨fun hnone => ?_, fun j hj => ?_, fun hnone => ?_, fun j hj => ?_⟩
    · rw [Desk.reprint, hnone]
    · rw [Desk.reprint, hj]
    · rw [Desk.skipSlip, hnone]
    · rw [Desk.skipSlip, hj]
      rfl

/-- Settles O12: the newest LENT entry is the last of the list that is one. -/
theorem cancelLastUndoesTheNewestLoan : Obligations.CancelLastUndoesTheNewestLoan := by
  unfold Obligations.CancelLastUndoesTheNewestLoan
  intro s st x hp hx
  rw [exec_on (c := .cancelLast st) rfl hp, Desk.cancelCard_opened hx]
  refine ⟨fun hnone => ?_, fun before item due seq prior after hitems hafter => ?_⟩
  · rw [Desk.cancelLast, takeNewestLent_none hnone]
    rfl
  · intro d
    have hnewest : takeNewestLent x.items = some (.lent item due seq prior, before ++ after) := by
      rw [hitems]
      exact takeNewestLent_append rfl hafter
    have hcancel : s.desk.cancelLast st x =
        if d.anyRoom then d.undoLoan st x item seq prior (before ++ after) else d.post st (.loanRefused .journalFull none) := by
      rw [Desk.cancelLast, hnewest]
      rfl
    constructor
    · intro hfull
      rw [hcancel, if_neg (by simp [hfull])]
    · intro hroom restored recorded ended
      have hrestored : restored = d.restoreItem item prior := by
        cases prior with
        | none => rfl
        | some e => rfl
      have hopen : recorded.context st = .opened x := by
        rw [Desk.context_of_stations (a := s.desk) ?_, hx]
        simp only [recorded, hrestored, Desk.append_keeps, Desk.changeBorrower_keeps, Desk.restoreItem_stations]
        exact s.desk.lapseAtRead_stations st item
      have hended : ended = (recorded.onSession st fun y => { y with items := before ++ after }).resensitise st :=
        (Desk.onSession_resensitise hopen fun y => { y with items := before ++ after }).symm
      rw [hcancel, if_pos hroom, hended]
      simp only [recorded, hrestored]
      rfl

/-- Settles O13: a session's end with a slip and without, and the two rows that end one. -/
theorem sessionEnds : Obligations.SessionEnds := by
  unfold Obligations.SessionEnds
  refine ⟨fun s st x hp hx => ?_, fun d st x next => ⟨fun j => Desk.endSession_slip, Desk.endSession_plain⟩⟩
  rw [exec_on (c := .endCard st) rfl hp, exec_on (c := .idleTimeout st) rfl hp, Desk.endCard, Desk.closeSession_opened hx]
  refine ⟨fun j hprints hslip => ?_, fun hplain => ?_⟩
  · rw [Desk.endSession_slip hprints hslip]
    exact ⟨rfl, rfl⟩
  · rw [Desk.endSession_plain hplain]
    exact ⟨rfl, rfl⟩

end Sys2Proof.Proofs
end

section
/-! PROOF. The desk mode (R77, R78), the end of a lookup (R48 to R53, R85, R133), and the block check (R56). -/

namespace Sys2Proof.Machine

/-! ## Requests that are the desk's decision (R185) -/

theorem exec_dispatched {c : Instr} {tag : Byte} {decide : Desk → Decision} {s : State}
    (hc : exec c s = .next (s.powered fun s => s.deskRequest tag decide)) (h : s.Dispatches) :
    exec c s = .next (s.afterReply tag (decide s.desk.frameArrives)) := by
  rw [hc, State.deskRequest_dispatched s tag decide h]

/-! ## The desk mode (R77, R78) -/

section
variable {d : Desk}

theorem Desk.openDesk_opened (h : d.mode = .opened) : d.openDesk = d := by
  simp [openDesk, h]

theorem Desk.openDesk_other (h : d.mode ≠ .opened) :
    d.openDesk = ({ d with mode := .opened, closingTimer := none }).append none .none (.deskMode .opened) := by
  simp [openDesk, h, appendPlain]

theorem Desk.closeDesk_closed (h : d.mode = .closed) : d.closeDesk = d := by
  simp [closeDesk, h]

theorem Desk.closeDesk_opened (h : d.mode = .opened) : d.closeDesk = d.beginClosing := by
  simp [closeDesk, h]

theorem Desk.closeDesk_closing (h : d.mode = .closing) : d.closeDesk = d.forceClose := by
  simp [closeDesk, h]

theorem Desk.beginClosing_eq (d : Desk) : d.beginClosing =
    if d.settings.closingGrace = 0 then (({ d with mode := .closing, closingTimer := some d.settings.closingGrace }).append none .none
      (.deskMode .closing)).forceClose
    else (({ d with mode := .closing, closingTimer := some d.settings.closingGrace }).append none .none
      (.deskMode .closing)).testClosing := by
  simp [beginClosing, appendPlain]

theorem Desk.anyServing_of_stations {a b : Desk} (h : b.stations = a.stations) : b.anyServing = a.anyServing := by
  simp only [anyServing, context, h]

theorem Desk.testClosing_empty (hmode : d.mode = .closing) (hnone : d.anyServing = false) : d.testClosing = d.becomeClosed := by
  simp [testClosing, hmode, hnone]

theorem Desk.testClosing_other (h : d.mode ≠ .closing ∨ d.anyServing = true) : d.testClosing = d := by
  rcases h with h | h <;> simp [testClosing, h]

theorem Desk.graceExpiry_running (hmode : d.mode = .closing) (htimer : d.closingTimer ≠ none) : d.graceExpiry = d.forceClose := by
  simp [graceExpiry, hmode, Option.isSome_iff_ne_none, htimer]

theorem Desk.graceExpiry_stopped (h : d.mode ≠ .closing ∨ d.closingTimer = none) : d.graceExpiry = d := by
  rcases h with h | h <;> simp [graceExpiry, h]

theorem Context.serving_iff {c : Context} : c.serving = true ↔ (∃ x, c = .opened x) ∨ ∃ r, c = .lookup r := by
  cases c <;> simp [serving]

theorem Desk.anyServing_iff : d.anyServing = true ↔ ∃ st, (∃ x, d.context st = .opened x) ∨ ∃ r, d.context st = .lookup r := by
  simp only [← Context.serving_iff]
  rw [← Bool.not_eq_false, anyServing_eq_false_iff]
  simp [servingAt]

theorem Desk.stopStation_unserved {st : StationId} (h : d.context st = .idle ∨ d.context st = .disabled) (next : Context) :
    d.stopStation next st = d := by
  rcases h with h | h <;> simp [stopStation, h]

end

/-! ## The arbiter is told of a station's state (R133) -/

theorem Desk.journalFull_iff (d : Desk) : d.journalFull = true ↔ 16384 - d.journal.held.length ≤ d.settings.returnReserve :=
  decide_eq_true_iff

section
variable {d : Desk} {st : StationId} {next : Context}

theorem Desk.setContext_serving (h : next.serving = true) : d.setContext st next =
    if d.journalFull = true ∧ (d.arbiters.get st).has .journalFull = false then
      (d.onStation st fun e => { e with context := next }).post st .journalFull
    else d.onStation st fun e => { e with context := next } := by
  have hserving : ((d.onStation st fun e => { e with context := next }).context st).serving = true := by
    simpa [context] using h
  simp only [setContext, tellStation, hserving, if_true, Bool.and_eq_true, Bool.not_eq_true']
  rfl

theorem Desk.setContext_unserved (h : next.serving = false) : d.setContext st next =
    if (d.arbiters.get st).has .journalFull = true then
      (d.onStation st fun e => { e with context := next }).removePrompt st .journalFull
    else d.onStation st fun e => { e with context := next } := by
  have hserving : ((d.onStation st fun e => { e with context := next }).context st).serving = false := by
    simpa [context] using h
  simp only [setContext, tellStation, hserving]
  rfl

end

/-! ## The end of a lookup (R49, R51, R85) -/

theorem Desk.lookupExpiry_other {d : Desk} {st : StationId} (h : ∀ r, d.context st ≠ .lookup r) : d.lookupExpiry st = d := by
  unfold lookupExpiry
  split
  · next r hr => exact absurd hr (h r)
  · rfl

theorem Desk.lookupExpiry_lookup {d : Desk} {st : StationId} {r : Lookup} (h : d.context st = .lookup r) :
    d.lookupExpiry st = (d.lookupTimesOut st r).testClosing.drain st := by
  simp [lookupExpiry, h, afterLookup]

theorem Desk.blockCheck_of {a b : Desk} (htables : b.tables = a.tables) (hclock : b.clock = a.clock) (card : Code) :
    b.blockCheck card = a.blockCheck card := by
  simp only [blockCheck, htables, hclock]

theorem Desk.dropLookup_blockCheck (d : Desk) (st : StationId) (card : Code) : (d.dropLookup st).blockCheck card = d.blockCheck card :=
  blockCheck_of (by simp [dropLookup]) (by simp [dropLookup]) card

theorem Desk.blockChecked_tables (d : Desk) (st : StationId) (card : Code) : (d.blockChecked st card).tables = d.tables := by
  simp [← blockNotice_blockCheck]

section
variable {d : Desk} {st : StationId} {card : Code}

theorem Desk.openFromLookup_refuse {e : BlockEntry} (hwinner : d.blockCheck card = some e) (haction : e.action = .refuse) :
    d.openFromLookup st card =
      (((d.dropLookup st).blockChecked st card).setContext st .idle).post st (.borrowerBlocked e.reason) :=
  screened_refuse ((d.dropLookup_blockCheck st card).trans hwinner) haction

theorem Desk.openFromLookup_pass {b : Borrower} (hb : d.borrower card = some b)
    (hwinner : ∀ e, d.blockCheck card = some e → e.action ≠ .refuse) :
    d.openFromLookup st card = ((d.dropLookup st).blockChecked st card).withSession st card b (d.blockCheck card) := by
  have hcheck := d.dropLookup_blockCheck st card
  refine (screened_pass (hcheck ▸ hwinner)).trans ?_
  rw [hcheck]
  refine openSession_of_borrower ?_ st _
  rw [borrower_of_tables (a := d) (by rw [blockChecked_tables]; simp [dropLookup]), hb]

end

/-! ## LOOKUP_REPLY (R47 to R53) -/

theorem borrowerOf_eq {card : CodeField} {c : Code} (hc : CodeField.code card = some c) {category loansHeld holdsReady : Byte}
    (h : category.toNat ≤ 15 ∧ loansHeld.toNat ≤ 99 ∧ holdsReady.toNat ≤ 15) (finesOwed expiryDay : Half) :
    borrowerOf card category loansHeld holdsReady finesOwed expiryDay =
      some ⟨c, category.toNat, loansHeld.toNat, holdsReady.toNat, finesOwed.toNat, expiryDay.toNat, false⟩ := by
  simp [borrowerOf, hc, h]

theorem borrowerOf_none {card : CodeField} (hc : CodeField.code card = none) (category loansHeld holdsReady : Byte)
    (finesOwed expiryDay : Half) : borrowerOf card category loansHeld holdsReady finesOwed expiryDay = none := by
  simp [borrowerOf, hc]

theorem borrowerOf_out {category loansHeld holdsReady : Byte} (h : ¬ (category.toNat ≤ 15 ∧ loansHeld.toNat ≤ 99 ∧ holdsReady.toNat ≤ 15))
    (card : CodeField) (finesOwed expiryDay : Half) : borrowerOf card category loansHeld holdsReady finesOwed expiryDay = none := by
  unfold borrowerOf
  split
  · exact if_neg (by simpa [and_assoc] using h)
  · rfl

section
variable {d : Desk}

theorem Desk.replyInTime_full {st : StationId} {b : Borrower} (hb : d.borrower b.card = none) (hfull : d.borrowerTableFull = true) :
    d.replyInTime st b =
      ((((d.raiseAlarm .tableFull).leaveLookup st .idle).post st (.loanRefused .tableFull none)).testClosing.drain st).answer .full := by
  simp [replyInTime, hb, hfull, refuse, afterLookup]

theorem Desk.replyInTime_room {st : StationId} {b : Borrower} (h : d.borrower b.card ≠ none ∨ d.borrowerTableFull = false) :
    d.replyInTime st b = (((d.putBorrower b).openFromLookup st b.card).testClosing.drain st).answer .ok := by
  refine if_neg ?_
  rcases h with h | h
  · simp [h]
  · simp [h]

theorem Desk.replyLate_none {b : Borrower} (hb : d.borrower b.card = none) :
    d.replyLate b = if d.borrowerTableFull then (d.raiseAlarm .tableFull).answer .full else (d.putBorrower b).answer .ok := by
  simp [replyLate, hb]

theorem Desk.replyLate_some {b old : Borrower} (hb : d.borrower b.card = some old) :
    d.replyLate b = if old.provisional then ((d.putBorrower (old.merge b)).confirmSessions b.card).answer .ok else d.answer .ok := by
  simp [replyLate, hb]

end

/-! ## The block check (R56) -/

theorem BlockEntry.matches_iff (e : BlockEntry) (today : Nat) (card : Code) : e.matches today card = true ↔
    card.length = e.key.cardLength ∧ card.take (card.length - e.key.k) = e.key.pattern ∧
      ∀ day, e.expiryDay = some day → today ≤ day := by
  unfold BlockEntry.matches
  cases e.expiryDay <;> simp [and_assoc]

/-- Of the best so far and another match, `stronger` keeps the stronger. -/
theorem BlockEntry.stronger_some (b e : BlockEntry) : ∃ w, BlockEntry.stronger (some b) e = some w ∧ (w = b ∨ w = e) ∧
    w.strength ≤ b.strength ∧ w.strength ≤ e.strength := by
  unfold BlockEntry.stronger
  by_cases h : e.strength < b.strength
  · exact ⟨e, if_pos h, .inr rfl, Nat.le_of_lt h, le_rfl⟩
  · exact ⟨b, if_neg h, .inl rfl, le_rfl, Nat.le_of_not_lt h⟩

/-- The fold over the matches after a first one finds one that no other is stronger than. -/
theorem BlockEntry.foldl_stronger (l : List BlockEntry) : ∀ b : BlockEntry, ∃ w, l.foldl BlockEntry.stronger (some b) = some w ∧
    w ∈ b :: l ∧ ∀ o ∈ b :: l, w.strength ≤ o.strength := by
  induction l with
  | nil => exact fun b => ⟨b, rfl, List.mem_singleton_self b, List.forall_mem_singleton.2 le_rfl⟩
  | cons a l ih =>
    intro b
    obtain ⟨m, hm, hone, hmb, hma⟩ := BlockEntry.stronger_some b a
    obtain ⟨w, hw, hmem, hleast⟩ := ih m
    obtain ⟨hwm, hwl⟩ := List.forall_mem_cons.1 hleast
    refine ⟨w, by rw [List.foldl_cons, hm, hw], ?_, List.forall_mem_cons.2 ⟨hwm.trans hmb, List.forall_mem_cons.2 ⟨hwm.trans hma, hwl⟩⟩⟩
    rcases List.mem_cons.1 hmem with rfl | hin
    · rcases hone with rfl | rfl
      · exact List.mem_cons_self
      · exact List.mem_cons_of_mem _ List.mem_cons_self
    · exact List.mem_cons_of_mem _ (List.mem_cons_of_mem _ hin)

/-- What a block check can answer: nothing matches, or the strongest match. -/
theorem Desk.blockCheck_cases (d : Desk) (card : Code) :
    (d.blockCheck card = none ∧ d.tables.blocks.filter (fun e => e.matches d.clock.day card) = []) ∨
    ∃ w, d.blockCheck card = some w ∧ w ∈ d.tables.blocks.filter (fun e => e.matches d.clock.day card) ∧
      ∀ o ∈ d.tables.blocks.filter (fun e => e.matches d.clock.day card), w.strength ≤ o.strength := by
  unfold blockCheck
  cases d.tables.blocks.filter fun e => e.matches d.clock.day card with
  | nil => exact .inl ⟨rfl, rfl⟩
  | cons b l => exact .inr (BlockEntry.foldl_stronger l b)

/-- The place of an action among REFUSE, REFER and WATCH. -/
def BlockAction.place (a : BlockAction) : Nat :=
  match a with
  | .refuse => 0
  | .refer => 1
  | .watch => 2

theorem BlockAction.number_eq (a : BlockAction) : a.number = a.place + 1 ∧ a.place ≤ 2 := by
  cases a <;> decide

theorem BlockEntry.strength_le_iff (e o : BlockEntry) :
    e.strength ≤ o.strength ↔ e.key.k < o.key.k ∨ (e.key.k = o.key.k ∧ e.action.place ≤ o.action.place) := by
  have he := e.action.number_eq
  have ho := o.action.number_eq
  unfold BlockEntry.strength
  omega

end Sys2Proof.Machine

namespace Sys2Proof.Proofs
open Sys2Proof.Machine

/-- Settles O14: the modes of a DESK_MODE request, the grace timer, and what a closing is made of. -/
theorem deskModeChanges : Obligations.DeskModeChanges := by
  unfold Obligations.DeskModeChanges
  refine ⟨fun s tag hs => ?requests, fun s hp => ?grace, fun d => ?parts⟩
  case requests =>
    have hopens := exec_dispatched (c := .deskModeOpen tag) (decide := fun d => d.openDesk.answer .ok) rfl hs
    have hcloses := exec_dispatched (c := .deskModeClose tag) (decide := fun d => d.closeDesk.answer .ok) rfl hs
    intro d opens closes closing
    have hbegin (hmode : d.mode = .opened) : exec (.deskModeClose tag) s = .next (s.afterReply tag (d.beginClosing.answer .ok)) := by
      rw [← Desk.closeDesk_opened hmode]
      exact hcloses
    have hserving : closing.anyServing = d.anyServing := Desk.anyServing_of_stations (by simp [closing])
    refine ⟨fun hmode => ?_, fun hmode => ?_, fun hmode => ?_, fun hmode hgrace => ?_, fun hmode hgrace hserves => ?_,
      fun hmode hgrace hnone => ?_, fun hmode => ?_⟩
    · exact hopens.trans (by rw [Desk.openDesk_opened hmode])
    · exact hopens.trans (by rw [Desk.openDesk_other hmode])
    · exact hcloses.trans (by rw [Desk.closeDesk_closed hmode])
    · exact (hbegin hmode).trans (by rw [Desk.beginClosing_eq, if_pos hgrace])
    · exact (hbegin hmode).trans (by rw [Desk.beginClosing_eq, if_neg hgrace, Desk.testClosing_other (.inr (hserving.trans hserves))])
    · have hclosing : closing.mode = .closing := by simp [closing]
      exact (hbegin hmode).trans (by
        rw [Desk.beginClosing_eq, if_neg hgrace, Desk.testClosing_empty hclosing (hserving.trans hnone)])
    · exact hcloses.trans (by rw [Desk.closeDesk_closing hmode])
  case grace =>
    rw [exec_on (c := .closingGraceExpiry) rfl hp]
    exact ⟨fun hmode htimer => by rw [Desk.graceExpiry_running hmode htimer], fun h => by rw [Desk.graceExpiry_stopped h]⟩
  case parts =>
    exact ⟨Desk.anyServing_iff, fun st next => ⟨fun x hx => by simp only [Desk.stopStation, hx], fun r hr => by simp only [Desk.stopStation, hr],
      fun h => Desk.stopStation_unserved h next⟩, rfl, rfl, Desk.testClosing_empty, Desk.testClosing_other⟩

/-- Settles O15: the three ends of a timed-out lookup, the fresh block check, and what the arbiter is told of a state. -/
theorem lookupTimesOut : Obligations.LookupTimesOut := by
  unfold Obligations.LookupTimesOut
  refine ⟨fun s st hp => ?expiry, fun d st => ?ended, fun d st next => ?told⟩
  case expiry =>
    rw [exec_on (c := .lookupTimeout st) rfl hp]
    refine ⟨fun hother => by rw [Desk.lookupExpiry_other hother], fun r hr => ?_⟩
    rw [Desk.lookupExpiry_lookup hr]
    refine ⟨fun hcap => ?_, fun hcap hfull => ?_, fun hcap hroom => ?_⟩
    · rw [Desk.lookupTimesOut, Desk.askProvisional_capped hcap]
    · rw [Desk.lookupTimesOut, Desk.askProvisional_full hcap hfull]
    · rw [Desk.lookupTimesOut, Desk.askProvisional_opens hcap hroom]
      rfl
  case ended =>
    exact ⟨fun next => rfl, fun card b hb => ⟨fun e => Desk.openFromLookup_refuse, Desk.openFromLookup_pass hb⟩⟩
  case told =>
    intro changed serving full told
    have hserving : serving ↔ next.serving = true := Context.serving_iff.symm
    have hfull : full ↔ d.journalFull = true := d.journalFull_iff.symm
    have htold : told ↔ (d.arbiters.get st).has .journalFull = true := Arbiter.has_iff.symm
    rw [hserving, hfull, htold, Bool.not_eq_true, Bool.not_eq_true, Bool.not_eq_true]
    refine ⟨fun hs hf ht => ?_, fun hs hstands => ?_, fun hs ht => ?_, fun hs ht => ?_⟩
    · rw [Desk.setContext_serving hs, if_pos ⟨hf, ht⟩]
    · rw [Desk.setContext_serving hs, if_neg]
      rintro ⟨hf, ht⟩
      rcases hstands with h | h
      · exact Bool.false_ne_true (h.symm.trans hf)
      · exact Bool.false_ne_true (ht.symm.trans h)
    · rw [Desk.setContext_unserved hs, if_pos ht]
    · rw [Desk.setContext_unserved hs, if_neg (by simp [ht])]

/-- Settles O16: a reply's operands, then whether a station waits for its card, then what its card's entry is. -/
theorem lookupRepliesAnswered : Obligations.LookupRepliesAnswered := by
  unfold Obligations.LookupRepliesAnswered
  intro s tag card category loansHeld holdsReady finesOwed expiryDay hs
  have hfound := exec_dispatched (c := .lookupReplyFound tag card category loansHeld holdsReady finesOwed expiryDay)
    (decide := fun d => d.lookupFound card category loansHeld holdsReady finesOwed expiryDay) rfl hs
  have hnotFound := exec_dispatched (c := .lookupReplyNotFound tag card) (decide := fun d => d.lookupNotFound card) rfl hs
  intro d found notFound entry inRange
  have hbad (h : borrowerOf card category loansHeld holdsReady finesOwed expiryDay = none) : found (d.answer .badArg) :=
    hfound.trans (by rw [Desk.lookupFound, h])
  refine ⟨fun hcode => ⟨hbad (borrowerOf_none hcode ..), hnotFound.trans (by rw [Desk.lookupNotFound, hcode])⟩,
    fun hout => hbad (borrowerOf_out hout ..), fun c hc => ⟨fun st hst => ?inTime, fun hnone => ?late⟩⟩
  case inTime =>
    have hreply (hin : inRange) : found (d.replyInTime st (entry c)) :=
      hfound.trans (by rw [Desk.lookupFound, borrowerOf_eq hc hin]; simp only [hst, d, entry])
    refine ⟨fun hin hb hfull => ?_, fun hin h => ?_, hnotFound.trans ?_⟩
    · exact (hreply hin).trans (by rw [Desk.replyInTime_full hb hfull])
    · exact (hreply hin).trans (by rw [Desk.replyInTime_room h])
    · rw [Desk.lookupNotFound, hc]
      simp only [hst, d]
      rfl
  case late =>
    have hreply (hin : inRange) : found (d.replyLate (entry c)) :=
      hfound.trans (by rw [Desk.lookupFound, borrowerOf_eq hc hin]; simp only [hnone, d, entry])
    have habsent : notFound ((d.notFoundLate c).answer .ok) :=
      hnotFound.trans (by rw [Desk.lookupNotFound, hc]; simp only [hnone, d])
    refine ⟨fun hin hb hfull => ?_, fun hin hb hroom => ?_, fun hb => ?_, fun old hold => ⟨fun hin hown => ?_, fun hin hprov => ?_,
      fun hown => ?_, fun hprov => ?_⟩⟩
    · exact (hreply hin).trans (by rw [Desk.replyLate_none hb, if_pos hfull])
    · exact (hreply hin).trans (by rw [Desk.replyLate_none hb, if_neg (by simp [hroom])])
    · exact habsent.trans (by simp only [Desk.notFoundLate, hb])
    · exact (hreply hin).trans (by rw [Desk.replyLate_some hold, if_neg (by simp [hown])])
    · exact (hreply hin).trans (by rw [Desk.replyLate_some hold, if_pos hprov]; rfl)
    · exact habsent.trans (by simp only [Desk.notFoundLate, hold, hown]; rfl)
    · exact habsent.trans (by simp only [Desk.notFoundLate, hold, hprov]; rfl)

/-- Settles O17: the fold over today's matches finds the strongest. -/
theorem blockCheckPicksTheWinner : Obligations.BlockCheckPicksTheWinner := by
  unfold Obligations.BlockCheckPicksTheWinner
  intro d card fits place
  have hfits (e : BlockEntry) : e.matches d.clock.day card = true ↔ fits e := e.matches_iff d.clock.day card
  rcases d.blockCheck_cases card with ⟨hnone, hempty⟩ | ⟨w, hw, hmem, hleast⟩
  · refine ⟨iff_of_true hnone fun e he hfit => ?_, fun e he => by rw [hnone] at he; cases he⟩
    exact List.filter_eq_nil_iff.1 hempty e he ((hfits e).2 hfit)
  · obtain ⟨hin, hmatch⟩ := List.mem_filter.1 hmem
    refine ⟨iff_of_false (by simp [hw]) fun hnot => hnot w hin ((hfits w).1 hmatch), fun e he => ?_⟩
    obtain rfl : w = e := Option.some.inj (hw.symm.trans he)
    exact ⟨hin, (hfits w).1 hmatch, fun o ho hfit =>
      (w.strength_le_iff o).1 (hleast o (List.mem_filter.2 ⟨ho, (hfits o).2 hfit⟩))⟩

end Sys2Proof.Proofs
end

section
/-! PROOF. The clock (R20 to R29), the day-change event and the upload minute (R21, R22, R170, R171), and the sweep (R59, R70 to R72). -/

namespace Sys2Proof.Machine

/-! ## A completed second (R20, R29) -/

theorem Clock.count_eq (c : Clock) : c.count = c.secondLater := rfl

theorem Desk.clockMoved_eq (d : Desk) (old : Clock) : d.clockMoved old =
    if old.day = d.clock.day ∧ old.minute = d.clock.minute then if old.day < d.clock.day then d.dayChange d.clock.day else d
    else (if old.day < d.clock.day then d.dayChange d.clock.day else d).announceMinute := by
  have hclock : (if old.day < d.clock.day then d.dayChange d.clock.day else d).clock = d.clock := by
    split
    · simp
    · rfl
  simp only [clockMoved, hclock, Bool.and_eq_true, decide_eq_true_iff]

theorem Desk.syncState_localTime {d : Desk} (h : d.settings.timeSource = .localTime) : d.syncState = .localTime := by
  simp [syncState, h]

theorem Desk.syncState_marks {d : Desk} (h : d.settings.timeSource = .marks) :
    d.syncState = if d.clock.markAge ≤ d.settings.markAgeLimit * 3600 then .synced else .unsynced := by
  simp [syncState, h]

theorem Desk.reportSync_eq (d : Desk) : d.reportSync = d.reportCondition .clockUnsynced (decide (d.syncState = .unsynced)) := rfl

/-! ## The day-change event and the upload minute (R21, R22, R171) -/

theorem Desk.pruneExceptions_eq (d : Desk) (t : Nat) : d.pruneExceptions t =
    d.onTables fun x => { x with exceptions := x.exceptions.filter fun e => decide (t < 400) || decide (t - 400 ≤ e.day) } := by
  unfold pruneExceptions
  split
  · next hlate =>
    have hfilter (e : ExceptionEntry) : (!decide (e.day < t - 400)) = (decide (t < 400) || decide (t - 400 ≤ e.day)) := by
      rw [decide_eq_false (Nat.not_lt.2 hlate), Bool.false_or, ← decide_not, Bool.decide_congr Nat.not_lt]
    simp only [hfilter]
  · next hearly =>
    have hlt : t < 400 := Nat.lt_of_not_le hearly
    simp [hlt, onTables]

theorem Desk.dayChange_eq (d : Desk) (t : Nat) : d.dayChange t =
    { d with
      sweep := some ⟨t, .items none⟩
      tables := { d.tables with exceptions := d.tables.exceptions.filter fun e => decide (t < 400) || decide (t - 400 ≤ e.day) }
      upload := { d.upload with waiting := d.upload.waiting.filter fun w => decide (t ≤ w) } } := by
  have hfilter (w : Nat) : (!decide (w < t)) = decide (t ≤ w) := by
    rw [← decide_not, Bool.decide_congr Nat.not_lt]
  simp only [dayChange, pruneExceptions_eq, uploadDayChange, hfilter]
  rfl

theorem Desk.uploadMayStart_iff (d : Desk) :
    d.uploadMayStart = true ↔ d.upload.state = .idle ∧ d.mode = .closed ∧ d.link ≠ .offline := by
  simp [uploadMayStart, UploadState.isIdle_iff, isOffline, and_assoc]

theorem Desk.announceMinute_other {d : Desk} (h : d.settings.uploadMinute ≠ some d.clock.minute) : d.announceMinute = d := if_neg h

theorem Desk.announceMinute_upload {d : Desk} (h : d.settings.uploadMinute = some d.clock.minute) : d.announceMinute =
    if d.uploadMayStart = true then d.startUpload else { d with upload := { d.upload with waiting := some d.clock.day } } := if_pos h

/-! ## Settings of the clock (R25 to R28) -/

theorem ClockCause.markAge_eq (cause : ClockCause) (age : Nat) : cause.markAge age = if cause = .set then age else 0 := by
  cases cause <;> rfl

theorem ClockCause.records_iff (cause : ClockCause) (differs : Bool) :
    cause.records differs = true ↔ cause = .set ∨ differs = true := by
  cases cause <;> simp [records]

/-- The desk with the clock that a setting gives it. -/
def Desk.clockGiven (d : Desk) (cause : ClockCause) (day minute second : Nat) : Desk :=
  { d with clock := ⟨day, minute, second, 0, if cause = .set then d.clock.markAge else 0, none⟩ }

theorem Desk.setClock_eq (d : Desk) (cause : ClockCause) (day minute second : Nat) : d.setClock cause day minute second =
    (if cause = .set ∨ day ≠ d.clock.day then
      ((d.clockGiven cause day minute second).clockMoved d.clock).append none .none (.clockChange cause)
    else (d.clockGiven cause day minute second).clockMoved d.clock).reportSync := by
  simp only [setClock, ClockCause.records_iff, bne_iff_ne, ClockCause.markAge_eq]
  rfl

theorem Desk.setClock_clock (d : Desk) (cause : ClockCause) (day minute second : Nat) :
    (d.setClock cause day minute second).clock = (d.clockGiven cause day minute second).clock := by
  rw [setClock_eq]
  split <;> simp

theorem absDiff_le_iff {a b n : Nat} : absDiff a b ≤ n ↔ a ≤ b + n ∧ b ≤ a + n := by
  unfold absDiff
  omega

theorem clockArgs_iff (minute : Half) (second : Byte) : clockArgs minute second = true ↔ minute.toNat ≤ 1439 ∧ second.toNat ≤ 59 := by
  simp [clockArgs]

section
variable {d : Desk} {day minute : Half} {second : Byte}

theorem Desk.timeMark_bad (h : clockArgs minute second = false) : d.timeMark day minute second = d.answer .badArg := by
  simp [timeMark, h]

theorem Desk.timeMark_localTime (h : clockArgs minute second = true) (hsource : d.settings.timeSource = .localTime) :
    d.timeMark day minute second = d.answer .ok := by
  simp [timeMark, h, hsource]

theorem Desk.timeMark_marks (h : clockArgs minute second = true) (hsource : d.settings.timeSource = .marks) :
    d.timeMark day minute second =
      if d.mode = .closed ∨ absDiff (secondsOf day.toNat minute.toNat second.toNat) d.clock.seconds ≤ d.settings.stepLimit * 60 then
        (d.setClock .mark day.toNat minute.toNat second.toNat).answer .ok
      else (({ d with clock := { d.clock with pendingMark := some ⟨day.toNat, minute.toNat, second.toNat, 0⟩ } }).raiseAlarm
        .clockDispute).answer .badState := by
  simp [timeMark, h, hsource]

end

theorem Desk.applyPendingMark_some {d : Desk} {p : PendingMark} (h : d.clock.pendingMark = some p) :
    d.applyPendingMark = d.setClock .pendingMark (p.due / 86400) (p.due % 86400 / 60) (p.due % 60) := by
  simp [applyPendingMark, h, clockOf]

theorem Desk.applyPendingMark_none {d : Desk} (h : d.clock.pendingMark = none) : d.applyPendingMark = d := by
  simp [applyPendingMark, h]

/-! ## The sweep (R59, R70, R71) -/

section
variable {d : Desk} {day : Nat}

theorem Desk.settleBlockPhase_some {position : Option BlockKey} (h : d.followingBlock position ≠ none) :
    d.settleBlockPhase day position = { d with sweep := some ⟨day, .blocks position⟩ } :=
  if_pos (Option.isSome_iff_ne_none.2 h)

theorem Desk.settleBlockPhase_none {position : Option BlockKey} (h : d.followingBlock position = none) :
    d.settleBlockPhase day position = { d with sweep := none } := if_neg (by simp [h])

theorem Desk.settleSweep_none (h : d.sweep = none) : d.settleSweep = d := by
  simp [settleSweep, h]

theorem Desk.settleSweep_items {position : Option Code} (h : d.sweep = some ⟨day, .items position⟩) :
    d.settleSweep = if (d.followingItem position).isSome then d else d.settleBlockPhase day none := by
  simp [settleSweep, h]

theorem Desk.settleSweep_blocks {position : Option BlockKey} (h : d.sweep = some ⟨day, .blocks position⟩) :
    d.settleSweep = d.settleBlockPhase day position := by
  simp [settleSweep, h]

theorem Desk.sweepStep_none (h : d.sweep = none) : d.sweepStep = d := by
  simp [sweepStep, settleSweep, sweepExamine, h]

theorem Desk.sweepStep_item {position : Option Code} {e : ItemEntry} (h : d.sweep = some ⟨day, .items position⟩)
    (he : d.followingItem position = some e) : d.sweepStep = (d.sweepItem day e).settleSweep := by
  simp [sweepStep, settleSweep_items h, he, sweepExamine, h]

theorem Desk.sweepStep_block {position : Option BlockKey} {e : BlockEntry} (h : d.sweep = some ⟨day, .blocks position⟩)
    (he : d.followingBlock position = some e) : d.sweepStep = (d.sweepBlock day e).settleSweep := by
  have hsame : d.settleSweep = d := by
    rw [settleSweep_blocks h, settleBlockPhase_some (by simp [he]), ← h]
  simp [sweepStep, hsame, sweepExamine, h, he]

theorem Desk.sweepItem_lapses {e : ItemEntry} {hold : Code} {pickup : Nat} (hstatus : e.status = .onHoldShelf hold pickup)
    (hlate : pickup < day) : d.sweepItem day e =
      ({ d with sweep := some ⟨day, .items (some e.code)⟩ }).lapse none e.code hold pickup := by
  simp [sweepItem, hstatus, hlate]

theorem Desk.sweepItem_stands {e : ItemEntry} (h : ∀ hold pickup, e.status = .onHoldShelf hold pickup → day ≤ pickup) :
    d.sweepItem day e = { d with sweep := some ⟨day, .items (some e.code)⟩ } := by
  simp only [sweepItem]
  split
  · next hold pickup hstatus => exact if_neg (Nat.not_lt.2 (h hold pickup hstatus))
  · rfl

theorem BlockEntry.expired_iff (e : BlockEntry) : e.expired day = true ↔ ∃ x, e.expiryDay = some x ∧ x < day := by
  unfold BlockEntry.expired
  cases e.expiryDay <;> simp

end

/-! ## A lapsed hold at a decision's read (R72) -/

theorem Desk.lapseAtRead_lapses {d : Desk} {item : Code} {itemClass : Option Nat} {hold : Code} {pickup : Nat}
    (h : d.item item = some ⟨item, itemClass, .onHoldShelf hold pickup⟩) (hlate : pickup < d.clock.day) (st : StationId) :
    d.lapseAtRead st item = d.lapse (some st) item hold pickup := by
  simp [lapseAtRead, h, hlate]

theorem Desk.lapseAtRead_stands {d : Desk} {item : Code}
    (h : ∀ e hold pickup, d.item item = some e → e.status = .onHoldShelf hold pickup → d.clock.day ≤ pickup) (st : StationId) :
    d.lapseAtRead st item = d := by
  unfold lapseAtRead
  split
  · next hold pickup hitem => exact if_neg (Nat.not_lt.2 (h _ hold pickup hitem rfl))
  · rfl

end Sys2Proof.Machine

namespace Sys2Proof.Proofs
open Sys2Proof.Machine

/-- Settles O18: the second with power and in an outage, and the sync state's rows. -/
theorem secondCompletes : Obligations.SecondCompletes := by
  unfold Obligations.SecondCompletes
  refine ⟨fun s => ?second, fun d => ⟨Desk.syncState_localTime, fun hm hle => ?_, fun hm hlt => ?_, d.reportSync_eq⟩⟩
  case second =>
    intro d counted dayed told
    have hsecond : d.second = told.reportSync := congrArg Desk.reportSync (counted.clockMoved_eq d.clock)
    refine ⟨fun hp => ?_, fun hp hb => ?_, fun hp hb => ?_⟩
    · rw [← hsecond]
      exact congrArg _ (State.second_powered s hp)
    · rw [← hsecond]
      exact congrArg _ (State.second_outage s hp hb)
    · exact congrArg _ (State.second_batteryFell s hp hb)
  · rw [Desk.syncState_marks hm, if_pos hle]
  · rw [Desk.syncState_marks hm, if_neg (Nat.not_le.2 hlt)]

/-- Settles O19: each event's own equation, and the parts of a setting in their order. -/
theorem clockEventsAndSettings : Obligations.ClockEventsAndSettings := by
  unfold Obligations.ClockEventsAndSettings
  refine ⟨⟨Desk.dayChange_eq, fun d => ⟨Desk.announceMinute_other, fun hminute hmay => ?_, fun hminute hmay => ?_⟩⟩,
    fun d cause day minute second => ⟨?_, d.setClock_clock cause day minute second⟩⟩
  · rw [Desk.announceMinute_upload hminute, if_pos (d.uploadMayStart_iff.2 hmay)]
  · rw [Desk.announceMinute_upload hminute, if_neg (mt d.uploadMayStart_iff.1 hmay)]
  · rw [d.setClock_eq, Desk.clockMoved_eq]
    rfl

/-- Settles O20: the tests of R24 and R25 in order, and the pending mark's due time. -/
theorem marksAndClockSets : Obligations.MarksAndClockSets := by
  unfold Obligations.MarksAndClockSets
  refine ⟨fun s tag day minute second hs => ?requests, fun d => ⟨Desk.applyPendingMark_none, fun p => Desk.applyPendingMark_some, ?pending⟩⟩
  case requests =>
    have hmarks := exec_dispatched (c := .timeMark tag day minute second) (decide := fun d => d.timeMark day minute second) rfl hs
    have hsets := exec_dispatched (c := .clockSet tag day minute second) (decide := fun d => d.clockSet day minute second) rfl hs
    intro d marks sets mark now within wellFormed
    have hargs : clockArgs minute second = true ↔ wellFormed := clockArgs_iff minute second
    have hwithin : absDiff (secondsOf day.toNat minute.toNat second.toNat) d.clock.seconds ≤ d.settings.stepLimit * 60 ↔ within :=
      absDiff_le_iff
    refine ⟨fun hbad => ?_, fun hgood => ?_, fun hgood hsource => ?_, fun hgood hsource => ⟨fun h => ?_, fun hmode hfar => ?_⟩⟩
    · have hbad := Bool.eq_false_iff.2 (mt hargs.1 hbad)
      exact ⟨hmarks.trans (by rw [Desk.timeMark_bad hbad]), hsets.trans (by rw [Desk.clockSet, if_neg (by simp [hbad])])⟩
    · exact hsets.trans (by rw [Desk.clockSet, if_pos (hargs.2 hgood)])
    · exact hmarks.trans (by rw [Desk.timeMark_localTime (hargs.2 hgood) hsource])
    · exact hmarks.trans (by rw [Desk.timeMark_marks (hargs.2 hgood) hsource, if_pos (h.imp_right hwithin.2)])
    · exact hmarks.trans (by rw [Desk.timeMark_marks (hargs.2 hgood) hsource, if_neg (not_or.2 ⟨hmode, mt hwithin.1 hfar⟩)])
  case pending =>
    cases h : d.clock.pendingMark with
    | none => rwa [Desk.applyPendingMark_none h]
    | some p =>
      rw [Desk.applyPendingMark_some h, Desk.setClock_clock]
      rfl

/-- Settles O23: one entry of a phase, the end of each phase, and the read of a lapsed hold. -/
theorem sweepSteps : Obligations.SweepSteps := by
  unfold Obligations.SweepSteps
  refine ⟨fun s hp => ?step, fun d => ⟨Desk.settleSweep_none, fun day position hsweep => ⟨fun hsome => ?_, fun hnone => ?_⟩,
    fun day position hsweep => ⟨fun hsome => ?_, fun hnone => ?_⟩⟩,
    fun d st item => ⟨fun itemClass hold pickup hitem hlate => Desk.lapseAtRead_lapses hitem hlate st, fun h => Desk.lapseAtRead_stands h st⟩⟩
  case step =>
    have hstep {s : State} (hp : s.desk.power.on = true) : exec .sweepStep s = .next (s.afterDesk s.desk.sweepStep) :=
      exec_on (c := .sweepStep) rfl hp
    rw [hstep hp]
    refine ⟨fun hnone => by rw [Desk.sweepStep_none hnone], fun day position e hsweep he => ?_, fun day position e hsweep he => ?_,
      fun day position hsweep hnone => ?_, fun day position hsweep hnone => ?_⟩
    · rw [Desk.sweepStep_item hsweep he]
      exact ⟨fun hold pickup hstatus hlate => by rw [Desk.sweepItem_lapses hstatus hlate]; rfl, fun h => by rw [Desk.sweepItem_stands h]⟩
    · rw [Desk.sweepStep_block hsweep he]
      refine ⟨fun x hx hlate => ?_, fun h => ?_⟩
      · rw [Desk.sweepBlock, if_pos (e.expired_iff.2 ⟨x, hx, hlate⟩)]
        rfl
      · rw [Desk.sweepBlock, if_neg]
        rw [e.expired_iff]
        rintro ⟨x, hx, hlate⟩
        exact Nat.not_le.2 hlate (h x hx)
    · rw [hstep (s := { s with desk := { s.desk with sweep := some ⟨day, .blocks none⟩ } }) hp]
      simp only [Desk.sweepStep, Desk.settleSweep_items hsweep, hnone]
      rfl
    · simp only [Desk.sweepStep, Desk.settleSweep_blocks hsweep, Desk.settleBlockPhase_none hnone]
      rfl
  · rw [Desk.settleSweep_items hsweep, if_pos (Option.isSome_iff_ne_none.2 hsome)]
  · have hblocks : d.settleSweep = d.settleBlockPhase day none := by
      rw [Desk.settleSweep_items hsweep, hnone]
      rfl
    exact ⟨fun hsome => hblocks.trans (Desk.settleBlockPhase_some hsome), fun hnone => hblocks.trans (Desk.settleBlockPhase_none hnone)⟩
  · rw [Desk.settleSweep_blocks hsweep, Desk.settleBlockPhase_some hsome]
  · rw [Desk.settleSweep_blocks hsweep, Desk.settleBlockPhase_none hnone]

end Sys2Proof.Proofs
end

section
/-! PROOF. What the server reads (R3, R197, R198): STATUS_READ and STATION_STATUS, field by field. -/

namespace Sys2Proof.Machine

/-! ## STATUS_READ (R197) -/

/-- A dispatched STATUS_READ: what it reports, and the counts that it sets to 0. -/
theorem State.statusRequest_dispatched {s : State} (h : s.Dispatches) (tag : Byte) :
    (s.powered fun s => s.statusRequest tag) =
      ({ s with line := { s.line with badFrames := 0, overruns := 0 } }).afterReply tag
        ((s.desk.frameArrives.spendFree s.desk.frameArrives.uploadFramesExceed).answerData
          (statusBytes s.desk.frameArrives s.line)) := by
  simp [State.powered, h.power, State.statusRequest, State.takeValid_dispatch _ _ h.noReset h.room, State.answer, State.afterReply,
    State.queueReply, State.onDesk, State.onLine]

theorem Desk.clockBytes_eq (d : Desk) : d.clockBytes =
    bytesOf 2 d.clock.day ++ bytesOf 2 d.clock.minute ++
      [natByte d.clock.second, if d.settings.timeSource = .marks then 1 else 2,
        match d.syncState with | .synced => 1 | .unsynced => 2 | .localTime => 3] ++
      bytesOf 4 d.clock.markAge ++ [boolByte d.clock.pendingMark.isSome] ++
      bytesOf 2 ((match d.clock.pendingMark with | some p => p.due | none => 0) / 86400) ++
      bytesOf 2 ((match d.clock.pendingMark with | some p => p.due | none => 0) % 86400 / 60) ++
      [natByte ((match d.clock.pendingMark with | some p => p.due | none => 0) % 60)] := by
  have hsource : natByte d.settings.timeSource.number = if d.settings.timeSource = .marks then 1 else 2 := by
    cases d.settings.timeSource <;> rfl
  have hsync : natByte d.syncState.number = match d.syncState with | .synced => 1 | .unsynced => 2 | .localTime => 3 := by
    cases d.syncState <;> rfl
  simp only [clockBytes, hsource, hsync, timeBytes]
  cases d.clock.pendingMark with
  | none => simp
  | some p => simp [clockOf]

theorem Desk.sweepBytes_eq (d : Desk) :
    d.sweepBytes = boolByte d.sweep.isSome :: bytesOf 2 (match d.sweep with | some w => w.day | none => 0) := by
  unfold sweepBytes
  cases d.sweep <;> rfl

theorem Printer.bytes_eq (x : Printer) : x.bytes =
    [match x.status with | .ready => (1 : Byte) | .busy => 2 | .paperOut => 3 | .offline => 4, natByte x.queue.length,
      boolByte (x.status == .busy)] := by
  unfold Printer.bytes
  cases x.status <;> rfl

theorem Desk.uploadBytes_eq (d : Desk) : d.uploadBytes =
    [match d.upload.state with | .idle => (1 : Byte) | .sending => 2 | .stalled => 3] ++ bytesOf 4 d.upload.cut ++
      bytesOf 4 d.upload.sent ++ [boolByte d.upload.block.isSome] ++
      bytesOf 4 (match d.upload.block with | some b => (b.first, b.count) | none => (0, 0)).1 ++
      [natByte (match d.upload.block with | some b => (b.first, b.count) | none => (0, 0)).2, boolByte d.upload.takenTimer.isSome,
        boolByte d.upload.waiting.isSome] ++ bytesOf 2 (d.upload.waiting.getD 0) := by
  have hstate : natByte d.upload.state.number = match d.upload.state with | .idle => (1 : Byte) | .sending => 2 | .stalled => 3 := by
    cases d.upload.state <;> rfl
  simp only [uploadBytes, hstate]
  cases d.upload.block <;> simp

theorem Desk.uploadFramesByte_eq (d : Desk) : d.uploadFramesByte =
    if 255 < d.uploadList.length then Config.freeUploadFrames d.freeIndex else natByte d.uploadList.length := by
  simp [uploadFramesByte, uploadFramesExceed]

theorem linkBytes_eq (d : Desk) (l : LinkLine) : linkBytes d l =
    [if d.link = .offline then 2 else 1, natByte l.replies.length, natByte d.lookupList.length,
        if 255 < d.uploadList.length then Config.freeUploadFrames d.freeIndex else natByte d.uploadList.length,
        natByte d.notices.length] ++ bytesOf 2 l.badFrames ++ bytesOf 2 l.overruns := by
  simp [linkBytes, Desk.uploadFramesByte_eq, Desk.isOffline]

theorem Desk.spendFree_exceed (d : Desk) :
    d.spendFree d.uploadFramesExceed = if 255 < d.uploadList.length then { d with freeIndex := d.freeIndex + 1 } else d := by
  simp [spendFree, uploadFramesExceed]

/-! ## STATION_STATUS (R3, R81, R136, R151) -/

/-- Within a level the source numbers, and across levels the places in the precedence list, rank the entries strictly. -/
theorem pairwise_orderedPrompts_lt {ls : List Level} (hls : IsPrecedence ls) {pending : List Prompt}
    (hs : Table.Sorted Prompt.key pending) :
    (orderedPrompts ls pending).Pairwise fun a b => promptRank ls a < promptRank ls b := by
  unfold orderedPrompts
  rw [List.pairwise_flatMap]
  refine ⟨fun l _ => ?within, ?across⟩
  case within =>
    refine (Table.sorted_filter _ pending hs).imp_of_mem ?_
    intro a b ha hb hab
    have hla : a.source.level = l := by simpa using (List.mem_filter.1 ha).2
    have hlb : b.source.level = l := by simpa using (List.mem_filter.1 hb).2
    unfold promptRank
    rw [hla, hlb]
    exact Nat.add_lt_add_left hab _
  case across =>
    refine (pairwise_idxOf_of_nodup hls.nodup).imp ?_
    intro l m hlm a ha b hb
    have hla : a.source.level = l := by simpa using (List.mem_filter.1 ha).2
    have hmb : b.source.level = m := by simpa using (List.mem_filter.1 hb).2
    have hbounds := a.source.number_bounds
    unfold promptRank
    rw [hla, hmb]
    omega

theorem orderedPrompts_perm {ls : List Level} (hls : IsPrecedence ls) {pending : List Prompt}
    (hs : Table.Sorted Prompt.key pending) : (orderedPrompts ls pending).Perm pending := by
  have hordered : (orderedPrompts ls pending).Nodup :=
    (pairwise_orderedPrompts_lt hls hs).imp fun h heq => Nat.ne_of_lt h (congrArg _ heq)
  have hpending : pending.Nodup := List.Pairwise.imp (fun h heq => Nat.ne_of_lt h (congrArg _ heq)) hs
  exact (List.perm_ext_iff_of_nodup hordered hpending).2 fun p => mem_orderedPrompts hls

theorem Prompt.bytes_eq (p : Prompt) : p.bytes = p.laidOut := by
  cases p with
  | slipWaiting q => cases q <;> simp [Prompt.bytes, Prompt.values, Prompt.laidOut, natByte, Prompt.source, Source.number, PrinterId.number]
  | _ => simp [Prompt.bytes, Prompt.values, Prompt.laidOut, natByte, Prompt.source, Source.number]

theorem Prompt.laidOut_head (p : Prompt) : p.laidOut.length = 13 ∧ p.laidOut.head? = some (BitVec.ofNat 8 p.source.number) := by
  cases p <;> exact ⟨rfl, rfl⟩

theorem findIdx?_eq_takeWhile {α : Type} (p : α → Bool) (l : List α) :
    l.findIdx? p = if l.find? p = none then none else some (l.takeWhile fun x => !p x).length := by
  induction l with
  | nil => rfl
  | cons a l ih =>
    cases hp : p a with
    | true => simp [List.findIdx?_cons, hp]
    | false =>
      rw [List.findIdx?_cons, ih, List.find?_cons, hp, List.takeWhile_cons, hp]
      by_cases hnone : l.find? p = none
      · simp only [hnone]
        rfl
      · simp only [if_neg hnone]
        rfl

theorem Desk.deferralPlace_eq (d : Desk) (st : StationId) : d.deferralPlace st =
    if d.deferredAt st = none then 0 else (d.slips.deferrals.takeWhile fun j => j.station ≠ st).length + 1 := by
  have hwhile : (fun j : SlipJob => decide (j.station ≠ st)) = fun j => !(j.station == st) := by
    funext j
    rw [decide_not, beq_eq_decide]
  unfold deferralPlace deferredAt
  rw [hwhile, findIdx?_eq_takeWhile]
  split <;> simp_all

section
variable (c : Context)

theorem Context.number_byte : natByte c.number = match c with | .idle => (1 : Byte) | .opened _ => 2 | .lookup _ => 3 | .disabled => 4 := by
  cases c <;> rfl

theorem Context.card_bytes : codeBytes (optionCode c.card) = bytesOf 8 (match c with
    | .opened z => CodeField.ofCode z.borrower
    | .lookup r => CodeField.ofCode r.card
    | _ => BitVec.allOnes 64).toNat := by
  cases c <;> rfl

theorem Context.items_eq : c.items = match c with | .opened z => z.items | _ => [] := by
  cases c <;> rfl

theorem Context.isProvisional_eq : c.isProvisional = match c with | .opened z => z.provisional | _ => false := by
  cases c <;> rfl

theorem Context.armSet_eq : c.armSet = match c with | .opened z => z.arm.isSome | _ => false := by
  cases c <;> rfl

end

theorem StationMode.number_byte (m : StationMode) : natByte m.number = match m with | .loan => 1 | .ret => 2 | .renew => 3 := by
  cases m <;> rfl

theorem Lamp.number_byte (l : Lamp) : natByte l.number = match l with | .off => 0 | .red => 1 | .amber => 2 | .green => 3 := by
  cases l <;> rfl

theorem slipKindByte_eq (j : Option SlipJob) : slipKindByte j = match j.map SlipJob.kind with
    | some .loan => (1 : Byte)
    | some (.hold _) => 2
    | none => 0 := by
  rcases j with _ | ⟨kind, _, _, _, _⟩
  · rfl
  · cases kind <;> rfl

theorem LevelMasks.bits_eq (m : LevelMasks) : m.bits = (if m.urgent then 1 else 0) + (if m.refusal then 2 else 0) +
    (if m.action then 4 else 0) + (if m.info then 8 else 0) := rfl

theorem ListEntry.isLent_eq : ListEntry.isLent = fun i => match i with | .lent _ _ _ _ => true | _ => false := by
  funext i
  cases i <;> rfl

theorem ListEntry.isRenewed_eq : ListEntry.isRenewed = fun i => match i with | .renewed _ _ => true | _ => false := by
  funext i
  cases i <;> rfl

theorem ListEntry.isReturned_eq : ListEntry.isReturned = fun i => match i with | .returned _ => true | _ => false := by
  funext i
  cases i <;> rfl

theorem shownNumber_byte (o : Option Source) : natByte ((o.map Source.number).getD 0) =
    match o with | some source => BitVec.ofNat 8 source.number | none => 0 := by
  cases o <;> rfl

theorem slipPrinter_byte (held : Bool) (p : PrinterId) :
    natByte (if held then PrinterId.number p else 0) = if held = true ∧ p = .p1 then 1 else 0 := by
  cases held <;> cases p <;> rfl

end Sys2Proof.Machine

namespace Sys2Proof.Proofs
open Sys2Proof.Machine

/-- Settles O24: the parts of each reply laid out. -/
theorem statusReadsClearTheirCounts : Obligations.StatusReadsClearTheirCounts := by
  unfold Obligations.StatusReadsClearTheirCounts
  refine ⟨fun s tag station hs => ⟨?status, fun st hst => ?station, fun hnone => ?outside⟩, fun d st hls hsorted => ?bytes,
    Prompt.laidOut_head, fun n v => ⟨rfl, rfl⟩⟩
  case status =>
    have hread : exec (.statusRead tag) s = .next (s.powered fun s => s.statusRequest tag) := rfl
    rw [hread, State.statusRequest_dispatched hs, Desk.spendFree_exceed, statusBytes, Desk.clockBytes_eq, Desk.sweepBytes_eq,
      Printer.bytes_eq, Printer.bytes_eq, Desk.uploadBytes_eq, linkBytes_eq]
    rfl
  case station =>
    have hread := exec_dispatched (c := .stationStatus tag station) (decide := fun d => d.stationStatus station) rfl hs
    rw [hread, Desk.stationStatus, hst]
    rfl
  case outside =>
    have hread := exec_dispatched (c := .stationStatus tag station) (decide := fun d => d.stationStatus station) rfl hs
    rw [hread, Desk.stationStatus, hnone]
    rfl
  case bytes =>
    refine ⟨orderedPrompts d.settings.precedence (d.arbiters.get st).pending, orderedPrompts_perm hls hsorted,
      pairwise_orderedPrompts_lt hls hsorted, ?_⟩
    simp only [Desk.stationBytes, Context.number_byte, StationMode.number_byte, Context.card_bytes, Context.items_eq,
      Context.isProvisional_eq, Context.armSet_eq, Lamp.number_byte, slipKindByte_eq, LevelMasks.bits_eq, ListEntry.isLent_eq,
      ListEntry.isRenewed_eq, ListEntry.isReturned_eq, shownNumber_byte, slipPrinter_byte, Desk.deferralPlace_eq,
      funext Prompt.bytes_eq]
    rfl

end Sys2Proof.Proofs
end

section
/-! PROOF. The alarms and the notices (R191, R193), and the journal's append, release and conditions (R155 to R164). -/

namespace Sys2Proof.Machine

/-! ## Reports of a condition (R191) -/

section
variable {d : Desk} {a : AlarmId}

theorem Desk.reportCondition_begins (h : (d.alarms.get a).holds = false) :
    d.reportCondition a true = ({ d with alarms := d.alarms.set a { d.alarms.get a with holds := true } }).raiseAlarm a := by
  simp [reportCondition, h]

theorem Desk.reportCondition_stands (h : (d.alarms.get a).holds = true) : d.reportCondition a true = d := by
  simp [reportCondition, h]

theorem Desk.reportCondition_ends :
    d.reportCondition a false = { d with alarms := d.alarms.set a { d.alarms.get a with holds := false } } := rfl

theorem Desk.reportCondition_absent (h : (d.alarms.get a).holds = false) : d.reportCondition a false = d := by
  have hsame : ({ d.alarms.get a with holds := false } : AlarmState) = d.alarms.get a := by rw [← h]
  rw [reportCondition_ends, hsame, AlarmSet.set_get]

end

/-! ## An occurrence of a notice (R193) -/

theorem Desk.raiseNotice_off {d : Desk} {b : NoticeBody} (h : d.settings.routing.get b.kind = false) : d.raiseNotice b = d := by
  simp [raiseNotice, h]

/-- The notice that an occurrence leaves pending. -/
def Desk.occurrence (d : Desk) (b : NoticeBody) : Notice :=
  ⟨b, match Table.find Notice.key b.key d.notices with
    | some n => min (n.coalesced + 1) 255
    | none => 0⟩

theorem Desk.raiseNotice_on {d : Desk} {b : NoticeBody} (h : d.settings.routing.get b.kind = true) :
    d.raiseNotice b = { d with notices := Table.put Notice.key (d.occurrence b) d.notices } := by
  simp only [raiseNotice, h, if_true]
  rfl

theorem Desk.occurrence_pending {d : Desk} {b : NoticeBody} (hs : Table.Sorted Notice.key d.notices) {n : Notice} (hn : n ∈ d.notices)
    (hkey : n.key = b.key) : d.occurrence b = ⟨b, min (n.coalesced + 1) 255⟩ := by
  have hfind := Table.find_of_mem hs hn
  rw [hkey] at hfind
  simp only [occurrence, hfind]

theorem Desk.occurrence_first {d : Desk} {b : NoticeBody} (h : ∀ n ∈ d.notices, n.key ≠ b.key) : d.occurrence b = ⟨b, 0⟩ := by
  have hfind : Table.find Notice.key b.key d.notices = none := List.find?_eq_none.2 fun n hn => by simpa using h n hn
  simp only [occurrence, hfind]

/-! ## The journal's append and release (R155 to R161) -/

theorem RecordBody.reservedRoom_iff (b : RecordBody) : b.reservedRoom = true ↔ b.kind = 1 ∨ b.kind = 3 ∨ b.kind = 4 := by
  cases b <;> simp [RecordBody.reservedRoom, RecordBody.kind]

/-- The desk with a record written. -/
def Desk.written (d : Desk) (station : Option StationId) (flags : RecordFlags) (body : RecordBody) : Desk :=
  { d with journal := d.journal.add (d.recordFor station flags body) }

section
variable {d : Desk} {station : Option StationId} {flags : RecordFlags} {body : RecordBody}

theorem Desk.append_reserved (h : body.reservedRoom = true) :
    d.append station flags body = if d.loanRoom = true then (d.written station flags body).evaluateJournal else d := by
  simp only [append, h, if_true]
  rfl

theorem Desk.append_plain (h : body.reservedRoom = false) :
    d.append station flags body = if d.anyRoom = true then (d.written station flags body).evaluateJournal else d.raiseAlarm .journalFull := by
  simp only [append, h]
  rfl

end

theorem Desk.loanRoom_iff (d : Desk) : d.loanRoom = true ↔ d.settings.returnReserve < 16384 - d.journal.held.length := decide_eq_true_iff

theorem Desk.anyRoom_iff (d : Desk) : d.anyRoom = true ↔ 0 < 16384 - d.journal.held.length := decide_eq_true_iff

theorem seqForward_one (n : Nat) : seqForward n 1 = if n < 4294967295 then n + 1 else n + 1 - 4294967295 := seqForward_eq n 1

theorem Desk.release_iff (d : Desk) (first count : Nat) : d.release first count =
    if first = seqForward d.journal.released 1 ∧ 1 ≤ count ∧ count ≤ d.journal.held.length then
      ({ d with journal := d.journal.release count }).evaluateJournal
    else d := by
  simp only [release, Bool.and_eq_true, decide_eq_true_iff, and_assoc]
  rfl

/-! ## The journal's conditions (R162 to R164) -/

/-- The desk once the journal's two conditions have been reported. -/
def Desk.journalReported (d : Desk) : Desk := (d.reportCondition .journalHigh d.journalHigh).reportCondition .journalFull d.journalFull

theorem Desk.evaluateJournal_eq (d : Desk) :
    d.evaluateJournal = d.journalReported.tellJournalFull d.alarms.journalFull.holds d.journalFull := rfl

theorem Desk.tellJournalFull_same (d : Desk) (b : Bool) : d.tellJournalFull b b = d := by
  cases b <;> rfl

end Sys2Proof.Machine

namespace Sys2Proof.Proofs
open Sys2Proof.Machine

/-- Settles O26: a raise, the four reports of a condition, and a notice that is put by its key. -/
theorem alarmsAndNotices : Obligations.AlarmsAndNotices := by
  unfold Obligations.AlarmsAndNotices
  refine ⟨fun d a => rfl, fun d a => ⟨Desk.reportCondition_stands, Desk.reportCondition_absent, Desk.reportCondition_begins,
    fun _ => Desk.reportCondition_ends⟩, fun d b hs => ?notice⟩
  case notice =>
    cases hroute : d.settings.routing.get b.kind with
    | false =>
      rw [Desk.raiseNotice_off hroute]
      exact ⟨rfl, hs, fun _ => rfl, nofun⟩
    | true =>
      rw [Desk.raiseNotice_on hroute]
      have hmem (n : Notice) : n ∈ Table.put Notice.key (d.occurrence b) d.notices ↔
          n = d.occurrence b ∨ (n ∈ d.notices ∧ n.key ≠ b.key) := Table.mem_put_iff hs _ n
      refine ⟨rfl, Table.sorted_put _ _ hs, nofun, fun _ => ⟨fun n hn hkey => ?_, fun hfirst => ?_, fun n hkey => ?_⟩⟩
      · exact (hmem _).2 (.inl (Desk.occurrence_pending hs hn hkey).symm)
      · exact (hmem _).2 (.inl (Desk.occurrence_first hfirst).symm)
      · rw [hmem n]
        constructor
        · rintro (rfl | ⟨hn, -⟩)
          · exact absurd rfl hkey
          · exact hn
        · exact fun hn => .inr ⟨hn, hkey⟩

/-- Settles O27: the room of each kind of record, and the reports by what held before. -/
theorem journalAppendsAndConditions : Obligations.JournalAppendsAndConditions := by
  unfold Obligations.JournalAppendsAndConditions
  refine ⟨⟨fun d station flags body => ?append, fun d first count => ?release⟩, fun d => ?conditions⟩
  case append =>
    intro reserved free record written
    have hreserved : reserved ↔ body.reservedRoom = true := body.reservedRoom_iff.symm
    have hwritten : written = d.written station flags body := by
      simp only [Desk.written, Journal.add, Desk.recordFor, seqForward_one]
      rfl
    refine ⟨fun hr hroom => ?_, fun hr hfull => ?_, fun hr hroom => ?_, fun hr hfull => ?_⟩
    · rw [Desk.append_reserved (hreserved.1 hr), if_pos (d.loanRoom_iff.2 hroom), hwritten]
    · rw [Desk.append_reserved (hreserved.1 hr), if_neg (mt d.loanRoom_iff.1 (Nat.not_lt.2 hfull))]
    · rw [Desk.append_plain (Bool.eq_false_iff.2 (mt hreserved.2 hr)), if_pos (d.anyRoom_iff.2 hroom), hwritten]
    · rw [Desk.append_plain (Bool.eq_false_iff.2 (mt hreserved.2 hr)), if_neg (mt d.anyRoom_iff.1 (Nat.not_lt.2 (Nat.le_of_eq hfull)))]
  case release =>
    intro taken
    exact ⟨fun h => (d.release_iff first count).trans (if_pos h), fun h => (d.release_iff first count).trans (if_neg h)⟩
  case conditions =>
    intro held high full reported stations
    refine ⟨fun hsame => ?_, fun hbefore hfull => ?_, fun hbefore hfull => ?_⟩
    · rw [Desk.evaluateJournal_eq, hsame]
      exact Desk.tellJournalFull_same _ _
    · rw [Desk.evaluateJournal_eq, hbefore, show d.journalFull = true from hfull]
      rfl
    · rw [Desk.evaluateJournal_eq, hbefore, show d.journalFull = false from hfull]
      rfl

end Sys2Proof.Proofs
end

section
/-! PROOF. The Upload Engine's commands and blocks (R170 to R178). -/

namespace Sys2Proof.Machine

/-! ## How an upload starts and ends (R171, R172, R175) -/

theorem Desk.finishUpload_eq (d : Desk) : d.finishUpload = { d with
    upload := { d.upload with state := .idle, sent := d.journal.released, block := none, takenTimer := none }
    uploadList := d.uploadList ++ [.finish d.upload.cut d.journal.newest] } := rfl

/-- The desk whose upload has its cut at the newest record. -/
def Desk.uploadCut (d : Desk) : Desk := { d with upload := { d.upload with waiting := none, cut := d.journal.newest } }

theorem Desk.startUpload_empty {d : Desk} (h : d.journal.released = d.journal.newest) : d.startUpload = d.uploadCut.finishUpload := if_pos h

theorem Desk.startUpload_held {d : Desk} (h : d.journal.released ≠ d.journal.newest) : d.startUpload = d.uploadCut.composeBlock := if_neg h

theorem Desk.tryWaitingUpload_eq (d : Desk) : d.tryWaitingUpload =
    if d.upload.waiting ≠ none ∧ d.upload.state = .idle ∧ d.mode = .closed ∧ d.link ≠ .offline then d.startUpload else d := by
  simp only [tryWaitingUpload, Bool.and_eq_true, Option.isSome_iff_ne_none, uploadMayStart_iff]

/-! ## The records of a block (R173) -/

/-- Seqs within the ring's size of each other are different. -/
theorem seqForward_inj {a m n : Nat} (hm : m ≤ 16384) (hn : n ≤ 16384) (h : seqForward a m = seqForward a n) : m = n := by
  simp only [seqForward_eq] at h
  split at h <;> split at h <;> omega

theorem Journal.Coherent.read_eq {j : Journal} (h : j.Coherent) {i : Nat} (hi : i < j.held.length) :
    j.read (seqForward (seqForward j.released 1) i) = some j.held[i] := by
  have hroom : j.held.length ≤ 16384 := h.room
  have hseq {k : Nat} (hk : k < j.held.length) : j.held[k].seq = seqForward j.released (k + 1) := by
    simpa [hk] using h.numbered k hk
  have hnext : seqForward (seqForward j.released 1) i = seqForward j.released (i + 1) := by
    rw [seqForward_seqForward h.released (by unfold lastSeq; omega), Nat.add_comm]
  rw [hnext, Journal.read, List.find?_eq_some_iff_getElem]
  refine ⟨by simp [hseq hi], i, hi, rfl, fun k hk => ?_⟩
  have hkl : k < j.held.length := hk.trans hi
  have hne : j.held[k].seq ≠ seqForward j.released (i + 1) := fun heq => by
    have hsame := seqForward_inj (by omega) (by omega) ((hseq hkl).symm.trans heq)
    omega
  simpa using hne

theorem Journal.Coherent.readBlock {j : Journal} (h : j.Coherent) {n : Nat} (hn : n ≤ j.held.length) :
    ((List.range n).filterMap fun i => j.read (seqForward (seqForward j.released 1) i)) = j.held.take n := by
  induction n with
  | zero => rfl
  | succ n ih =>
    rw [List.range_succ, List.filterMap_append, ih (Nat.le_of_succ_le hn), List.take_add_one, List.getElem?_eq_getElem hn]
    simp [h.read_eq hn]

theorem Desk.composeBlock_eq {d : Desk} (h : d.journal.Coherent)
    (hcut : seqDistance d.journal.released d.upload.cut ≤ d.journal.held.length) : d.composeBlock = { d with
      upload := { d.upload with
        state := .sending
        sent := seqForward d.journal.released d.blockCount
        block := some ⟨seqForward d.journal.released 1, d.blockCount⟩ }
      uploadList := d.uploadList ++ [.block (seqForward d.journal.released 1) d.blockCount d.upload.cut
        (d.journal.held.take d.blockCount)] } := by
  have hcount : d.blockCount ≤ d.journal.held.length := (Nat.min_le_right _ _).trans hcut
  have hrecords := h.readBlock hcount
  simp only [composeBlock, hrecords]
  rfl

/-! ## The requests of an upload (R172, R174, R177, R178) -/

section
variable {d : Desk}

theorem Desk.uploadStart_idle (h : d.upload.state = .idle) : d.uploadStart = d.startUpload.answer .ok := by
  simp [uploadStart, UploadState.isIdle_iff, h]

theorem Desk.uploadStart_running (h : d.upload.state ≠ .idle) : d.uploadStart = d.answer .badState := by
  simp [uploadStart, UploadState.isIdle_iff, h]

theorem Desk.uploadResume_stalled (h : d.upload.state = .stalled) :
    d.uploadResume = (d.reportCondition .uploadStalled false).composeBlock.answer .ok := by
  simp [uploadResume, h]

theorem Desk.uploadResume_other (h : d.upload.state ≠ .stalled) : d.uploadResume = d.answer .badState := by
  simp [uploadResume, h]

theorem Desk.uploadAbort_idle (h : d.upload.state = .idle) : d.uploadAbort = d.answer .badState := by
  simp [uploadAbort, UploadState.isIdle_iff, h]

theorem Desk.uploadAbort_running (h : d.upload.state ≠ .idle) : d.uploadAbort =
    (({ d.reportCondition .uploadStalled false with
      uploadList := d.uploadList.filter fun f => !f.isBlock
      upload := { d.upload with state := .idle, takenTimer := none, block := none, sent := d.journal.released } }).tryWaitingUpload).answer
      .ok := by
  have hrunning : d.upload.state.isIdle = false := Bool.eq_false_iff.2 (mt (UploadState.isIdle_iff _).1 h)
  simp only [uploadAbort, hrunning, withdrawBlock, onUpload, Desk.reportCondition_keeps]
  rfl

theorem Desk.takenExpiry_running (hstate : d.upload.state = .sending) (htimer : d.upload.takenTimer ≠ none) :
    d.takenExpiry = d.stallUpload := by
  simp [takenExpiry, hstate, Option.isSome_iff_ne_none, htimer]

theorem Desk.takenExpiry_stopped (h : d.upload.state ≠ .sending ∨ d.upload.takenTimer = none) : d.takenExpiry = d := by
  rcases h with h | h <;> simp [takenExpiry, h]

variable {first : Word} {count : Byte}

theorem Desk.uploadTaken_idle (h : d.upload.state = .idle) : d.uploadTaken first count = d.answer .badState := by
  simp [uploadTaken, UploadState.isIdle_iff, h]

theorem Desk.uploadTaken_other (h : d.upload.state ≠ .idle) (hblock : d.upload.block ≠ some ⟨first.toNat, count.toNat⟩) :
    d.uploadTaken first count = d.answer .badArg := by
  simp [uploadTaken, UploadState.isIdle_iff, h, hblock]

/-- The desk once the block in flight has been taken and its records released. -/
def Desk.blockReleased (d : Desk) (first count : Nat) : Desk :=
  ({ d.reportCondition .uploadStalled false with
    upload := { d.upload with takenTimer := none, block := none }
    uploadList := d.uploadList.filter fun f => !f.isBlock }).release first count

theorem Desk.uploadTaken_block (h : d.upload.state ≠ .idle) (hblock : d.upload.block = some ⟨first.toNat, count.toNat⟩) :
    d.uploadTaken first count =
      (if (d.blockReleased first.toNat count.toNat).journal.released = d.upload.cut then
        (d.blockReleased first.toNat count.toNat).finishUpload.tryWaitingUpload
      else (d.blockReleased first.toNat count.toNat).composeBlock).answer .ok := by
  have hrunning : d.upload.state.isIdle = false := Bool.eq_false_iff.2 (mt (UploadState.isIdle_iff _).1 h)
  have hcut : (d.blockReleased first.toNat count.toNat).upload.cut = d.upload.cut := by simp [blockReleased]
  rw [← hcut]
  simp only [uploadTaken, hrunning, hblock, takeBlock, withdrawBlock, onUpload, Desk.reportCondition_keeps, blockReleased]
  rfl

end

end Sys2Proof.Machine

namespace Sys2Proof.Proofs
open Sys2Proof.Machine

/-- Settles O28: each request by the engine's state, and the TAKEN timer's expiry. -/
theorem uploadCommands : Obligations.UploadCommands := by
  unfold Obligations.UploadCommands
  refine fun s tag => ⟨fun hs => ?requests, fun hp => ?timer⟩
  case requests =>
    have hstart := exec_dispatched (c := .uploadStart tag) (decide := fun d => d.uploadStart) rfl hs
    have hresume := exec_dispatched (c := .uploadResume tag) (decide := fun d => d.uploadResume) rfl hs
    have habort := exec_dispatched (c := .uploadAbort tag) (decide := fun d => d.uploadAbort) rfl hs
    refine ⟨fun hidle hempty => ?_, fun hidle hheld => ?_, fun hbusy => ?_, fun hstalled => ?_, fun hother => ?_, fun hbusy => ?_,
      fun hidle => ?_⟩
    · rw [hstart, Desk.uploadStart_idle hidle, Desk.startUpload_empty hempty]
      rfl
    · rw [hstart, Desk.uploadStart_idle hidle, Desk.startUpload_held hheld]
      rfl
    · rw [hstart, Desk.uploadStart_running hbusy]
    · rw [hresume, Desk.uploadResume_stalled hstalled]
    · rw [hresume, Desk.uploadResume_other hother]
    · rw [habort, Desk.uploadAbort_running hbusy]
    · rw [habort, Desk.uploadAbort_idle hidle]
  case timer =>
    rw [exec_on (c := .takenTimeout) rfl hp]
    refine ⟨fun hstate htimer => ?_, fun hstopped => ?_⟩
    · rw [Desk.takenExpiry_running hstate htimer]
      rfl
    · rw [Desk.takenExpiry_stopped hstopped]

/-- Settles O29: the block that is named or not, and the seqs of a coherent ring, which a block's reads find in order. -/
theorem uploadTakenReleases : Obligations.UploadTakenReleases := by
  unfold Obligations.UploadTakenReleases
  refine ⟨fun s tag first count hs => ?taken, fun d hj hcut _ => Desk.composeBlock_eq hj hcut, fun d => ?parts⟩
  case taken =>
    have htaken := exec_dispatched (c := .uploadTaken tag first count) (decide := fun d => d.uploadTaken first count) rfl hs
    refine ⟨fun hidle => ?_, fun hbusy hblock => ?_, fun hbusy hblock => ⟨fun hend => ?_, fun hmore => ?_⟩⟩
    · exact htaken.trans (by rw [Desk.uploadTaken_idle hidle])
    · exact htaken.trans (by rw [Desk.uploadTaken_other hbusy hblock])
    · exact htaken.trans (by rw [Desk.uploadTaken_block hbusy hblock]; exact congrArg _ (congrArg _ (congrArg₂ _ (if_pos hend) rfl)))
    · exact htaken.trans (by rw [Desk.uploadTaken_block hbusy hblock]; exact congrArg _ (congrArg _ (congrArg₂ _ (if_neg hmore) rfl)))
  case parts =>
    exact ⟨d.finishUpload_eq, Desk.startUpload_empty, Desk.startUpload_held, fun hmay => d.tryWaitingUpload_eq.trans (if_pos hmay),
      fun hmay => d.tryWaitingUpload_eq.trans (if_neg hmay)⟩

end Sys2Proof.Proofs
end

section
/-! PROOF. The Desk Link: frames that arrive (R185, R190), a RESET (R195), the liveness timer and the frames that have been sent
(R173, R190, R195), and the order of the transmit arbiter (R189). -/

namespace Sys2Proof.Machine

/-! ## Frames that arrive (R185, R188, R190) -/

theorem Desk.frameArrives_online {d : Desk} (h : d.link ≠ .offline) : d.frameArrives = { d with link := .online d.settings.linkTimeout } := by
  simp [frameArrives, d.isOffline_eq_false h]

theorem Desk.frameArrives_offline {d : Desk} (h : d.link = .offline) :
    d.frameArrives = ({ d with link := .online d.settings.linkTimeout }).tryWaitingUpload := by
  simp [frameArrives, d.isOffline_of h]

theorem State.powered_on {s : State} (h : s.desk.power.on = true) (f : State → State) : s.powered f = (f s).transmit := by
  simp [powered, h]

/-- A valid frame that comes while a RESET waits. -/
theorem State.takeFrame_waiting {s : State} (h : s.line.resetWaiting = true) (kind tag : Byte) (payload : List Byte) :
    s.takeFrame kind tag payload = s.onDesk Desk.frameArrives := by
  unfold takeFrame
  split
  · exact takeValid_waiting _ _ h
  · split
    · exact takeValid_waiting _ _ h
    · split <;> exact takeValid_waiting _ _ h

/-- A valid frame that finds the reply queue full. -/
theorem State.takeFrame_full {s : State} (h : s.line.resetWaiting = false) (hfull : replyCapacity ≤ s.line.replies.length)
    (kind tag : Byte) (payload : List Byte) : s.takeFrame kind tag payload = (s.onDesk Desk.frameArrives).overrun := by
  unfold takeFrame
  split
  · exact takeValid_full _ _ h hfull
  · split
    · exact takeValid_full _ _ h hfull
    · split <;> exact takeValid_full _ _ h hfull

theorem requestFrame_isSome {c : Instr} {index : Byte} {rest : List Byte} (h : (requestFrame index rest c).isSome = true) :
    ∃ f, requestFrame 0 (List.replicate 7 0) c = some f := by
  cases c <;> first | exact absurd h Bool.false_ne_true | exact ⟨_, rfl⟩

/-- A row whose frame is valid: what it makes of the state while a RESET waits, and when the reply queue is full. -/
theorem State.exec_validFrame {c : Instr} {index : Byte} {rest : List Byte}
    (hc : (requestFrame index rest c).isSome = true ∨ ∃ tag kind, c = .badKindFrame tag kind ∧ c.wellFormed = true) (s : State) :
    ∃ f : State → State, exec c s = .next (s.powered f) ∧
      (s.line.resetWaiting = true → f s = s.onDesk Desk.frameArrives) ∧
      (s.line.resetWaiting = false → replyCapacity ≤ s.line.replies.length → f s = (s.onDesk Desk.frameArrives).overrun) := by
  rcases hc with hframe | ⟨tag, kind, rfl, hkind⟩
  · obtain ⟨f, hf⟩ := requestFrame_isSome hframe
    exact ⟨_, exec_requestFrame hf s, fun hw => takeFrame_waiting hw _ _ _, fun hw hfull => takeFrame_full hw hfull _ _ _⟩
  · have hexec : exec (.badKindFrame tag kind) s = .next (s.powered fun s => if isRequestKind kind then s else s.badKind tag) := rfl
    have hbad : isRequestKind kind = false := by simpa [Instr.wellFormed] using hkind
    simp only [hbad, Bool.false_eq_true, if_false] at hexec
    exact ⟨_, hexec, fun hw => takeValid_waiting _ _ hw, fun hw hfull => takeValid_full _ _ hw hfull⟩

theorem State.overrun_transmit (s : State) : ((s.onDesk Desk.frameArrives).overrun).transmit =
    ({ s with line := { s.line with overruns := min (s.line.overruns + 1) 65535 } }).afterDesk
      (s.desk.frameArrives.raiseAlarm .linkOverrun) := rfl

/-- A dispatched decision and its reply. -/
theorem State.takeValid_answer {s : State} (h : s.Dispatches) (tag : Byte) (decide : Desk → Decision) :
    (s.takeValid fun s => s.answer tag (decide s.desk)).transmit = s.afterReply tag (decide s.desk.frameArrives) := by
  rw [takeValid_dispatch _ _ h.noReset h.room]
  rfl

/-! ## Payloads that their kind has not (R185) -/

theorem Desk.sized_other (d : Desk) {n : Nat} {bs : List Byte} (h : bs.length ≠ n) (x : Decision) :
    d.sized n bs x = d.answer .badArg := if_neg h

theorem eq_ofNat_of_toNat {b : Byte} {n : Nat} (h : b.toNat = n) : b = BitVec.ofNat 8 n := by simp [← h]

theorem Desk.tableWrite_unfit (d : Desk) {table op : Byte} {entry : List Byte} (h : payloadFits 0x01 (table :: op :: entry) = false) :
    d.tableWrite table op entry = d.answer .badArg := by
  unfold tableWrite
  split
  case h_25 => rfl
  all_goals
    next htable hop =>
    refine d.sized_other (fun hlen => Bool.false_ne_true (h.symm.trans ?_)) _
    obtain rfl := eq_ofNat_of_toNat hop
    obtain rfl := eq_ofNat_of_toNat htable
    simp [payloadFits, tableLengths, hlen]

theorem Desk.tableRead_unfit (d : Desk) {table mode : Byte} {key : List Byte} (h : payloadFits 0x02 (table :: mode :: key) = false) :
    d.tableRead table mode key = d.answer .badArg := by
  unfold tableRead
  split
  case h_17 => rfl
  all_goals
    next htable hmode =>
    refine d.sized_other (fun hlen => Bool.false_ne_true (h.symm.trans ?_)) _
    obtain rfl := eq_ofNat_of_toNat hmode
    obtain rfl := eq_ofNat_of_toNat htable
    simp [payloadFits, tableLengths, hlen]

theorem Desk.writeSetting_unknown (d : Desk) {setting : Byte} (h : setting.toNat = 0 ∨ 26 < setting.toNat) (index : Byte) (v : Word) :
    d.writeSetting setting index v = d.answer .badArg := by
  unfold writeSetting
  split
  case h_27 => rfl
  all_goals
    exfalso
    omega

theorem Desk.settingWrite_unfit (d : Desk) {payload : List Byte} (h : payloadFits 0x03 payload = false) :
    d.request 0x03 payload = d.answer .badArg := by
  cases payload with
  | nil => rfl
  | cons setting rest =>
    change (decide (1 ≤ setting.toNat) && decide (setting.toNat ≤ 26) && rest.length == 5) = false at h
    by_cases hlen : rest.length = 5
    · have hout : setting.toNat = 0 ∨ 26 < setting.toNat := by
        simp only [hlen, beq_self_eq_true, Bool.and_true, Bool.and_eq_false_iff, decide_eq_false_iff_not] at h
        omega
      have hsetting : byteAt (setting :: rest) 0 = setting := byteAt_eq_of_getElem? rfl
      exact (d.sized_self (by simp [hlen]) _).trans (by rw [hsetting, d.writeSetting_unknown hout])
    · exact d.sized_other (by simpa using hlen) _

theorem Desk.deskMode_unfit (d : Desk) {payload : List Byte} (h : payloadFits 0x07 payload = false) :
    d.request 0x07 payload = d.answer .badArg := by
  by_cases hlen : payload.length = 1
  · obtain ⟨mode, rfl⟩ := List.length_eq_one_iff.1 hlen
    have hmode : byteAt [mode] 0 = mode := byteAt_eq_of_getElem? rfl
    refine (d.sized_self rfl _).trans ?_
    rw [hmode, deskMode]
    split
    case h_3 => rfl
    all_goals
      next hnumber =>
      obtain rfl := eq_ofNat_of_toNat hnumber
      cases h
  · exact d.sized_other hlen _

theorem Desk.lookupReply_unfit (d : Desk) {payload : List Byte} (h : payloadFits 0x0d payload = false) :
    d.request 0x0d payload = d.answer .badArg := by
  by_cases hlen : payload.length = 16
  · have hat : payload[8]? = some (byteAt payload 8) := by
      obtain ⟨b, hb⟩ : ∃ b, payload[8]? = some b := ⟨payload[8], List.getElem?_eq_getElem (by omega)⟩
      rw [hb, byteAt_eq_of_getElem? hb]
    refine (d.sized_self hlen _).trans ?_
    change (payload.length == 16 && (payload[8]? == some 1 || payload[8]? == some 2)) = false at h
    rw [hat] at h
    unfold lookupReply
    split
    case h_3 => rfl
    all_goals
      next hnumber =>
      rw [eq_ofNat_of_toNat hnumber, hlen] at h
      cases h
  · exact d.sized_other hlen _

/-- A request whose payload is none of those of its kind. -/
theorem Desk.request_unfit (d : Desk) {kind : Byte} {payload : List Byte} (h : payloadFits kind payload = false) :
    d.request kind.toNat payload = d.answer .badArg := by
  have hkind {n : Nat} (hn : kind.toNat = n) : payloadFits (BitVec.ofNat 8 n) payload = false := eq_ofNat_of_toNat hn ▸ h
  have hshort {n k : Nat} (hn : kind.toNat = k) (hfits : payload.length = n → payloadFits (BitVec.ofNat 8 k) payload = true)
      (x : Decision) : d.sized n payload x = d.answer .badArg :=
    d.sized_other (fun hlen => Bool.false_ne_true ((hkind hn).symm.trans (hfits hlen))) x
  have hempty {k : Nat} (hn : kind.toNat = k) (hfits : payloadFits (BitVec.ofNat 8 k) [] = true) (x : Decision) :
      d.sized 0 payload x = d.answer .badArg :=
    hshort hn (fun hlen => by rwa [List.length_eq_zero_iff.1 hlen]) x
  by_cases hset : kind.toNat = 3
  · rw [hset]
    exact d.settingWrite_unfit (hkind hset)
  by_cases hmode : kind.toNat = 7
  · rw [hmode]
    exact d.deskMode_unfit (hkind hmode)
  by_cases hreply : kind.toNat = 13
  · rw [hreply]
    exact d.lookupReply_unfit (hkind hreply)
  unfold request
  split
  case h_1 hn =>
    split
    · match payload, hkind hn with
      | table :: op :: entry, hfits =>
        rw [byteAt_eq_of_getElem? (b := table) rfl, byteAt_eq_of_getElem? (b := op) rfl]
        exact d.tableWrite_unfit hfits
    · rfl
  case h_2 hn =>
    split
    · match payload, hkind hn with
      | table :: mode :: key, hfits =>
        rw [byteAt_eq_of_getElem? (b := table) rfl, byteAt_eq_of_getElem? (b := mode) rfl]
        exact d.tableRead_unfit hfits
    · rfl
  case h_3 hn => exact absurd hn hset
  case h_4 hn => exact hshort hn (fun hlen => by simp [payloadFits, hlen]) _
  case h_5 hn => exact hshort hn (fun hlen => by simp [payloadFits, hlen]) _
  case h_6 hn => exact hshort hn (fun hlen => by simp [payloadFits, hlen]) _
  case h_7 hn => exact absurd hn hmode
  case h_8 hn => exact hshort hn (fun hlen => by simp [payloadFits, hlen]) _
  case h_9 hn => exact hempty hn rfl _
  case h_10 hn => exact hshort hn (fun hlen => by simp [payloadFits, hlen]) _
  case h_11 hn => exact hshort hn (fun hlen => by simp [payloadFits, hlen]) _
  case h_12 hn => exact absurd hn hreply
  case h_13 hn => exact hempty hn rfl _
  case h_14 hn => exact hshort hn (fun hlen => by simp [payloadFits, hlen]) _
  case h_15 hn => exact hempty hn rfl _
  case h_16 hn => exact hempty hn rfl _
  case h_17 => rfl

theorem State.takeFrame_unfit {s : State} {kind : Byte} (hkind : isRequestKind kind = true) {payload : List Byte}
    (h : payloadFits kind payload = false) (tag : Byte) :
    s.takeFrame kind tag payload = s.takeValid fun s => s.answer tag (s.desk.answer .badArg) := by
  have hempty : kind = 0x08 ∨ kind = 0x12 → payload ≠ [] := by
    rintro (rfl | rfl) rfl <;> cases h
  rw [takeFrame_request s kind tag payload hkind (fun hk => hempty (.inl hk)) (fun hk => hempty (.inr hk))]
  exact congrArg s.takeValid (funext fun s => congrArg (s.answer tag) (s.desk.request_unfit h))

theorem isRequestKind_iff (kind : Byte) : isRequestKind kind = true ↔ 1 ≤ kind.toNat ∧ kind.toNat ≤ 0x12 := by
  simp [isRequestKind]

/-! ## The link reset (R195) -/

theorem State.resetRequest_dispatched {s : State} (h : s.Dispatches) (tag : Byte) :
    (s.powered fun s => s.resetRequest tag) = ({ s with line := { s.line with
      replies := s.line.replies ++ [Reply.mk tag .ok [] true], resetWaiting := true } }).afterDesk s.desk.frameArrives := by
  rw [powered_on h.power, resetRequest, takeValid_dispatch _ _ h.noReset h.room]
  rfl

theorem Desk.linkReset_eq (d : Desk) : d.linkReset = d.linkRestarted := rfl

theorem Desk.linkReset_link (d : Desk) : d.linkReset.link = .offline := by
  simp [linkReset_eq, linkRestarted]

theorem State.linkReset_transmit (s : State) : s.linkReset.transmit = s.linkReset := transmit_offline _ s.desk.linkReset_link

/-! ## The link becomes OFFLINE (R190, R195) -/

theorem Desk.uploadLinkLost_eq (d : Desk) : d.uploadLinkLost = if d.upload.state = .sending
    then ({ d with
      upload := { d.upload with state := .stalled, takenTimer := none }
      uploadList := d.uploadList.filter fun f => !f.isBlock }).reportCondition .uploadStalled true
    else d := by
  simp only [uploadLinkLost, beq_iff_eq]
  rfl

theorem kept_linkAndPower (Q : LinkState → Power → Prop) : Desk.KeptByQueues fun d => Q d.link d.power where
  toKeptByTaking := kept_outsideEngine fun _ l p => Q l p

theorem Desk.endAllLookups_keeps (d : Desk) : d.endAllLookups.link = d.link ∧ d.endAllLookups.power = d.power := by
  have hqueues := kept_linkAndPower fun l p => l = d.link ∧ p = d.power
  have hcontexts : Desk.KeptByContexts fun e => e.link = d.link ∧ e.power = d.power := { }
  refine eachStation_induct (P := fun e => e.link = d.link ∧ e.power = d.power) (fun _ st he => hqueues.drain st he) ?_
  simp only [testClosing_keeps]
  refine eachStation_induct (P := fun e => e.link = d.link ∧ e.power = d.power) (fun e st he => ?_) ⟨rfl, rfl⟩
  split
  · next hst => exact hcontexts.lookupTimesOut hst he
  · exact he

theorem Desk.linkLost_keeps (d : Desk) : d.linkLost.link = .offline ∧ d.linkLost.power = d.power :=
  (kept_linkAndPower fun l p => l = .offline ∧ p = d.power).uploadLinkLost (endAllLookups_keeps _)

theorem LinkLine.sendsReset_iff (l : LinkLine) : l.sendsReset = true ↔ ∃ r, l.transmitting = some (.reply r) ∧ r.resets = true := by
  unfold sendsReset
  split
  · next r hr => simp [hr]
  · next hother =>
    refine iff_of_false Bool.false_ne_true ?_
    rintro ⟨r, hr, -⟩
    exact hother r hr

/-- The state once the link has become OFFLINE. -/
def State.linkDropped (s : State) : State := (s.onDesk Desk.linkLost).onLine fun l => { l with replies := [] }

theorem State.livenessExpiry_offline {s : State} (h : s.desk.link = .offline) : s.livenessExpiry = s := by
  simp [livenessExpiry, s.desk.isOffline_of h]

theorem State.linkDropped_eq (s : State) :
    s.linkDropped = { s with desk := s.desk.linkLost, line := { s.line with replies := [] } } := by
  simp only [linkDropped, onDesk, onLine]

theorem State.linkDropped_line (s : State) : s.linkDropped.line = { s.line with replies := [] } := by
  rw [linkDropped, onLine_line, onDesk_line]

theorem State.livenessExpiry_online {s : State} (h : s.desk.link ≠ .offline) : s.livenessExpiry =
    if s.line.resetWaiting = true ∧ s.line.sendsReset = false then s.linkDropped.linkReset else s.linkDropped := by
  have hexpiry : s.livenessExpiry = if s.desk.isOffline then s
      else if s.linkDropped.line.resetWaiting && !s.linkDropped.line.sendsReset then s.linkDropped.linkReset else s.linkDropped := rfl
  have hsends : LinkLine.sendsReset { s.line with replies := [] } = s.line.sendsReset := rfl
  rw [hexpiry, s.desk.isOffline_eq_false h, linkDropped_line, hsends]
  simp only [Bool.and_eq_true, Bool.not_eq_true', Bool.false_eq_true, if_false]

theorem State.linkDropped_desk (s : State) : s.linkDropped.desk = s.desk.linkLost := by
  rw [linkDropped, onLine_desk, onDesk_desk]

theorem State.linkDropped_transmit (s : State) : s.linkDropped.transmit = s.linkDropped := by
  obtain ⟨hlink, -⟩ := s.desk.linkLost_keeps
  exact transmit_offline _ (s.linkDropped_desk ▸ hlink)

theorem State.linkDropped_power (s : State) : s.linkDropped.desk.power = s.desk.power := by
  obtain ⟨-, hpower⟩ := s.desk.linkLost_keeps
  rw [linkDropped_desk, hpower]

theorem exec_linkReset {s : State} (h : s.desk.power.on = true) : exec .linkReset s = .next s.linkReset := by
  have hexec : exec .linkReset s = .next (s.powered State.linkReset) := rfl
  rw [hexec, State.powered_on h, State.linkReset_transmit]

theorem exec_livenessExpiry {s : State} (h : s.desk.power.on = true) : exec .livenessExpiry s = .next s.livenessExpiry.transmit := by
  have hexec : exec .livenessExpiry s = .next (s.powered State.livenessExpiry) := rfl
  rw [hexec, State.powered_on h]

theorem exec_frameSent {s : State} (h : s.desk.power.on = true) : exec .frameSent s = .next s.frameSent.transmit := by
  have hexec : exec .frameSent s = .next (s.powered State.frameSent) := rfl
  rw [hexec, State.powered_on h]

/-! ## Frames that have been sent (R173, R189, R195) -/

/-- The state whose line is free. -/
def State.lineFree (s : State) : State := s.onLine fun l => { l with transmitting := none }

theorem State.frameSent_reset {s : State} {r : Reply} (h : s.line.transmitting = some (.reply r)) (hr : r.resets = true) :
    s.frameSent = s.lineFree.linkReset := by
  simp only [frameSent, h, hr, if_true]
  rfl

theorem State.frameSent_block {s : State} {first count cut : Nat} {records : List JournalRecord}
    (h : s.line.transmitting = some (.upload (.block first count cut records))) :
    s.frameSent = s.lineFree.onDesk fun d => d.blockSent first count := by
  simp only [frameSent, h]
  rfl

theorem State.frameSent_other {s : State} (hreset : s.line.sendsReset = false)
    (hblock : ∀ first count cut records, s.line.transmitting ≠ some (.upload (.block first count cut records))) :
    s.frameSent = s.lineFree := by
  unfold frameSent
  split
  · next r hr =>
    have hno : r.resets = false := by
      have h := hreset
      unfold LinkLine.sendsReset at h
      rwa [hr] at h
    exact if_neg (by simp [hno])
  · next first count cut records hr => exact absurd hr (hblock first count cut records)
  · rfl

theorem Desk.blockSent_inFlight {d : Desk} {first count : Nat} (hstate : d.upload.state = .sending)
    (hblock : d.upload.block = some ⟨first, count⟩) :
    d.blockSent first count = { d with upload := { d.upload with takenTimer := some d.settings.takenTimeout } } := by
  simp [blockSent, hstate, hblock, onUpload]

theorem Desk.blockSent_other {d : Desk} {first count : Nat} (h : d.upload.state ≠ .sending ∨ d.upload.block ≠ some ⟨first, count⟩) :
    d.blockSent first count = d := by
  rcases h with h | h <;> simp [blockSent, h]

/-! ## The transmit arbiter's order (R189) -/

section
variable {s : State} (hmay : (s.line.transmitting.isSome || s.desk.isOffline) = false)
include hmay

theorem State.transmit_reply {r : Reply} {rest : List Reply} (hr : s.line.replies = r :: rest) :
    s.transmit = s.send (.reply r) s.desk rest := by
  simp [transmit, hmay, hr]

theorem State.transmit_lookup {f : LookupFrame} {rest : List LookupFrame} (hr : s.line.replies = []) (hl : s.desk.lookupList = f :: rest) :
    s.transmit = s.send (.lookup f) { s.desk with lookupList := rest } [] := by
  simp [transmit, hmay, hr, hl]

theorem State.transmit_notice {n : Notice} {rest : List Notice} (hr : s.line.replies = []) (hl : s.desk.lookupList = [])
    (hn : s.desk.notices = n :: rest) : s.transmit = s.send (.notice n) { s.desk with notices := rest } [] := by
  simp [transmit, hmay, hr, hl, hn]

theorem State.transmit_upload {f : UploadFrame} {rest : List UploadFrame} (hr : s.line.replies = []) (hl : s.desk.lookupList = [])
    (hn : s.desk.notices = []) (hu : s.desk.uploadList = f :: rest) :
    s.transmit = s.send (.upload f) { s.desk with uploadList := rest } [] := by
  simp [transmit, hmay, hr, hl, hn, hu]

theorem State.transmit_nothing (hr : s.line.replies = []) (hl : s.desk.lookupList = []) (hn : s.desk.notices = [])
    (hu : s.desk.uploadList = []) : s.transmit = s := by
  simp [transmit, hmay, hr, hl, hn, hu]

end

end Sys2Proof.Machine

namespace Sys2Proof.Proofs
open Sys2Proof.Machine

/-- Settles O30: the reply of a RESET, and the link reset's desk, after which the link is OFFLINE. -/
theorem resetTakesEffect : Obligations.ResetTakesEffect := by
  unfold Obligations.ResetTakesEffect
  refine fun s tag => ⟨fun hs => ?_, fun hp => ?_⟩
  · have hexec : exec (.reset tag) s = .next (s.powered fun s => s.resetRequest tag) := rfl
    rw [hexec, State.resetRequest_dispatched hs]
  · rw [exec_linkReset hp, ← Desk.linkReset_eq]
    rfl

/-- Settles O31: the four branches of a valid frame, and the payloads that no branch of a request takes. -/
theorem framesThatArrive : Obligations.FramesThatArrive := by
  unfold Obligations.FramesThatArrive
  refine ⟨fun d => ⟨Desk.frameArrives_online, fun hoff hwaiting hidle hclosed => ?starts, fun hoff hnot => ?stands⟩,
    fun s kind tag payload hp => ⟨fun hw => ?waiting, fun hw hfull => ?full, fun hs hkind => ?badKind, fun hs hlow hhigh hfit => ?unfit⟩,
    fun s c index rest hp hc => ?rows, fun s tag kind hs hkind => ?badRow⟩
  case starts =>
    rw [Desk.frameArrives_offline hoff, Desk.tryWaitingUpload_eq]
    exact if_pos ⟨hwaiting, hidle, hclosed, nofun⟩
  case stands =>
    rw [Desk.frameArrives_offline hoff, Desk.tryWaitingUpload_eq]
    refine if_neg ?_
    rintro ⟨hwaiting, hidle, hclosed, -⟩
    rcases hnot with h | h | h
    · exact hwaiting h
    · exact h hidle
    · exact h hclosed
  case waiting => exact congrArg State.transmit (State.takeFrame_waiting hw kind tag payload)
  case full => exact (congrArg State.transmit (State.takeFrame_full hw hfull kind tag payload)).trans s.overrun_transmit
  case badKind =>
    have hbad : isRequestKind kind = false := by
      refine Bool.eq_false_iff.2 (mt (isRequestKind_iff kind).1 ?_)
      rintro ⟨hlow, hhigh⟩
      rcases hkind with rfl | h
      · exact absurd hlow (by decide)
      · exact Nat.not_le.2 h hhigh
    rw [State.takeFrame_badKind s kind tag payload hbad]
    exact State.takeValid_answer hs tag fun d => d.answer .badKind
  case unfit =>
    rw [State.takeFrame_unfit ((isRequestKind_iff kind).2 ⟨hlow, hhigh⟩) hfit tag]
    exact State.takeValid_answer hs tag fun d => d.answer .badArg
  case rows =>
    obtain ⟨f, hexec, hwaiting, hover⟩ := State.exec_validFrame hc s
    rw [hexec, State.powered_on hp]
    exact ⟨fun hw => congrArg (Host.Outcome.next ·.transmit) (hwaiting hw),
      fun hw hfull => congrArg Host.Outcome.next ((congrArg State.transmit (hover hw hfull)).trans s.overrun_transmit)⟩
  case badRow =>
    have hexec : exec (.badKindFrame tag kind) s = .next (s.powered fun s => if isRequestKind kind then s else s.badKind tag) := rfl
    have hbad : isRequestKind kind = false := by simpa [Instr.wellFormed] using hkind
    rw [hexec, State.powered_on hs.power, hbad]
    exact congrArg _ (State.takeValid_answer hs tag fun d => d.answer .badKind)

/-- Settles O33: what the expiry makes of the link, the waiting RESET and its reply, and the frame that leaves the line. -/
theorem livenessExpiresAndFramesAreSent : Obligations.LivenessExpiresAndFramesAreSent := by
  unfold Obligations.LivenessExpiresAndFramesAreSent
  intro s hp d looked drained lost after sendsReset free
  have hlost : s.desk.linkLost = lost := by
    have hdrained : s.desk.linkLost = drained.uploadLinkLost := rfl
    exact hdrained.trans drained.uploadLinkLost_eq
  have hafter : s.linkDropped = after := s.linkDropped_eq.trans (by rw [hlost])
  have hsends : sendsReset ↔ s.line.sendsReset = true := s.line.sendsReset_iff.symm
  rw [exec_livenessExpiry hp, exec_frameSent hp]
  refine ⟨fun hoff => ?_, fun hon hkeep => ?_, fun hon hw hnot => ?_, fun hsent => ?_, fun first count cut records ht => ⟨fun hstate hblock => ?_,
    fun hother => ?_⟩, fun hnot hblock => ?_⟩
  · rw [State.livenessExpiry_offline hoff]
    rfl
  · rw [State.livenessExpiry_online hon, if_neg, State.linkDropped_transmit, hafter]
    rintro ⟨hw, hno⟩
    rcases hkeep with h | h
    · exact Bool.false_ne_true (h.symm.trans hw)
    · exact Bool.false_ne_true (hno.symm.trans (hsends.1 h))
  · have hon' : after.desk.power.on = true := by
      rw [← hafter, State.linkDropped_power]
      exact hp
    rw [State.livenessExpiry_online hon, if_pos ⟨hw, Bool.eq_false_iff.2 (mt hsends.2 hnot)⟩, State.linkReset_transmit, hafter,
      exec_linkReset hon']
  · obtain ⟨r, ht, hr⟩ := hsent
    rw [State.frameSent_reset ht hr, State.linkReset_transmit, exec_linkReset (s := free) hp]
    rfl
  · rw [State.frameSent_block ht]
    exact congrArg (fun d => Host.Outcome.next (free.afterDesk d)) (Desk.blockSent_inFlight hstate hblock)
  · rw [State.frameSent_block ht]
    exact congrArg (fun d => Host.Outcome.next (free.afterDesk d)) (Desk.blockSent_other hother)
  · rw [State.frameSent_other (Bool.eq_false_iff.2 (mt hsends.2 hnot)) hblock]
    rfl

/-- Settles O34: the arbiter's branches. -/
theorem transmitTakesInOrder : Obligations.TransmitTakesInOrder := by
  unfold Obligations.TransmitTakesInOrder
  intro s sends d
  refine ⟨fun h => ?_, fun hfree hlink => ?_⟩
  · rcases h with h | h
    · exact State.transmit_busy s (Option.isSome_iff_ne_none.2 h)
    · exact State.transmit_offline s h
  · have hmay : (s.line.transmitting.isSome || s.desk.isOffline) = false := by simp [hfree, s.desk.isOffline_eq_false hlink]
    refine ⟨fun r rest hr => ?_, fun hr => ⟨fun f rest hl => ?_, fun hl => ⟨fun n rest hn => ?_, fun hn =>
      ⟨fun f rest hu => ?_, fun hu => ?_⟩⟩⟩⟩
    · exact State.transmit_reply hmay hr
    · exact State.transmit_lookup hmay hr hl
    · exact State.transmit_notice hmay hr hl hn
    · exact State.transmit_upload hmay hr hl hn hu
    · exact State.transmit_nothing hmay hr hl hn hu

end Sys2Proof.Proofs
end

section
/-! PROOF. The receive framer (R183, R184): what it makes of a byte in each of its states, what the line makes of that, and the
reading of a whole envelope. -/

namespace Sys2Proof.Machine

/-! ## The framer by its state and the byte -/

theorem Framer.take_broken (f : Framer) : f.take none = (.hunting, .none) := by
  cases f <;> rfl

theorem Framer.take_start : Framer.hunting.take (some 0xa5) = (.header [], .none) := rfl

theorem Framer.take_noise {x : Byte} (h : x ≠ 0xa5) : Framer.hunting.take (some x) = (.hunting, .none) :=
  congrArg (·, FrameEvent.none) (if_neg h)

theorem Framer.take_header {kept : List Byte} (h : kept.length ≤ 2) (x : Byte) :
    (Framer.header kept).take (some x) = (.header (kept ++ [x]), .none) :=
  match kept, h with
  | [], _ => rfl
  | [_], _ => rfl
  | [_, _], _ => rfl

theorem numberOf_pair (high low : Byte) : numberOf [high, low] = 256 * high.toNat + low.toNat := by
  simp [numberOf]

theorem Framer.take_lastOfHeader (kind tag high low : Byte) :
    (Framer.header [kind, tag, high]).take (some low) = (.afterHeader kind tag (256 * high.toNat + low.toNat), .none) := by
  rw [← numberOf_pair]
  rfl

theorem Framer.afterHeader_tooLong (kind tag : Byte) {n : Nat} (h : 1020 < n) : Framer.afterHeader kind tag n = .hunting := if_pos h

theorem Framer.afterHeader_zero (kind tag : Byte) : Framer.afterHeader kind tag 0 = .check kind tag [] none := rfl

theorem Framer.afterHeader_payload (kind tag : Byte) {n : Nat} (hlow : 0 < n) (hhigh : n ≤ 1020) :
    Framer.afterHeader kind tag n = .payload kind tag n [] := by
  exact (if_neg (Nat.not_lt.2 hhigh)).trans (if_neg (Nat.ne_of_gt hlow))

theorem Framer.take_payload_more (kind tag : Byte) {n : Nat} {kept : List Byte} (h : kept.length + 1 < n) (x : Byte) :
    (Framer.payload kind tag n kept).take (some x) = (.payload kind tag n (kept ++ [x]), .none) :=
  congrArg (·, FrameEvent.none) (if_pos h)

theorem Framer.take_payload_last (kind tag : Byte) {n : Nat} {kept : List Byte} (h : n ≤ kept.length + 1) (x : Byte) :
    (Framer.payload kind tag n kept).take (some x) = (.check kind tag (kept ++ [x]) none, .none) :=
  congrArg (·, FrameEvent.none) (if_neg (Nat.not_lt.2 h))

theorem Framer.take_firstCheck (kind tag : Byte) (payload : List Byte) (x : Byte) :
    (Framer.check kind tag payload none).take (some x) = (.check kind tag payload (some x), .none) := rfl

theorem Framer.take_secondCheck (kind tag : Byte) (payload : List Byte) (first second : Byte) :
    (Framer.check kind tag payload (some first)).take (some second) = (.hunting, judgeFrame kind tag payload first second) := rfl

/-- The check of a frame's body. -/
def frameCheck (kind tag : Byte) (payload : List Byte) : Nat := (crc16 ([kind, tag] ++ bytesOf 2 payload.length ++ payload)).toNat

theorem judgeFrame_agrees {kind tag first second : Byte} {payload : List Byte}
    (h : frameCheck kind tag payload = 256 * first.toNat + second.toNat) :
    judgeFrame kind tag payload first second = .valid kind tag payload := if_pos (h.trans (numberOf_pair first second).symm)

theorem judgeFrame_differs {kind tag first second : Byte} {payload : List Byte}
    (h : frameCheck kind tag payload ≠ 256 * first.toNat + second.toNat) :
    judgeFrame kind tag payload first second = .bad := if_neg fun hsame => h (hsame.trans (numberOf_pair first second))

/-! ## The line -/

theorem LinkLine.setFramer_kept (l : LinkLine) {f : Framer} (h : f ≠ .hunting) :
    l.setFramer f = { l with framer := f, gapTimer := some 50 } := by
  cases f with
  | hunting => exact absurd rfl h
  | header | payload | check => rfl

theorem LinkLine.gapExpiry_eq (l : LinkLine) : l.gapExpiry = if l.framer = .hunting then l else l.setFramer .hunting := by
  unfold gapExpiry
  cases l.framer <;> rfl

section
variable {s : State} {b : Option Byte} {f : Framer}

theorem State.receive_uneventful (h : s.line.framer.take b = (f, .none)) :
    s.receive b = { s with line := s.line.setFramer f } := by
  simp only [receive, h, onLine]

theorem State.receive_bad (h : s.line.framer.take b = (.hunting, .bad)) :
    s.receive b = { s with line := s.line.badFrame } := by
  simp only [receive, h, onLine]
  rfl

theorem State.receive_valid {kind tag : Byte} {payload : List Byte} (h : s.line.framer.take b = (.hunting, .valid kind tag payload)) :
    s.receive b = ({ s with line := s.line.setFramer .hunting }).takeFrame kind tag payload := by
  simp only [receive, h, onLine]

variable (hp : s.desk.power.on = true)
include hp

theorem exec_linkByteReceived (b : Option Byte) : exec (.linkByteReceived b) s = .next (s.receive b).transmit := by
  have hexec : exec (.linkByteReceived b) s = .next (s.powered fun s => s.receive b) := rfl
  rw [hexec, State.powered_on hp]

theorem exec_byteDropped (h : s.line.framer.take b = (.hunting, .none)) : exec (.linkByteReceived b) s =
    .next (({ s with line := { s.line with framer := .hunting, gapTimer := none } }).afterDesk s.desk) := by
  rw [exec_linkByteReceived hp, State.receive_uneventful h]
  rfl

theorem exec_byteKept (hf : f ≠ .hunting) (h : s.line.framer.take b = (f, .none)) : exec (.linkByteReceived b) s =
    .next (({ s with line := { s.line with framer := f, gapTimer := some 50 } }).afterDesk s.desk) := by
  rw [exec_linkByteReceived hp, State.receive_uneventful h, LinkLine.setFramer_kept _ hf]
  rfl

end

/-! ## A whole envelope -/

/-- The framer keeps every one of the bytes, and comes from `f` to `g`. -/
def Framer.Keeps (f : Framer) (bs : List Byte) (g : Framer) : Prop := f.takeAll bs = (g, List.replicate bs.length .none)

theorem Framer.Keeps.nil (f : Framer) : f.Keeps [] f := rfl

theorem Framer.Keeps.cons {f g h : Framer} {b : Byte} {bs : List Byte} (hb : f.take (some b) = (g, .none)) (hbs : g.Keeps bs h) :
    f.Keeps (b :: bs) h := by
  rw [Keeps, takeAll, hb, hbs]
  rfl

theorem Framer.takeAll_append (f : Framer) (as bs : List Byte) :
    f.takeAll (as ++ bs) = (((f.takeAll as).1.takeAll bs).1, (f.takeAll as).2 ++ ((f.takeAll as).1.takeAll bs).2) := by
  induction as generalizing f with
  | nil => rfl
  | cons a as ih => simp only [List.cons_append, takeAll, ih]

theorem Framer.Keeps.takeAll_append {f g : Framer} {as : List Byte} (h : f.Keeps as g) (bs : List Byte) :
    f.takeAll (as ++ bs) = ((g.takeAll bs).1, List.replicate as.length .none ++ (g.takeAll bs).2) := by
  rw [Framer.takeAll_append, h]

theorem Framer.Keeps.append {f g h : Framer} {as bs : List Byte} (ha : f.Keeps as g) (hb : g.Keeps bs h) : f.Keeps (as ++ bs) h := by
  rw [Keeps, ha.takeAll_append, hb, List.length_append, List.replicate_add]

/-- The payload's bytes, of which `kept` have come. -/
theorem Framer.keeps_payload (kind tag : Byte) {n : Nat} {kept bs : List Byte} (hbs : bs ≠ []) (hn : kept.length + bs.length = n) :
    (Framer.payload kind tag n kept).Keeps bs (.check kind tag (kept ++ bs) none) := by
  induction bs generalizing kept with
  | nil => exact absurd rfl hbs
  | cons b rest ih =>
    cases rest with
    | nil => exact .cons (take_payload_last kind tag (by simp at hn; omega) b) (.nil _)
    | cons c rest =>
      simp only [List.length_cons] at hn
      have hmore := ih (kept := kept ++ [b]) nofun (by simp; omega)
      rw [List.append_assoc] at hmore
      exact .cons (take_payload_more kind tag (by omega) b) hmore

theorem Framer.keeps_header (kind tag : Byte) {n : Nat} (h : n ≤ 1020) :
    Framer.hunting.Keeps ([0xa5, kind, tag] ++ bytesOf 2 n) (.afterHeader kind tag n) := by
  have hlength : 256 * (BitVec.ofNat 8 (n / 256)).toNat + (BitVec.ofNat 8 n).toNat = n := by
    simp only [BitVec.toNat_ofNat]
    omega
  have hlast := take_lastOfHeader kind tag (BitVec.ofNat 8 (n / 256)) (BitVec.ofNat 8 n)
  rw [hlength] at hlast
  exact .cons take_start (.cons (take_header (by decide) _) (.cons (take_header (by simp) _) (.cons (take_header (by simp) _)
    (.cons hlast (.nil _)))))

theorem Framer.keeps_body (kind tag : Byte) {payload : List Byte} (h : payload.length ≤ 1020) :
    (Framer.afterHeader kind tag payload.length).Keeps payload (.check kind tag payload none) := by
  cases payload with
  | nil => exact .nil _
  | cons b bs =>
    rw [afterHeader_payload kind tag (by simp) h]
    exact keeps_payload kind tag (kept := []) nofun (by simp)

/-- The two check bytes of the envelope. -/
theorem Framer.takeAll_check (kind tag : Byte) (payload : List Byte) :
    (Framer.check kind tag payload none).takeAll (bytesOf 2 (frameCheck kind tag payload)) =
      (.hunting, [.none, .valid kind tag payload]) := by
  have hcheck : numberOf (bytesOf 2 (frameCheck kind tag payload)) = frameCheck kind tag payload := by
    rw [numberOf_bytesOf]
    exact Nat.mod_eq_of_lt (BitVec.isLt _)
  rw [bytesOf_two, numberOf_pair] at hcheck
  rw [bytesOf_two, takeAll, take_firstCheck, takeAll, take_secondCheck, judgeFrame_agrees hcheck.symm]
  rfl

theorem envelope_eq (kind tag : Byte) (payload : List Byte) : envelope kind tag payload =
    ([0xa5, kind, tag] ++ bytesOf 2 payload.length) ++ payload ++ bytesOf 2 (frameCheck kind tag payload) := by
  simp [envelope, frameCheck]

end Sys2Proof.Machine

namespace Sys2Proof.Proofs
open Sys2Proof.Machine

/-- Settles O32: the framer's table of a state and a byte, as the line and the arbiter take it. -/
theorem receiveFramer : Obligations.ReceiveFramer := by
  unfold Obligations.ReceiveFramer
  intro s hp idle bad keeps drops
  refine ⟨?badFrame, fun h => ?gap, fun h => ?noGap, exec_byteDropped hp (Framer.take_broken _),
    fun h => ⟨?start, fun x hx => ?noise⟩, fun kept h hkept x => ?header, fun kind tag high h low => ?lengthKnown,
    fun kind tag n kept h x => ⟨fun hn => ?more, fun hn => ?last⟩, fun kind tag body h x => ?first,
    fun kind tag body first h x => ?judged⟩
  case badFrame =>
    have hexec : exec .linkBadFrame s = .next (s.powered fun s => s.onLine LinkLine.badFrame) := rfl
    rw [hexec, State.powered_on hp]
    rfl
  case gap =>
    have hexec : exec .receiveGapExpiry s = .next (s.powered fun s => s.onLine LinkLine.gapExpiry) := rfl
    rw [hexec, State.powered_on hp, State.onLine, LinkLine.gapExpiry_eq, if_neg h]
    rfl
  case noGap =>
    have hexec : exec .receiveGapExpiry s = .next (s.powered fun s => s.onLine LinkLine.gapExpiry) := rfl
    rw [hexec, State.powered_on hp, State.onLine, LinkLine.gapExpiry_eq, if_pos h]
    rfl
  case start => exact exec_byteKept hp nofun (h ▸ Framer.take_start)
  case noise => exact exec_byteDropped hp (h ▸ Framer.take_noise hx)
  case header => exact exec_byteKept hp nofun (h ▸ Framer.take_header hkept x)
  case lengthKnown =>
    have htake := Framer.take_lastOfHeader kind tag high low
    intro n
    rw [← h] at htake
    refine ⟨fun hn => ?_, fun hn => ?_, fun hlow hhigh => ?_⟩
    · rw [Framer.afterHeader_tooLong kind tag hn] at htake
      exact exec_byteDropped hp htake
    · rw [show 256 * high.toNat + low.toNat = 0 from hn, Framer.afterHeader_zero] at htake
      exact exec_byteKept hp nofun htake
    · rw [Framer.afterHeader_payload kind tag hlow hhigh] at htake
      exact exec_byteKept hp nofun htake
  case more => exact exec_byteKept hp nofun (h ▸ Framer.take_payload_more kind tag hn x)
  case last => exact exec_byteKept hp nofun (h ▸ Framer.take_payload_last kind tag hn x)
  case first => exact exec_byteKept hp nofun (h ▸ Framer.take_firstCheck kind tag body x)
  case judged =>
    have htake := Framer.take_secondCheck kind tag body first x
    rw [← h] at htake
    refine ⟨fun hcrc => ?_, fun hcrc => ?_⟩
    · rw [judgeFrame_agrees hcrc] at htake
      rw [exec_linkByteReceived hp, State.receive_valid htake]
      rfl
    · rw [judgeFrame_differs hcrc] at htake
      rw [exec_linkByteReceived hp, State.receive_bad htake]
      rfl

/-- Settles O35: header, payload and check bytes, each kept in turn. -/
theorem framerReadsEveryEnvelope : Obligations.FramerReadsEveryEnvelope := by
  unfold Obligations.FramerReadsEveryEnvelope
  intro kind tag payload h
  rw [envelope_eq, ((Framer.keeps_header kind tag h).append (Framer.keeps_body kind tag h)).takeAll_append, Framer.takeAll_check]
  have hlength : ([0xa5, kind, tag] ++ bytesOf 2 payload.length ++ payload).length = payload.length + 5 := by
    simp
    omega
  rw [hlength, List.replicate_succ' (n := payload.length + 5), List.append_assoc]
  rfl

end Sys2Proof.Proofs
end

section
/-! PROOF. The slips' queues (R142, R143, R146, R149): the single steps that `settleSlips` takes, why five rounds of them leave
nothing to be placed or moved, and what a slip's hand-over and composition make. -/

namespace Sys2Proof.Machine

/-! ## Deferred slips take places (R143) -/

/-- A place of the printer's queue waits for a deferred slip. -/
abbrev Desk.Places (d : Desk) (p : PrinterId) : Prop :=
  (∃ j ∈ d.slips.deferrals, d.assigned j.station = p) ∧ (d.printer p).queue.length < queueCapacity

theorem Desk.placeOneDeferred_not {d : Desk} {p : PrinterId} (h : ¬ d.Places p) : d.placeOneDeferred p = d := by
  unfold placeOneDeferred
  split
  · next j hj =>
    have hassigned : d.assigned j.station = p := by simpa using List.find?_some hj
    refine if_neg fun hroom => h ⟨⟨j, List.mem_of_find?_eq_some hj, hassigned⟩, ?_⟩
    exact of_decide_eq_true hroom
  · rfl

/-- The desk whose deferred slip `j` has taken a place of the printer's queue, `left` being still deferred. -/
def Desk.placed (d : Desk) (p : PrinterId) (j : SlipJob) (left : List SlipJob) : Desk :=
  ((d.onSlips fun x => { x with deferrals := left }).onPrinter p fun x => { x with queue := x.queue ++ [j] }).removePrompt
    j.station .slipWaiting

theorem Desk.placeOneDeferred_of_find {d : Desk} {p : PrinterId} {j : SlipJob}
    (hj : d.slips.deferrals.find? (fun j => d.assigned j.station == p) = some j)
    (hroom : (d.printer p).queue.length < queueCapacity) :
    d.placeOneDeferred p = d.placed p j (d.slips.deferrals.filter fun x => x.station != j.station) := by
  unfold placeOneDeferred
  rw [hj]
  exact if_pos (decide_eq_true hroom)

theorem Desk.Places.exists_placed {d : Desk} {p : PrinterId} (h : d.Places p) : ∃ j ∈ d.slips.deferrals,
    d.placeOneDeferred p = d.placed p j (d.slips.deferrals.filter fun x => x.station != j.station) := by
  obtain ⟨⟨o, ho, hassigned⟩, hroom⟩ := h
  obtain ⟨j, hj⟩ := Option.isSome_iff_exists.1
    (List.find?_isSome (p := fun j : SlipJob => d.assigned j.station == p) |>.2 ⟨o, ho, by simpa using hassigned⟩)
  exact ⟨j, List.mem_of_find?_eq_some hj, d.placeOneDeferred_of_find hj hroom⟩

section
variable (d : Desk) (p : PrinterId) (j : SlipJob) (left : List SlipJob)

@[simp] theorem Desk.placed_deferrals : (d.placed p j left).slips.deferrals = left := by simp [placed]

@[simp] theorem Desk.placed_stationSettings : (d.placed p j left).stationSettings = d.stationSettings := by simp [placed]

@[simp] theorem Desk.placed_lastSlips : (d.placed p j left).slips.lastSlips = d.slips.lastSlips := by simp [placed]

theorem Desk.placed_printer_other {o : PrinterId} (h : o ≠ p) : (d.placed p j left).printer o = d.printer o := by
  simp [placed, printer, PerPrinter.get_set_other _ _ h]

end

theorem Desk.Places.length_lt {d : Desk} {p : PrinterId} (h : d.Places p) :
    (d.placeOneDeferred p).slips.deferrals.length < d.slips.deferrals.length := by
  obtain ⟨j, hj, hplaced⟩ := h.exists_placed
  rw [hplaced, placed_deferrals]
  exact List.length_filter_lt_length_iff_exists.2 ⟨j, hj, by simp⟩

/-- A place that a deferred slip takes at one printer gives the other printer nothing to place. -/
theorem Desk.Places.of_placeOneDeferred {d : Desk} {p o : PrinterId} (hne : o ≠ p) (h : (d.placeOneDeferred p).Places o) :
    d.Places o := by
  by_cases hp : d.Places p
  · obtain ⟨j, -, hplaced⟩ := hp.exists_placed
    obtain ⟨⟨k, hk, hassigned⟩, hroom⟩ := hplaced ▸ h
    rw [placed_printer_other _ _ _ _ hne] at hroom
    rw [placed_deferrals] at hk
    exact ⟨⟨k, (List.mem_filter.1 hk).1, by simpa [assigned] using hassigned⟩, hroom⟩
  · rwa [placeOneDeferred_not hp] at h

/-! ## Jobs move to the other printer (R149) -/

/-- A failed printer's head job may move to the other printer. -/
abbrev Desk.Moves (d : Desk) (p : PrinterId) : Prop :=
  (d.printer p).status.failed = true ∧ (d.printer p.other).status.failed = false ∧
    (d.printer p.other).queue.length < queueCapacity ∧ ∃ j rest, (d.printer p).queue = j :: rest ∧ d.isAutomatic j.station = true

/-- The part of a queue that the pass has gone through, when it stops. -/
structure PassesOver (automatic : SlipJob → Bool) (room : Nat) (front back : List SlipJob) : Prop where
  fits : (front.filter automatic).length ≤ room
  stops : back = [] ∨ (front.filter automatic).length = room

theorem passQueue_append {automatic : SlipJob → Bool} {room : Nat} {front back : List SlipJob} (h : PassesOver automatic room front back) :
    passQueue automatic room (front ++ back) = (front.filter automatic, (front.filter fun j => !automatic j) ++ back) := by
  obtain ⟨hfits, hstops⟩ := h
  induction front generalizing room with
  | nil =>
    rcases hstops with rfl | hroom
    · cases room <;> rfl
    · obtain rfl : room = 0 := hroom.symm
      cases back <;> rfl
  | cons j front ih =>
    cases room with
    | zero =>
      have hnone : (j :: front).filter automatic = [] := List.length_eq_zero_iff.1 (Nat.le_zero.1 hfits)
      have hall : (j :: front).filter (fun j => !automatic j) = j :: front := by
        refine List.filter_eq_self.2 fun k hk => ?_
        simpa using List.filter_eq_nil_iff.1 hnone k hk
      rw [hnone, hall]
      rfl
    | succ room =>
      rw [List.cons_append, passQueue]
      cases hj : automatic j
      · simp only [List.filter_cons, hj, Bool.false_eq_true, if_false] at hfits hstops
        simp [hj, ih hfits hstops]
      · simp only [List.filter_cons, hj, if_true, List.length_cons, Nat.add_le_add_iff_right, Nat.add_right_cancel_iff]
          at hfits hstops
        simp [hj, ih hfits hstops]

theorem exists_passesOver (automatic : SlipJob → Bool) (room : Nat) (js : List SlipJob) :
    ∃ front back, js = front ++ back ∧ PassesOver automatic room front back := by
  induction js generalizing room with
  | nil => exact ⟨[], [], rfl, by simp, .inl rfl⟩
  | cons j js ih =>
    cases room with
    | zero => exact ⟨[], j :: js, rfl, by simp, .inr rfl⟩
    | succ room =>
      cases hj : automatic j
      · obtain ⟨front, back, rfl, hfits, hstops⟩ := ih (room + 1)
        exact ⟨j :: front, back, rfl, by simpa [hj] using hfits, by simpa [hj] using hstops⟩
      · obtain ⟨front, back, rfl, hfits, hstops⟩ := ih room
        exact ⟨j :: front, back, rfl, by simpa [hj] using hfits, by simpa [hj] using hstops⟩

theorem Desk.onPrinter_self {d : Desk} {p : PrinterId} {f : Printer → Printer} (h : f (d.printer p) = d.printer p) :
    d.onPrinter p f = d := by
  unfold printer at h
  unfold onPrinter
  rw [h, PerPrinter.set_get]

theorem Desk.failoverFrom_not {d : Desk} {p : PrinterId} (h : ¬ d.Moves p) : d.failoverFrom p = d := by
  unfold failoverFrom
  dsimp only
  split
  · next head rest hqueue =>
    split
    · next hmay =>
      simp only [Bool.and_eq_true, Bool.not_eq_true'] at hmay
      obtain ⟨⟨hfailed, hother⟩, hauto⟩ := hmay
      have hfull : queueCapacity - (d.printer p.other).queue.length = 0 := by
        by_contra hroom
        exact h ⟨hfailed, hother, by omega, head, rest, hqueue, hauto⟩
      have hnothing : passQueue (fun j => d.isAutomatic j.station) 0 (d.printer p).queue = ([], (d.printer p).queue) := by
        rw [hqueue, passQueue]
        nofun
      rw [hfull, hnothing, onPrinter_self (p := p) rfl, onPrinter_self]
      simp
    · rfl
  · rfl

/-- The desk whose automatic jobs of `front` have moved from the printer to the other one, `back` being the rest of its queue. -/
def Desk.moved (d : Desk) (p : PrinterId) (front back : List SlipJob) : Desk :=
  (d.onPrinter p fun x => { x with queue := (front.filter fun j => !d.isAutomatic j.station) ++ back }).onPrinter p.other fun x =>
    { x with queue := x.queue ++ front.filter fun j => d.isAutomatic j.station }

theorem Desk.Moves.failoverFrom_eq {d : Desk} {p : PrinterId} (h : d.Moves p) {front back : List SlipJob}
    (hqueue : (d.printer p).queue = front ++ back)
    (hpass : PassesOver (fun j => d.isAutomatic j.station) (queueCapacity - (d.printer p.other).queue.length) front back) :
    d.failoverFrom p = d.moved p front back := by
  obtain ⟨hfailed, hother, -, j, rest, hhead, hauto⟩ := h
  have hmay : ((d.printer p).status.failed && !(d.printer p.other).status.failed && d.isAutomatic j.station) = true := by
    simp [hfailed, hother, hauto]
  have hpassed := passQueue_append hpass
  rw [← hqueue] at hpassed
  unfold failoverFrom
  dsimp only
  rw [hpassed]
  split
  · next head rest' hhead' =>
    obtain rfl : head = j := (List.cons.inj (hhead'.symm.trans hhead)).1
    exact if_pos hmay
  · next hnil => exact absurd (hnil.symm.trans hhead) nofun

theorem PrinterId.other_ne (p : PrinterId) : p.other ≠ p := by
  cases p <;> decide

section
variable (d : Desk) (p : PrinterId) (front back : List SlipJob)

@[simp] theorem Desk.moved_stationSettings : (d.moved p front back).stationSettings = d.stationSettings := rfl

@[simp] theorem Desk.moved_deferrals : (d.moved p front back).slips.deferrals = d.slips.deferrals := rfl

@[simp] theorem Desk.moved_lastSlips : (d.moved p front back).slips.lastSlips = d.slips.lastSlips := rfl

theorem Desk.moved_printer : (d.moved p front back).printer p =
    { d.printer p with queue := (front.filter fun j => !d.isAutomatic j.station) ++ back } := by
  simp [moved, printer, PerPrinter.get_set_other _ _ (PrinterId.other_ne p).symm]

theorem Desk.moved_printer_other : (d.moved p front back).printer p.other =
    { d.printer p.other with queue := (d.printer p.other).queue ++ front.filter fun j => d.isAutomatic j.station } := by
  simp [moved, printer, PerPrinter.get_set_other _ _ (PrinterId.other_ne p)]

end

/-- What a printer's failover makes: the desk as it is, or the one whose jobs have moved. -/
theorem Desk.failoverFrom_cases (d : Desk) (p : PrinterId) : (¬ d.Moves p ∧ d.failoverFrom p = d) ∨
    (d.Moves p ∧ ∃ front back, (d.printer p).queue = front ++ back ∧
      PassesOver (fun j => d.isAutomatic j.station) (queueCapacity - (d.printer p.other).queue.length) front back ∧
      d.failoverFrom p = d.moved p front back) := by
  by_cases h : d.Moves p
  · obtain ⟨front, back, hqueue, hpass⟩ := exists_passesOver (fun j => d.isAutomatic j.station)
      (queueCapacity - (d.printer p.other).queue.length) (d.printer p).queue
    exact .inr ⟨h, front, back, hqueue, hpass, h.failoverFrom_eq hqueue hpass⟩
  · exact .inl ⟨h, failoverFrom_not h⟩

theorem Desk.failoverFrom_failed (d : Desk) (p o : PrinterId) :
    ((d.failoverFrom p).printer o).status.failed = (d.printer o).status.failed := by
  rcases d.failoverFrom_cases p with ⟨-, h⟩ | ⟨-, front, back, -, -, h⟩
  · rw [h]
  · rw [h]
    have ho : o = p ∨ o = p.other := by cases o <;> cases p <;> decide
    rcases ho with rfl | rfl
    · rw [moved_printer]
    · rw [moved_printer_other]

@[simp] theorem Desk.failoverFrom_slips (d : Desk) (p : PrinterId) : (d.failoverFrom p).slips.deferrals = d.slips.deferrals ∧
    (d.failoverFrom p).slips.lastSlips = d.slips.lastSlips := by
  rcases d.failoverFrom_cases p with ⟨-, h⟩ | ⟨-, front, back, -, -, h⟩ <;> simp [h]

/-- Once jobs have moved, the other printer is full or no automatic job is left. -/
theorem Desk.not_moves_failoverFrom (d : Desk) (p : PrinterId) : ¬ (d.failoverFrom p).Moves p := by
  rcases d.failoverFrom_cases p with ⟨hnot, h⟩ | ⟨-, front, back, -, hpass, h⟩
  · rwa [h]
  · rw [h]
    rintro ⟨-, -, hroom, j, rest, hhead, hauto⟩
    rw [moved_printer_other] at hroom
    rw [moved_printer] at hhead
    change d.isAutomatic j.station = true at hauto
    simp only [List.length_append] at hroom
    rcases hpass.stops with rfl | hfull
    · have hj : j ∈ front.filter fun j => !d.isAutomatic j.station := by
        rw [List.append_nil] at hhead
        change front.filter (fun j => !d.isAutomatic j.station) = j :: rest at hhead
        exact hhead ▸ List.mem_cons_self
      exact absurd hauto (by simpa using (List.mem_filter.1 hj).2)
    · omega

/-- Only one printer's jobs can move: the other printer has not failed. -/
theorem Desk.Moves.not_other {d : Desk} {p : PrinterId} (h : d.Moves p) : ¬ d.Moves p.other := by
  obtain ⟨-, hother, -⟩ := h
  rintro ⟨hfailed, -⟩
  exact Bool.false_ne_true (hother.symm.trans hfailed)

/-! ## Single steps -/

/-- Nothing is to be placed or moved. -/
structure Desk.Settled (d : Desk) : Prop where
  noPlace0 : ¬ d.Places .p0
  noPlace1 : ¬ d.Places .p1
  noMove0 : ¬ d.Moves .p0
  noMove1 : ¬ d.Moves .p1

/-- The first thing that is to be done: one slip is placed at P0 or else at P1, or else the jobs that can move do. -/
def Desk.slipStep (d : Desk) : Desk :=
  if d.Places .p0 then d.placeOneDeferred .p0
  else if d.Places .p1 then d.placeOneDeferred .p1
  else (d.failoverFrom .p0).failoverFrom .p1

theorem Desk.Settled.slipStep_eq {d : Desk} (h : d.Settled) : d.slipStep = d := by
  rw [slipStep, if_neg h.noPlace0, if_neg h.noPlace1, failoverFrom_not h.noMove0, failoverFrom_not h.noMove1]

theorem Desk.slipStep_deferrals_le (d : Desk) : d.slipStep.slips.deferrals.length ≤ d.slips.deferrals.length := by
  unfold slipStep
  split
  · next h => exact h.length_lt.le
  · split
    · next h => exact h.length_lt.le
    · simp

/-- Single steps lead from one desk to the other. -/
def Desk.StepsTo (d e : Desk) : Prop := ∃ n, e = slipStep^[n] d

theorem Desk.StepsTo.refl (d : Desk) : d.StepsTo d := ⟨0, rfl⟩

theorem Desk.StepsTo.trans {d e f : Desk} (hde : d.StepsTo e) (hef : e.StepsTo f) : d.StepsTo f := by
  obtain ⟨m, rfl⟩ := hde
  obtain ⟨n, rfl⟩ := hef
  exact ⟨n + m, (Function.iterate_add_apply _ n m d).symm⟩

theorem Desk.stepsTo_slipStep (d : Desk) : d.StepsTo d.slipStep := ⟨1, rfl⟩

theorem Desk.StepsTo.repeat {f : Desk → Desk} (hf : ∀ d : Desk, d.StepsTo (f d)) (n : Nat) (d : Desk) : d.StepsTo (Nat.repeat f n d) := by
  induction n with
  | zero => exact .refl d
  | succ n ih => exact ih.trans (hf _)

/-- Single steps come to one settled desk only. -/
theorem Desk.StepsTo.unique {d e f : Desk} (he : d.StepsTo e) (hf : d.StepsTo f) (hse : e.Settled) (hsf : f.Settled) : e = f := by
  obtain ⟨m, rfl⟩ := he
  obtain ⟨n, rfl⟩ := hf
  rcases Nat.le_total m n with h | h
  · obtain ⟨k, rfl⟩ := Nat.exists_eq_add_of_le' h
    rw [Function.iterate_add_apply, Function.iterate_fixed hse.slipStep_eq]
  · obtain ⟨k, rfl⟩ := Nat.exists_eq_add_of_le' h
    rw [Function.iterate_add_apply, Function.iterate_fixed hsf.slipStep_eq]

/-! ## Rounds of steps -/

/-- An operation that shortens the deferred slips while it is not done is done after as many repetitions as there are of them. -/
theorem Desk.repeat_done {I Done : Desk → Prop} {f : Desk → Desk} (hI : ∀ d, I d → I (f d)) (hdone : ∀ d, I d → Done d → Done (f d))
    (hstep : ∀ d, I d → ¬ Done d → (f d).slips.deferrals.length < d.slips.deferrals.length) (n : Nat) {d : Desk} (h : I d) :
    I (Nat.repeat f n d) ∧
      (Done (Nat.repeat f n d) ∨ (Nat.repeat f n d).slips.deferrals.length + n ≤ d.slips.deferrals.length) := by
  induction n with
  | zero => exact ⟨h, .inr (Nat.le_refl _)⟩
  | succ n ih =>
    obtain ⟨hinv, hcase⟩ := ih
    refine ⟨hI _ hinv, ?_⟩
    by_cases hnow : Done (Nat.repeat f n d)
    · exact .inl (hdone _ hinv hnow)
    · have hless := hstep _ hinv hnow
      have hlength := hcase.resolve_left hnow
      exact .inr (by change (f _).slips.deferrals.length + (n + 1) ≤ _; omega)

theorem Desk.not_places_placeDeferred (d : Desk) (p : PrinterId) : ¬ (d.placeDeferred p).Places p := by
  obtain ⟨-, hdone | hlength⟩ := repeat_done (I := fun _ => True) (Done := fun d => ¬ d.Places p) (f := fun d => d.placeOneDeferred p)
    (fun _ _ => trivial) (fun d _ h => by rwa [placeOneDeferred_not h]) (fun d _ h => (Decidable.not_not.1 h).length_lt)
    d.slips.deferrals.length (d := d) trivial
  · exact hdone
  · have hnone : (d.placeDeferred p).slips.deferrals = [] := by
      refine List.length_eq_zero_iff.1 ?_
      change (d.placeDeferred p).slips.deferrals.length + _ ≤ _ at hlength
      omega
    rintro ⟨⟨j, hj, -⟩, -⟩
    rw [hnone] at hj
    cases hj

theorem Desk.stepsTo_placeDeferred_p0 (d : Desk) : d.StepsTo (d.placeDeferred .p0) := by
  refine StepsTo.repeat (fun d => ?_) _ d
  by_cases h : d.Places .p0
  · have hstep := d.stepsTo_slipStep
    rwa [slipStep, if_pos h] at hstep
  · rw [placeOneDeferred_not h]
    exact .refl d

/-- The places of P1, once P0 has none to give. -/
theorem Desk.stepsTo_placeDeferred_p1 {d : Desk} (h0 : ¬ d.Places .p0) :
    d.StepsTo (d.placeDeferred .p1) ∧ ¬ (d.placeDeferred .p1).Places .p0 := by
  refine repeat_induct (P := fun e => d.StepsTo e ∧ ¬ e.Places .p0) (fun e ⟨hsteps, he⟩ => ?_) _ ⟨.refl d, h0⟩
  refine ⟨hsteps.trans ?_, fun hplaces => he (hplaces.of_placeOneDeferred (by decide))⟩
  by_cases h : e.Places .p1
  · have hstep := e.stepsTo_slipStep
    rwa [slipStep, if_neg he, if_pos h] at hstep
  · rw [placeOneDeferred_not h]
    exact .refl e

theorem Desk.slipStep_failover {d : Desk} (h0 : ¬ d.Places .p0) (h1 : ¬ d.Places .p1) :
    d.slipStep = (d.failoverFrom .p0).failoverFrom .p1 := by
  rw [slipStep, if_neg h0, if_neg h1]

theorem Desk.stepsTo_slipRound (d : Desk) : d.StepsTo d.slipRound := by
  obtain ⟨hplaced, h0⟩ := stepsTo_placeDeferred_p1 (d.not_places_placeDeferred .p0)
  have h1 := (d.placeDeferred .p0).not_places_placeDeferred .p1
  have hmoved := stepsTo_slipStep ((d.placeDeferred .p0).placeDeferred .p1)
  rw [slipStep_failover h0 h1] at hmoved
  exact (d.stepsTo_placeDeferred_p0.trans hplaced).trans hmoved

/-- No job can move. -/
def Desk.Unmoving (d : Desk) : Prop := ¬ d.Moves .p0 ∧ ¬ d.Moves .p1

theorem Desk.unmoving_failover (d : Desk) : ((d.failoverFrom .p0).failoverFrom .p1).Unmoving := by
  refine ⟨fun h => ?_, not_moves_failoverFrom _ .p1⟩
  have hstill : ((d.failoverFrom .p0).printer .p0).status.failed = true := by
    rw [← failoverFrom_failed (d.failoverFrom .p0) .p1]
    exact h.1
  have hnot : ¬ (d.failoverFrom .p0).Moves .p1 := by
    rintro ⟨-, hother, -⟩
    exact Bool.false_ne_true (hother.symm.trans hstill)
  rw [failoverFrom_not hnot] at h
  exact d.not_moves_failoverFrom .p0 h

theorem Desk.placeDeferred_cases (d : Desk) (p : PrinterId) :
    d.placeDeferred p = d ∨ (d.placeDeferred p).slips.deferrals.length < d.slips.deferrals.length := by
  refine repeat_induct (P := fun e => e = d ∨ e.slips.deferrals.length < d.slips.deferrals.length) (fun e he => ?_) _ (.inl rfl)
  by_cases hplaces : e.Places p
  · have hless := hplaces.length_lt
    rcases he with rfl | he
    · exact .inr hless
    · exact .inr (hless.trans he)
  · rwa [placeOneDeferred_not hplaces]

theorem Desk.Settled.slipRound_eq {d : Desk} (h : d.Settled) : d.slipRound = d := by
  obtain ⟨n, hn⟩ := d.stepsTo_slipRound
  rw [hn, Function.iterate_fixed h.slipStep_eq]

/-- A round that moves nothing from the start, with a place to give, shortens the deferred slips. -/
theorem Desk.slipRound_length_lt {d : Desk} (hmoves : d.Unmoving) (h : ¬ d.Settled) :
    d.slipRound.slips.deferrals.length < d.slips.deferrals.length := by
  have hlength : d.slipRound.slips.deferrals = ((d.placeDeferred .p0).placeDeferred .p1).slips.deferrals := by
    simp [slipRound]
  have hnone0 := d.not_places_placeDeferred .p0
  have hnone1 := (d.placeDeferred .p0).not_places_placeDeferred .p1
  rw [hlength]
  rcases d.placeDeferred_cases .p0 with h0 | h0 <;> rcases (d.placeDeferred .p0).placeDeferred_cases .p1 with h1 | h1
  · rw [h1, h0] at hnone1
    rw [h0] at hnone0
    exact absurd ⟨hnone0, hnone1, hmoves.1, hmoves.2⟩ h
  · rw [h0] at h1 ⊢
    exact h1
  · rwa [h1]
  · exact h1.trans h0

/-- Four deferred slips are placed after five rounds at the latest: the first round may only move jobs. -/
theorem Desk.settled_rounds {d : Desk} (h : d.slips.deferrals.length ≤ 4) : (Nat.repeat Desk.slipRound 5 d).Settled := by
  have hshift : Nat.repeat slipRound 5 d = Nat.repeat slipRound 4 d.slipRound := by simp only [Nat.repeat]
  have hfirst : d.slipRound.Unmoving := unmoving_failover _
  have hless : d.slipRound.slips.deferrals.length ≤ 4 := by
    refine le_trans ?_ h
    simp only [slipRound, failoverFrom_slips]
    rcases d.placeDeferred_cases .p0 with h0 | h0 <;> rcases (d.placeDeferred .p0).placeDeferred_cases .p1 with h1 | h1
    · rw [h1, h0]
    · rw [h0] at h1 ⊢
      exact h1.le
    · rw [h1]
      exact h0.le
    · exact (h1.trans h0).le
  obtain ⟨hunmoving, hdone | hlength⟩ := repeat_done (I := Unmoving) (Done := Settled) (f := slipRound)
    (fun e _ => unmoving_failover _) (fun e _ he => he.slipRound_eq.symm ▸ he) (fun e hI he => slipRound_length_lt hI he) 4 hfirst
  · rwa [hshift]
  · rw [hshift]
    have hnone : (Nat.repeat slipRound 4 d.slipRound).slips.deferrals = [] := List.length_eq_zero_iff.1 (by omega)
    have hplaces (p : PrinterId) : ¬ (Nat.repeat slipRound 4 d.slipRound).Places p := by
      rintro ⟨⟨j, hj, -⟩, -⟩
      rw [hnone] at hj
      cases hj
    exact ⟨hplaces .p0, hplaces .p1, hunmoving.1, hunmoving.2⟩

theorem Desk.stepsTo_rounds (d : Desk) : d.StepsTo (Nat.repeat Desk.slipRound 5 d) := StepsTo.repeat stepsTo_slipRound 5 d

/-- A single step may be taken first. -/
theorem Desk.settleSlips_slipStep {d : Desk} (h : d.slips.deferrals.length ≤ 4) : d.settleSlips = d.slipStep.settleSlips := by
  have hrounds : Nat.repeat slipRound 5 d = Nat.repeat slipRound 5 d.slipStep :=
    d.stepsTo_rounds.unique (d.stepsTo_slipStep.trans d.slipStep.stepsTo_rounds) (settled_rounds h)
      (settled_rounds (d.slipStep_deferrals_le.trans h))
  rw [settleSlips, hrounds, settleSlips]

theorem Desk.Settled.settleSlips_eq {d : Desk} (h : d.Settled) : d.settleSlips = (d.startPrinter .p0).startPrinter .p1 := by
  obtain ⟨n, hn⟩ := d.stepsTo_rounds
  rw [settleSlips, hn, Function.iterate_fixed h.slipStep_eq]

/-! ## Copies of slips (R140) -/

theorem Desk.placeOneDeferred_lastSlips (d : Desk) (p : PrinterId) : (d.placeOneDeferred p).slips.lastSlips = d.slips.lastSlips := by
  by_cases h : d.Places p
  · obtain ⟨j, -, hplaced⟩ := h.exists_placed
    rw [hplaced, placed_lastSlips]
  · rw [placeOneDeferred_not h]

theorem Desk.slipRound_lastSlips (d : Desk) : d.slipRound.slips.lastSlips = d.slips.lastSlips := by
  have hplace (d : Desk) (p : PrinterId) : (d.placeDeferred p).slips.lastSlips = d.slips.lastSlips :=
    repeat_keeps (fun d => d.slips.lastSlips) _ (fun d => d.placeOneDeferred_lastSlips p) _ d
  simp [slipRound, hplace]

theorem Desk.startPrinter_lastSlips (d : Desk) (p : PrinterId) : (d.startPrinter p).slips.lastSlips = d.slips.lastSlips := rfl

theorem Desk.settleSlips_lastSlips (d : Desk) : d.settleSlips.slips.lastSlips = d.slips.lastSlips := by
  rw [settleSlips, startPrinter_lastSlips, startPrinter_lastSlips]
  exact repeat_keeps (fun d => d.slips.lastSlips) slipRound slipRound_lastSlips 5 d

theorem Desk.handOver_lastSlips (d : Desk) (j : SlipJob) : (d.handOver j).slips.lastSlips = d.slips.lastSlips := by
  unfold handOver
  split
  · simp
  · split
    · rw [settleSlips_lastSlips]
      rfl
    · split
      · simp
      · simp [deferSlip]

theorem Desk.endSession_lastSlips (d : Desk) (st : StationId) (x : Session) (next : Context) :
    (d.endSession st x next).slips.lastSlips = match x.loanSlip st with
      | some j => if (d.stationSettings.get st).slipPrinting then d.slips.lastSlips.set st (some j) else d.slips.lastSlips
      | none => d.slips.lastSlips := by
  cases hslip : x.loanSlip st with
  | none => simp [endSession_plain (.inr hslip)]
  | some j =>
    cases hprints : (d.stationSettings.get st).slipPrinting
    · simp [endSession_plain (.inl hprints)]
    · rw [endSession_slip hprints hslip, handOver_lastSlips]
      simp

theorem Desk.concludeReturn_lastSlips (d : Desk) (st : StationId) (item : Code) (fine : Nat) :
    (d.concludeReturn st item fine).slips.lastSlips = d.slips.lastSlips := by
  have hlist (d : Desk) : (d.listReturn st item).slips = d.slips := by
    unfold listReturn
    split
    · split <;> simp [addEntry]
    · rfl
  rw [concludeReturn, hlist]
  split <;> simp

theorem Desk.returnRouted_lastSlips (d : Desk) (st : StationId) (e : ItemEntry) (hold : Code) (found : Bool)
    (loan : Option ReturnedLoan) : (d.returnRouted st e hold found loan).slips.lastSlips =
      d.slips.lastSlips.set st (some (holdSlip st hold e.code (d.pickupDay hold).1)) := by
  simp only [returnRouted, concludeReturn_lastSlips, handOver_lastSlips]
  simp [keepCopy, resensitise, recordReturn, holdSlip]

/-! ## Composition (R137 to R139, R146) -/

theorem Session.loanSlip_none {x : Session} {st : StationId} (h : x.items.filterMap ListEntry.line = []) : x.loanSlip st = none := by
  simp [loanSlip, h]

theorem Session.loanSlip_some {x : Session} {st : StationId} {lines : List LineRecord} (h : x.items.filterMap ListEntry.line = lines)
    (hlines : lines ≠ []) : x.loanSlip st = some
      { kind := .loan, reprint := false, station := st, borrower := x.borrower,
        lines := [.header, .borrower (Code.shortNumber x.borrower)] ++ lines ++ [.total lines.length, .footer] } := by
  simp only [loanSlip, h]
  exact if_neg (by simpa using hlines)

theorem SlipJob.sendLines_plain {j : SlipJob} (h : j.reprint = false) : j.sendLines = j.lines := by
  simp [sendLines, h]

theorem SlipJob.sendLines_reprint {j : SlipJob} {first : LineRecord} {rest : List LineRecord} (h : j.reprint = true)
    (hlines : j.lines = first :: rest) : j.sendLines = first :: .reprint :: rest := by
  simp [sendLines, h, hlines]

/-! ## Hand-over (R142) -/

theorem Desk.deferredAt_isSome {d : Desk} {st : StationId} :
    (d.deferredAt st).isSome = true ↔ ∃ o ∈ d.slips.deferrals, o.station = st := by
  simp [deferredAt, List.find?_isSome]

section
variable {d : Desk} {j : SlipJob}

theorem Desk.handOver_held (h : ∃ o ∈ d.slips.deferrals, o.station = j.station) : d.handOver j = d.discardSlip j .deferredHeld :=
  if_pos (deferredAt_isSome.2 h)

theorem Desk.handOver_new (h : ¬ ∃ o ∈ d.slips.deferrals, o.station = j.station) : d.handOver j =
    if d.queueRoom (d.assigned j.station) then (d.enqueueJob (d.assigned j.station) j).settleSlips
    else if (d.context j.station).isOpen then d.discardSlip j .queueFull
    else d.deferSlip j := if_neg (mt deferredAt_isSome.1 h)

end

theorem Desk.queueRoom_iff (d : Desk) (p : PrinterId) : d.queueRoom p = true ↔ (d.slips.printers.get p).queue.length < 8 :=
  decide_eq_true_iff

/-! ## The steps in the words of the statement -/

theorem PrinterStatus.failed_iff (x : PrinterStatus) : x.failed = true ↔ x = .paperOut ∨ x = .offline := by
  cases x <;> decide

theorem Desk.deferrals_length_le {d : Desk} (h : (d.slips.deferrals.map SlipJob.station).Nodup) : d.slips.deferrals.length ≤ 4 := by
  have hsubset : d.slips.deferrals.map SlipJob.station ⊆ StationId.list := fun st _ => by cases st <;> decide
  simpa [StationId.list] using (h.subperm hsubset).length_le

/-- A deferred slip is the only one of its station. -/
theorem filter_otherStations {before after : List SlipJob} {j : SlipJob} (h : ((before ++ j :: after).map SlipJob.station).Nodup) :
    (before ++ j :: after).filter (fun x => x.station != j.station) = before ++ after := by
  simp only [List.map_append, List.map_cons, List.nodup_append, List.nodup_cons, List.mem_map, List.mem_cons] at h
  obtain ⟨-, ⟨hafter, -⟩, hbefore⟩ := h
  have hkeepsBefore : before.filter (fun x => x.station != j.station) = before := by
    refine List.filter_eq_self.2 fun k hk => ?_
    simpa using hbefore k.station ⟨k, hk, rfl⟩ j.station (.inl rfl)
  have hkeepsAfter : after.filter (fun x => x.station != j.station) = after := by
    refine List.filter_eq_self.2 fun k hk => ?_
    simpa using fun heq => hafter ⟨k, hk, heq⟩
  simp [hkeepsBefore, hkeepsAfter]

theorem Desk.settleSlips_placed {d : Desk} {p : PrinterId} {before after : List SlipJob} {j : SlipJob}
    (hnodup : (d.slips.deferrals.map SlipJob.station).Nodup) (hdeferrals : d.slips.deferrals = before ++ j :: after)
    (hbefore : ∀ o ∈ before, d.assigned o.station ≠ p) (hj : d.assigned j.station = p)
    (hroom : (d.printer p).queue.length < queueCapacity) (hfirst : p = .p1 → ¬ d.Places .p0) :
    d.settleSlips = (d.placed p j (before ++ after)).settleSlips := by
  have hfind : d.slips.deferrals.find? (fun j => d.assigned j.station == p) = some j := by
    rw [hdeferrals, List.find?_append, List.find?_eq_none.2 fun o ho => by simpa using hbefore o ho]
    simp [hj]
  have hplaces : d.Places p := ⟨⟨j, hdeferrals ▸ by simp, hj⟩, hroom⟩
  have hstep : d.slipStep = d.placeOneDeferred p := by
    cases p with
    | p0 => exact if_pos hplaces
    | p1 => rw [slipStep, if_neg (hfirst rfl), if_pos hplaces]
  have hleft : d.slips.deferrals.filter (fun x => x.station != j.station) = before ++ after := by
    rw [hdeferrals] at hnodup ⊢
    exact filter_otherStations hnodup
  rw [settleSlips_slipStep (deferrals_length_le hnodup), hstep, placeOneDeferred_of_find hfind hroom, hleft]

theorem Desk.settleSlips_moved {d : Desk} {p : PrinterId} {front back : List SlipJob} (hdeferrals : d.slips.deferrals.length ≤ 4)
    (h0 : ¬ d.Places .p0) (h1 : ¬ d.Places .p1) (hmoves : d.Moves p) (hqueue : (d.printer p).queue = front ++ back)
    (hpass : PassesOver (fun j => d.isAutomatic j.station) (queueCapacity - (d.printer p.other).queue.length) front back) :
    d.settleSlips = (d.moved p front back).settleSlips := by
  have hstep : d.slipStep = d.failoverFrom p := by
    rw [slipStep_failover h0 h1]
    cases p with
    | p0 =>
      refine failoverFrom_not ?_
      rintro ⟨-, hother, -⟩
      rw [show PrinterId.p1.other = .p0 from rfl, failoverFrom_failed] at hother
      exact Bool.false_ne_true (hother.symm.trans hmoves.1)
    | p1 => rw [failoverFrom_not (p := .p0) hmoves.not_other]
  rw [settleSlips_slipStep hdeferrals, hstep, hmoves.failoverFrom_eq hqueue hpass]

end Sys2Proof.Machine

namespace Sys2Proof.Proofs
open Sys2Proof.Machine

/-- Settles O37: composition, the copies, the branches of a hand-over, and the single steps of `settleSlips`. -/
theorem slipsComposedAndHandedOver : Obligations.SlipsComposedAndHandedOver := by
  unfold Obligations.SlipsComposedAndHandedOver
  refine ⟨fun x st => ?loan, fun st hold item pickup => rfl, ⟨Desk.handOver_lastSlips, Desk.endSession_lastSlips,
    Desk.returnRouted_lastSlips⟩, fun d j => ?handOver, fun j => ⟨SlipJob.sendLines_plain, fun first rest => SlipJob.sendLines_reprint⟩,
    fun d hnodup => ?settle⟩
  case loan =>
    intro line lines
    have hlines : x.items.filterMap ListEntry.line = lines :=
      congrArg (x.items.filterMap ·) (funext fun e => by cases e <;> rfl)
    exact ⟨fun hnone => Session.loanSlip_none (hlines.trans hnone), fun hsome => Session.loanSlip_some hlines hsome⟩
  case handOver =>
    intro p discarded room held
    refine ⟨fun hheld => Desk.handOver_held hheld, fun hheld hroom => ?_, fun hheld hroom hopen => ?_, fun hheld hroom hopen => ?_⟩
    · exact (Desk.handOver_new hheld).trans (if_pos ((d.queueRoom_iff p).2 hroom))
    · exact (Desk.handOver_new hheld).trans ((if_neg (mt (d.queueRoom_iff p).1 hroom)).trans (if_pos hopen))
    · exact (Desk.handOver_new hheld).trans ((if_neg (mt (d.queueRoom_iff p).1 hroom)).trans (if_neg (by simp [hopen])))
  case settle =>
    intro queue assigned automatic failed places moves starts
    have hmoves (p : PrinterId) : moves p ↔ d.Moves p := by
      have hfailed (p : PrinterId) : failed p ↔ (d.printer p).status.failed = true := (PrinterStatus.failed_iff _).symm
      change failed p ∧ ¬ failed p.other ∧ _ ↔ _
      rw [hfailed, hfailed, Bool.not_eq_true]
      exact Iff.rfl
    refine ⟨fun p before j after hdeferrals hbefore hj hroom hfirst =>
        Desk.settleSlips_placed hnodup hdeferrals hbefore hj hroom hfirst,
      fun p front back h0 h1 hmay hqueue hfits hstops =>
        Desk.settleSlips_moved (Desk.deferrals_length_le hnodup) h0 h1 ((hmoves p).1 hmay) hqueue ⟨hfits, hstops⟩,
      fun h0 h1 hm0 hm1 => ?_⟩
    rw [Desk.Settled.settleSlips_eq ⟨h0, h1, mt (hmoves .p0).2 hm0, mt (hmoves .p1).2 hm1⟩]
    rfl

end Sys2Proof.Proofs
end

section
/-! PROOF. The printers' rows (R145 to R150). -/

namespace Sys2Proof.Machine

theorem next_afterDesk {s : State} {d e : Desk} (h : d = e) :
    (Host.Outcome.next (s.afterDesk d) : Host.Outcome State Fault Refusal) = .next (s.afterDesk e) := h ▸ rfl

theorem Desk.onPrinter_congr {d : Desk} {p : PrinterId} {f g : Printer → Printer} (h : f (d.printer p) = g (d.printer p)) :
    d.onPrinter p f = d.onPrinter p g := by
  unfold printer at h
  simp only [onPrinter, h]

theorem Desk.lineSent_idle {d : Desk} {p : PrinterId} (h : (d.printer p).sending = none) : d.lineSent p = d :=
  onPrinter_self (by simp [h])

theorem Desk.lineSent_busy {d : Desk} {p : PrinterId} (hsending : (d.printer p).sending ≠ none) (hbusy : (d.printer p).status = .busy) :
    d.lineSent p = d.onPrinter p fun x => { x with sending := none, lineTimer := some (d.settings.lineTimeout.get p) } :=
  onPrinter_congr (by simp [Option.isSome_iff_ne_none.2 hsending, hbusy])

theorem Desk.readyAnswer_ready {d : Desk} {p : PrinterId} (h : (d.printer p).status = .ready) : d.readyAnswer p = d := by
  simp only [readyAnswer, h]

theorem Desk.readyAnswer_busy {d : Desk} {p : PrinterId} (h : (d.printer p).status = .busy) :
    d.readyAnswer p = (d.onPrinter p Printer.linePrinted).settleSlips := by
  simp only [readyAnswer, h]

theorem Desk.readyAnswer_failed {d : Desk} {p : PrinterId} (h : (d.printer p).status = .paperOut ∨ (d.printer p).status = .offline) :
    d.readyAnswer p =
      ((d.onPrinter p fun x => { x with status := .ready }).reportCondition (faultAlarm p) false).settleSlips := by
  rcases h with h | h <;> simp only [readyAnswer, h]

section
variable {d : Desk} {p : PrinterId} {j : SlipJob} {rest : List SlipJob} (hbusy : (d.printer p).status = .busy)
  (hqueue : (d.printer p).queue = j :: rest)
include hbusy hqueue

theorem Desk.readyAnswer_next {line : LineRecord} (hline : j.sendLines[(d.printer p).position + 1]? = some line) :
    d.readyAnswer p = (d.onPrinter p fun x =>
      { x with position := x.position + 1, sending := some line, lineTimer := none }).settleSlips := by
  rw [readyAnswer_busy hbusy]
  exact congrArg settleSlips (onPrinter_congr (by simp only [Printer.linePrinted, hqueue, hline]))

theorem Desk.readyAnswer_last (hline : j.sendLines[(d.printer p).position + 1]? = none) :
    d.readyAnswer p = (d.onPrinter p fun x =>
      { x with status := .ready, queue := rest, position := 0, sending := none, lineTimer := none }).settleSlips := by
  rw [readyAnswer_busy hbusy]
  exact congrArg settleSlips (onPrinter_congr (by simp only [Printer.linePrinted, hqueue, hline]))

end

theorem Printer.interrupt_idle {x : Printer} (h : x.status ≠ .busy) : x.interrupt = x := by
  unfold interrupt
  split
  · next hbusy => exact absurd hbusy h
  · rfl

theorem Printer.interrupt_busy {x : Printer} {j : SlipJob} {rest : List SlipJob} (h : x.status = .busy) (hqueue : x.queue = j :: rest) :
    x.interrupt = { x with
      queue := { j with reprint := j.reprint || decide (0 < x.position) } :: rest
      position := 0, sending := none, lineTimer := none } := by
  simp only [interrupt, h, hqueue]

theorem Desk.printerCharacter_fault (d : Desk) (p : PrinterId) {c : Option Byte} (h : c ≠ some 0x52 ∧ c ≠ some 0x50) :
    d.printerCharacter p c = d.printerFails p .offline :=
  (if_neg h.1).trans (if_neg h.2)

theorem Desk.lineExpiry_running {d : Desk} {p : PrinterId} (hbusy : (d.printer p).status = .busy) (ht : (d.printer p).lineTimer ≠ none) :
    d.lineExpiry p = d.printerFails p .offline :=
  if_pos (by simp [hbusy, Option.isSome_iff_ne_none.2 ht])

theorem Desk.lineExpiry_stopped {d : Desk} {p : PrinterId} (h : (d.printer p).status ≠ .busy ∨ (d.printer p).lineTimer = none) :
    d.lineExpiry p = d :=
  if_neg (by rcases h with h | h <;> simp [h])

end Sys2Proof.Machine

namespace Sys2Proof.Proofs
open Sys2Proof.Machine

/-- Settles O38: each row by the printer's status and, at a READY answer to a BUSY printer, by the line that is next. -/
theorem printerRows : Obligations.PrinterRows := by
  unfold Obligations.PrinterRows
  intro s p c hp d x alarm fails faulty
  have halarm : faultAlarm p = alarm := by cases p <;> rfl
  have hfails (status : PrinterStatus) : d.printerFails p status = fails status :=
    congrArg (fun a => ((d.onPrinter p fun x => { x.interrupt with status := status }).reportCondition a true).settleSlips) halarm
  rw [exec_on (c := .printerLineSent p) rfl hp, exec_on (c := .printerReadyAnswer p) rfl hp,
    exec_on (c := .printerPaperOutAnswer p) rfl hp, exec_on (c := .printerFaultAnswer p c) rfl hp, exec_on (c := .lineTimeout p) rfl hp]
  refine ⟨fun h => next_afterDesk (Desk.lineSent_idle h), fun hsending hbusy => next_afterDesk (Desk.lineSent_busy hsending hbusy),
    fun h => next_afterDesk (Desk.readyAnswer_ready h), fun h => ?_, fun j rest hbusy hqueue => ⟨fun line hline => ?_, fun hline => ?_⟩,
    next_afterDesk (hfails .paperOut), fun h => ?_, fun hbusy ht => ?_, fun h => next_afterDesk (Desk.lineExpiry_stopped h), Printer.interrupt_idle,
    fun j rest hbusy hqueue => Printer.interrupt_busy hbusy hqueue⟩
  · rw [Desk.readyAnswer_failed h, halarm]
  · exact next_afterDesk (Desk.readyAnswer_next hbusy hqueue hline)
  · exact next_afterDesk (Desk.readyAnswer_last hbusy hqueue hline)
  · rw [Desk.printerCharacter_fault _ p h]
    exact next_afterDesk (hfails .offline)
  · rw [Desk.lineExpiry_running hbusy ht]
    exact next_afterDesk (hfails .offline)

end Sys2Proof.Proofs
end

section
/-! PROOF. Outages and restarts (R196). -/

namespace Sys2Proof.Machine

theorem Desk.loseVolatile_power (d : Desk) (power : Power) : { d.loseVolatile with power := power } = d.retained power := rfl

theorem State.powerFail_on {s : State} (h : s.desk.power.on = true) :
    s.powerFail = { s with desk := s.desk.retained ⟨false, false⟩, line := .fresh s.line.rate } :=
  if_pos h

theorem State.batteryFall_on {s : State} (h : s.desk.power.on = true) : s.batteryFall = s := if_pos h

theorem State.batteryFall_off {s : State} (h : s.desk.power.on = false) :
    s.batteryFall = { s with desk := { s.desk with power := ⟨false, true⟩ } } :=
  if_neg (Bool.eq_false_iff.1 h)

theorem State.warmStart_tripped {s : State} (h : s.desk.power.batteryFell = true) (x : Straps) : s.warmStart x = s.coldStart x :=
  if_pos h

theorem Desk.warmStart_eq (d : Desk) : d.warmStart =
    (((((d.retained ⟨true, false⟩).raiseAlarm .powerRestored).evaluateJournal.append none .none (.restart .warm)).applyPendingMark).reportSync) := by
  rw [warmStart, loseVolatile_power, appendPlain]

theorem State.warmStart_untripped {s : State} (h : s.desk.power.batteryFell = false) (x : Straps) :
    s.warmStart x = { s with desk := s.desk.warmStart, line := .fresh (LinkRate.ofStraps x) } :=
  if_neg (Bool.eq_false_iff.1 h)

end Sys2Proof.Machine

namespace Sys2Proof.Proofs
open Sys2Proof.Machine

/-- Settles O39: the desk that is left by an outage, the two starts, and the eight straps. -/
theorem outagesAndRestarts : Obligations.OutagesAndRestarts := by
  unfold Obligations.OutagesAndRestarts
  have hfail (s : State) : exec .mainPowerFail s = .next s.powerFail := rfl
  have hfall (s : State) : exec .batteryGoodFall s = .next s.batteryFall := rfl
  refine ⟨fun s => ⟨fun h => ?_, fun h => ?_, fun h => ?_⟩, fun s x => ⟨rfl, fun h => ?_, fun h => ?_⟩,
    rfl, rfl, rfl, rfl, rfl, rfl, rfl, rfl⟩
  · rw [hfail, State.powerFail_on h]
  · rw [hfall, State.batteryFall_on h]
  · rw [hfall, State.batteryFall_off h]
  all_goals have hwarm : exec (.warmStart x) s = .next (s.warmStart x) := rfl
  · rw [hwarm, State.warmStart_tripped h]
    rfl
  · rw [hwarm, State.warmStart_untripped h, Desk.warmStart_eq]

end Sys2Proof.Proofs
end

section
/-! PROOF. CONFIG_WRITE of the settings with a numeric range (R187). -/

namespace Sys2Proof.Machine

/-- A dispatched request that its owner decides in the way stated. -/
theorem exec_answered {c : Instr} {tag : Byte} {decide : Desk → Decision} {s : State} {x : Decision}
    (hc : exec c s = .next (s.powered fun s => s.deskRequest tag decide)) (hs : s.Dispatches) (hx : decide s.desk.frameArrives = x) :
    exec c s = .next (s.afterReply tag x) := hx ▸ exec_dispatched hc hs

/-! ## The shapes of a setting -/

theorem Desk.writeRange_eq {d : Desk} {low high : Nat} {v : Word} {store : Desk → Nat → Desk} (h : low ≤ high) :
    d.writeRange low high v store = clampedDecision low high v (store d) := by
  by_cases hlow : v.toNat < low
  · have hstored : max low (min v.toNat high) = low := by omega
    simp only [writeRange, clampedDecision, hstored, if_pos hlow, if_neg (Nat.ne_of_gt hlow)]
  by_cases hhigh : high < v.toNat
  · have hstored : max low (min v.toNat high) = high := by omega
    simp only [writeRange, clampedDecision, hstored, if_neg hlow, if_pos hhigh, if_neg (Nat.ne_of_lt hhigh)]
  · have hstored : max low (min v.toNat high) = v.toNat := by omega
    simp only [writeRange, clampedDecision, hstored, if_neg hlow, if_neg hhigh, if_true, answer]

theorem Desk.atStation_some {d : Desk} {index : Byte} {f : StationId → Decision} {st : StationId}
    (h : StationId.ofNumber index.toNat = some st) : d.atStation index f = f st := by
  simp only [atStation, h]

theorem Desk.atStation_none {d : Desk} {index : Byte} {f : StationId → Decision} (h : StationId.ofNumber index.toNat = none) :
    d.atStation index f = d.answer .badArg := by
  simp only [atStation, h]

theorem StationId.ofNumber_eq_none {n : Nat} (h : 4 ≤ n) : StationId.ofNumber n = none := by
  unfold StationId.ofNumber
  split <;> first | omega | rfl

theorem PrinterId.ofNumber_eq_none {n : Nat} (h : 2 ≤ n) : PrinterId.ofNumber n = none := by
  unfold PrinterId.ofNumber
  split <;> first | omega | rfl

theorem Desk.writeLineTimeout_some {d : Desk} {index : Byte} {p : PrinterId} (h : PrinterId.ofNumber index.toNat = some p) (v : Word) :
    d.writeLineTimeout index v = clampedDecision 1 10 v fun n =>
      d.withSettings fun x => { x with lineTimeout := x.lineTimeout.set p n } := by
  simp only [writeLineTimeout, h]
  exact writeRange_eq (by decide)

theorem Desk.writeLineTimeout_none {d : Desk} {index : Byte} (h : PrinterId.ofNumber index.toNat = none) (v : Word) :
    d.writeLineTimeout index v = d.answer .badArg := by
  simp only [writeLineTimeout, h]

theorem Desk.writeUploadMinute_off (d : Desk) :
    d.writeUploadMinute 0xffffffff = (d.withSettings fun x => { x with uploadMinute := none }).answer .ok := if_pos rfl

theorem Desk.writeUploadMinute_number (d : Desk) {v : Word} (h : v ≠ 0xffffffff) : d.writeUploadMinute v =
    clampedDecision 0 1439 v fun n => d.withSettings fun x => { x with uploadMinute := some n } :=
  (if_neg h).trans (writeRange_eq (by decide))

end Sys2Proof.Machine

namespace Sys2Proof.Proofs
open Sys2Proof.Machine

/-- Settles O40: every one of the settings is a `writeRange`, at its station or printer where it has one. -/
theorem numericSettingsAreClamped : Obligations.NumericSettingsAreClamped := by
  unfold Obligations.NumericSettingsAreClamped
  intro s tag index v hs d answers desk unpaired
  have range {low high : Nat} {store : Desk → Nat → Desk} (h : low ≤ high) : d.writeRange low high v store =
      clampedDecision low high v (store d) := Desk.writeRange_eq h
  refine ⟨exec_answered (decide := fun d => d.writeStepLimit v) rfl hs (range (by decide)),
    exec_answered (decide := fun d => d.writeMarkAgeLimit v) rfl hs (range (by decide)),
    exec_answered (decide := fun d => d.writeLookupTimeout v) rfl hs (range (by decide)),
    exec_answered (decide := fun d => d.writeClosingGrace v) rfl hs (range (by decide)),
    exec_answered (decide := fun d => d.writeMinimumRemaining v) rfl hs (range (by decide)),
    exec_answered (decide := fun d => d.writeDisplayTime v) rfl hs (range (by decide)),
    exec_answered (decide := fun d => d.writeReturnReserve v) rfl hs (range (by decide)),
    exec_answered (decide := fun d => d.writeHighWater v) rfl hs (range (by decide)),
    exec_answered (decide := fun d => d.writeTakenTimeout v) rfl hs (range (by decide)),
    exec_answered (decide := fun d => d.writeLinkTimeout v) rfl hs (range (by decide)), fun hv => ?number, fun hv => ?off,
    fun p hp => ?printer, fun hindex => ?noPrinter, fun st hst => ?station, fun hindex => ?noStation⟩
  case number => exact exec_answered (decide := fun d => d.writeUploadMinute v) rfl hs (d.writeUploadMinute_number hv)
  case off =>
    subst hv
    exact exec_answered (decide := fun d => d.writeUploadMinute 0xffffffff) rfl hs d.writeUploadMinute_off
  case printer => exact exec_answered (decide := fun d => d.writeLineTimeout index v) rfl hs (Desk.writeLineTimeout_some hp v)
  case noPrinter =>
    exact exec_answered (decide := fun d => d.writeLineTimeout index v) rfl hs
      (Desk.writeLineTimeout_none (PrinterId.ofNumber_eq_none hindex) v)
  case station =>
    exact ⟨exec_answered (decide := fun d => d.writeReadsRequired index v) rfl hs ((Desk.atStation_some hst).trans (range (by decide))),
      exec_answered (decide := fun d => d.writePairingWindow index v) rfl hs ((Desk.atStation_some hst).trans (range (by decide))),
      exec_answered (decide := fun d => d.writeSuppressionWindow index v) rfl hs ((Desk.atStation_some hst).trans (range (by decide))),
      exec_answered (decide := fun d => d.writeIdleTimeout index v) rfl hs ((Desk.atStation_some hst).trans (range (by decide))),
      exec_answered (decide := fun d => d.writePadPulse index v) rfl hs ((Desk.atStation_some hst).trans (range (by decide)))⟩
  case noStation =>
    have hnone := StationId.ofNumber_eq_none hindex
    simp only [List.forall_mem_cons]
    exact ⟨exec_answered (decide := fun d => d.writeReadsRequired index v) rfl hs (Desk.atStation_none hnone),
      exec_answered (decide := fun d => d.writePairingWindow index v) rfl hs (Desk.atStation_none hnone),
      exec_answered (decide := fun d => d.writeSuppressionWindow index v) rfl hs (Desk.atStation_none hnone),
      exec_answered (decide := fun d => d.writeIdleTimeout index v) rfl hs (Desk.atStation_none hnone),
      exec_answered (decide := fun d => d.writePadPulse index v) rfl hs (Desk.atStation_none hnone), nofun⟩

end Sys2Proof.Proofs
end

section
/-! PROOF. CONFIG_WRITE of the settings whose values are named (R187), and CONFIG_READ. -/

namespace Sys2Proof.Machine

/-! ## Values and their names -/

section
variable {d : Desk} {α : Type} {value : Option α} {store : Desk → α → Desk}

theorem Desk.writeNamed_some {a : α} (h : value = some a) : d.writeNamed value store = (store d a).answer .ok := by
  rw [h]
  rfl

theorem Desk.writeNamed_none (h : value = none) : d.writeNamed value store = d.answer .badArg := by
  rw [h]
  rfl

end

theorem offOn_some {v : Word} (h : v.toNat ≤ 1) : offOn v = some (v.toNat == 1) := by
  have hv : v = 0 ∨ v = 1 := by bv_omega
  rcases hv with rfl | rfl <;> rfl

theorem offOn_none {v : Word} (h : 1 < v.toNat) : offOn v = none := by
  have hzero : v ≠ 0 := by bv_omega
  have hone : v ≠ 1 := by bv_omega
  exact (if_neg hzero).trans (if_neg hone)

theorem TimeSource.ofWord_none {v : Word} (h1 : v ≠ 1) (h2 : v ≠ 2) : TimeSource.ofWord v = none :=
  (if_neg h1).trans (if_neg h2)

theorem Failover.ofWord_none {v : Word} (h1 : v ≠ 1) (h2 : v ≠ 2) : Failover.ofWord v = none :=
  (if_neg h1).trans (if_neg h2)

theorem masksOf_some {v : Word} (h : v.toNat < 16) :
    masksOf v = some ⟨v.toNat % 2 == 1, v.toNat / 2 % 2 == 1, v.toNat / 4 % 2 == 1, v.toNat / 8 % 2 == 1⟩ := by
  simp [masksOf, h, LevelMasks.ofBits, testBit]

theorem masksOf_none {v : Word} (h : 16 ≤ v.toNat) : masksOf v = none := if_neg (Nat.not_lt.2 h)

/-! ## The precedence list (R123) -/

theorem Level.ofNumber_eq_some {n : Nat} {l : Level} : Level.ofNumber n = some l ↔ n = l.number := by
  unfold Level.ofNumber
  split
  case h_5 => cases l <;> simp [Level.number] <;> omega
  all_goals cases l <;> simp [Level.number]

/-- The bytes of a list of levels. -/
def levelBytes (ls : List Level) : List Byte := ls.map fun l => BitVec.ofNat 8 l.number

theorem Level.toNat_byte (l : Level) : (BitVec.ofNat 8 l.number).toNat = l.number := by
  cases l <;> rfl

theorem numberOf_levelBytes (ls : List Level) : numberOf (levelBytes ls) = precedenceNumber ls := by
  simp only [numberOf, levelBytes, List.foldl_map, Level.toNat_byte, precedenceNumber]

theorem levels_ofBytes_iff {bs : List Byte} {ls : List Level} :
    bs.mapM (fun b => Level.ofNumber b.toNat) = some ls ↔ bs = levelBytes ls := by
  rw [mapM_eq_some_iff_forall₂, levelBytes, ← List.forall₂_eq_eq_eq, List.forall₂_map_right_iff]
  refine ⟨List.Forall₂.imp fun b l h => ?_, List.Forall₂.imp fun b l h => ?_⟩
  · exact BitVec.eq_of_toNat_eq ((Level.ofNumber_eq_some.1 h).trans l.toNat_byte.symm)
  · exact Level.ofNumber_eq_some.2 (h ▸ l.toNat_byte)

/-- The word that spells a list of levels. -/
theorem precedenceOf_eq_some {v : Word} {ls : List Level} :
    precedenceOf v = some ls ↔ IsPrecedence ls ∧ v = BitVec.ofNat 32 (precedenceNumber ls) := by
  refine ⟨fun h => ⟨isPrecedence_of_precedenceOf h, ?_⟩, fun ⟨hls, hv⟩ => ?_⟩
  · obtain ⟨hmap, -⟩ := Option.filter_eq_some_iff.1 h
    have hbytes : numberOf (bytesOf 4 v.toNat) = precedenceNumber ls := by
      rw [levels_ofBytes_iff.1 hmap, numberOf_levelBytes]
    rw [← hbytes, numberOf_bytesOf]
    have hlt := v.isLt
    exact BitVec.eq_of_toNat_eq (by rw [BitVec.toNat_ofNat]; omega)
  · have hlength : (levelBytes ls).length = 4 := by simp [levelBytes, hls.length_eq]
    have hlt := numberOf_lt (levelBytes ls)
    rw [numberOf_levelBytes, hlength] at hlt
    have hnumber : v.toNat = numberOf (levelBytes ls) := by
      rw [hv, numberOf_levelBytes, BitVec.toNat_ofNat]
      exact Nat.mod_eq_of_lt hlt
    have hbytes : bytesOf 4 v.toNat = levelBytes ls := by
      rw [hnumber, ← hlength]
      exact bytesOf_numberOf _
    rw [precedenceOf, Option.filter_eq_some_iff]
    exact ⟨levels_ofBytes_iff.2 hbytes, decide_eq_true hls.nodup⟩

/-! ## The settings -/

theorem Desk.setTimeSource_same {d : Desk} {x : TimeSource} (h : d.settings.timeSource = x) : d.setTimeSource x = d := if_pos h

theorem Desk.setTimeSource_marks {d : Desk} (h : d.settings.timeSource = .localTime) :
    d.setTimeSource .marks = (d.withSettings fun x => { x with timeSource := .marks }).reportSync :=
  if_neg (by rw [h]; decide)

theorem Desk.setTimeSource_local {d : Desk} (h : d.settings.timeSource = .marks) : d.setTimeSource .localTime =
    ({ d.withSettings fun x => { x with timeSource := .localTime } with clock := { d.clock with pendingMark := none } }).reportSync :=
  if_neg (by rw [h]; decide)

theorem Desk.writeNoticeRouting_some {d : Desk} {index : Byte} {k : NoticeKind} (h : NoticeKind.ofNumber index.toNat = some k) (v : Word) :
    d.writeNoticeRouting index v = d.writeNamed (offOn v) fun d on => d.setRouting k on := by
  simp only [writeNoticeRouting, h]

theorem Desk.writeNoticeRouting_none {d : Desk} {index : Byte} (h : NoticeKind.ofNumber index.toNat = none) (v : Word) :
    d.writeNoticeRouting index v = d.answer .badArg := by
  simp only [writeNoticeRouting, h]

theorem Desk.setEnabled_same {d : Desk} {st : StationId} {on : Bool} (h : (d.stationSettings.get st).enabled = on) :
    d.setEnabled st on = d := if_pos h

theorem Desk.setEnabled_on {d : Desk} {st : StationId} (h : (d.stationSettings.get st).enabled = false)
    (hctx : d.context st = .disabled) :
    d.setEnabled st true = (d.onStationSettings st fun x => { x with enabled := true }).setContext st .idle := by
  have hdisabled : ((d.onStationSettings st fun x => { x with enabled := true }).context st).isDisabled = true := by
    rw [show (d.onStationSettings st fun x => { x with enabled := true }).context st = d.context st from rfl, hctx]
    rfl
  simp only [setEnabled, h, Bool.false_eq_true, if_false, if_true, hdisabled]

theorem Desk.setEnabled_off {d : Desk} {st : StationId} (h : (d.stationSettings.get st).enabled = true) :
    d.setEnabled st false = (d.onStationSettings st fun x => { x with enabled := false }).disableStation st := by
  simp only [setEnabled, h, Bool.true_eq_false, if_false, Bool.false_eq_true]

theorem Desk.assignPrinter_posts {d : Desk} {st : StationId} {p : PrinterId} (hp : d.assigned st ≠ p)
    (h : ((d.onStationSettings st fun x => { x with printer := p }).settleSlips).deferredAt st ≠ none) :
    d.assignPrinter st p = ((d.onStationSettings st fun x => { x with printer := p }).settleSlips).post st (.slipWaiting p) :=
  if_pos (by simp [hp, Option.isSome_iff_ne_none.2 h])

theorem Desk.assignPrinter_quiet {d : Desk} {st : StationId} {p : PrinterId}
    (h : d.assigned st = p ∨ ((d.onStationSettings st fun x => { x with printer := p }).settleSlips).deferredAt st = none) :
    d.assignPrinter st p = (d.onStationSettings st fun x => { x with printer := p }).settleSlips :=
  if_neg (by rcases h with h | h <;> simp [h])

end Sys2Proof.Machine

namespace Sys2Proof.Proofs
open Sys2Proof.Machine

/-- Settles O41: each setting's named values, and the write of each. -/
theorem namedSettingsAreChecked : Obligations.NamedSettingsAreChecked := by
  unfold Obligations.NamedSettingsAreChecked
  intro s tag index v hs d answers refuses ok source
  have hsource {x : Decision} (h : d.writeTimeSource v = x) : answers source x :=
    exec_answered (decide := fun d => d.writeTimeSource v) rfl hs h
  have hreturns {x : Decision} (h : d.writeReturnsWhenClosed v = x) : answers (.configWriteReturnsWhenClosed tag v) x :=
    exec_answered (decide := fun d => d.writeReturnsWhenClosed v) rfl hs h
  have hlist {x : Decision} (h : d.writePrecedenceList v = x) : answers (.configWritePrecedenceList tag v) x :=
    exec_answered (decide := fun d => d.writePrecedenceList v) rfl hs h
  have hrouting {x : Decision} (h : d.writeNoticeRouting index v = x) : answers (.configWriteNoticeRouting tag index v) x :=
    exec_answered (decide := fun d => d.writeNoticeRouting index v) rfl hs h
  have henabled {x : Decision} (h : d.writeStationEnabled index v = x) : answers (.configWriteStationEnabled tag index v) x :=
    exec_answered (decide := fun d => d.writeStationEnabled index v) rfl hs h
  have hprinting {x : Decision} (h : d.writeSlipPrinting index v = x) : answers (.configWriteSlipPrinting tag index v) x :=
    exec_answered (decide := fun d => d.writeSlipPrinting index v) rfl hs h
  have hmasks {x : Decision} (h : d.writeLevelMasks index v = x) : answers (.configWriteLevelMasks tag index v) x :=
    exec_answered (decide := fun d => d.writeLevelMasks index v) rfl hs h
  have hassignment {x : Decision} (h : d.writePrinterAssignment index v = x) : answers (.configWritePrinterAssignment tag index v) x :=
    exec_answered (decide := fun d => d.writePrinterAssignment index v) rfl hs h
  have hfailover {x : Decision} (h : d.writeFailover index v = x) : answers (.configWriteFailover tag index v) x :=
    exec_answered (decide := fun d => d.writeFailover index v) rfl hs h
  refine ⟨fun h1 h2 => hsource (Desk.writeNamed_none (TimeSource.ofWord_none h1 h2)), fun hv hsame => ?marksStay,
    fun hv hsame => ?localStays, fun hv hother => ?marksSet, fun hv hother => ?localSet,
    fun h => hreturns (Desk.writeNamed_none (offOn_none h)), fun h => ?returns,
    fun levels hperm hv => ?levels, fun hnone => ?noList,
    fun k hk => ⟨fun h => ?noRouting, fun hv => ?routed, fun hv => ?unrouted⟩, fun hk => ?unknownKind,
    fun hindex => ?noStation, fun st hst => ?station⟩
  case marksStay =>
    subst hv
    exact hsource ((Desk.writeNamed_some rfl).trans (congrArg (·.answer .ok) (Desk.setTimeSource_same hsame)))
  case localStays =>
    subst hv
    exact hsource ((Desk.writeNamed_some rfl).trans (congrArg (·.answer .ok) (Desk.setTimeSource_same hsame)))
  case marksSet =>
    subst hv
    exact hsource ((Desk.writeNamed_some rfl).trans (congrArg (·.answer .ok) (Desk.setTimeSource_marks hother)))
  case localSet =>
    subst hv
    exact hsource ((Desk.writeNamed_some rfl).trans (congrArg (·.answer .ok) (Desk.setTimeSource_local hother)))
  case returns => exact hreturns (Desk.writeNamed_some (offOn_some h))
  case levels =>
    have hset : d.setPrecedence levels = StationId.list.foldl Desk.reselect (d.withSettings fun x => { x with precedence := levels }) :=
      rfl
    exact hlist ((Desk.writeNamed_some (precedenceOf_eq_some.2 ⟨hperm, hv⟩)).trans (congrArg (·.answer .ok) hset))
  case noList =>
    refine hlist (Desk.writeNamed_none (Option.eq_none_iff_forall_ne_some.2 fun ls hls => ?_))
    obtain ⟨hperm, hv⟩ := precedenceOf_eq_some.1 hls
    exact hnone ls hperm hv
  case noRouting => exact hrouting ((Desk.writeNoticeRouting_some hk v).trans (Desk.writeNamed_none (offOn_none h)))
  case unknownKind => exact hrouting (Desk.writeNoticeRouting_none hk v)
  case routed =>
    subst hv
    exact hrouting ((Desk.writeNoticeRouting_some hk 1).trans (Desk.writeNamed_some rfl))
  case unrouted =>
    subst hv
    exact hrouting ((Desk.writeNoticeRouting_some hk 0).trans (Desk.writeNamed_some rfl))
  case noStation =>
    have hnone := StationId.ofNumber_eq_none hindex
    simp only [List.forall_mem_cons]
    exact ⟨henabled (Desk.atStation_none hnone), hprinting (Desk.atStation_none hnone), hmasks (Desk.atStation_none hnone),
      hassignment (Desk.atStation_none hnone), hfailover (Desk.atStation_none hnone), nofun⟩
  case station =>
    intro set
    have hat {f : StationId → Decision} : d.atStation index f = f st := Desk.atStation_some hst
    refine ⟨fun h => ⟨henabled (hat.trans (Desk.writeNamed_none (offOn_none h))),
        hprinting (hat.trans (Desk.writeNamed_none (offOn_none h))),
        hassignment (hat.trans (Desk.writeNamed_none (PrinterId.ofNumber_eq_none h)))⟩,
      fun h => ⟨hprinting (hat.trans (Desk.writeNamed_some (offOn_some h))), fun hsame => ?same⟩, fun hv hoff hctx => ?on,
      fun hv hon => ?off, fun h => hmasks (hat.trans (Desk.writeNamed_some (masksOf_some h))),
      fun h => hmasks (hat.trans (Desk.writeNamed_none (masksOf_none h))), fun p hp => ?assigned,
      fun hv => ?automatic, fun hv => ?manual, fun h1 h2 => hfailover (hat.trans (Desk.writeNamed_none (Failover.ofWord_none h1 h2)))⟩
    case same =>
      exact henabled (hat.trans ((Desk.writeNamed_some (offOn_some h)).trans (congrArg (·.answer .ok) (Desk.setEnabled_same hsame))))
    case on =>
      subst hv
      exact henabled (hat.trans ((Desk.writeNamed_some rfl).trans (congrArg (·.answer .ok) (Desk.setEnabled_on hoff hctx))))
    case off =>
      subst hv
      intro off left
      have hleft : d.setEnabled st false = (left.onScan st ScanStation.disable).testClosing := Desk.setEnabled_off hon
      exact henabled (hat.trans ((Desk.writeNamed_some rfl).trans (congrArg (·.answer .ok) hleft)))
    case assigned =>
      intro moved
      exact ⟨fun hother hslip => hassignment (hat.trans ((Desk.writeNamed_some hp).trans
          (congrArg (·.answer .ok) (Desk.assignPrinter_posts hother hslip)))),
        fun hquiet => hassignment (hat.trans ((Desk.writeNamed_some hp).trans
          (congrArg (·.answer .ok) (Desk.assignPrinter_quiet hquiet))))⟩
    case automatic =>
      subst hv
      exact hfailover (hat.trans (Desk.writeNamed_some rfl))
    case manual =>
      subst hv
      exact hfailover (hat.trans (Desk.writeNamed_some rfl))

end Sys2Proof.Proofs
end

section
/-! PROOF. CONFIG_READ (R187). -/

namespace Sys2Proof.Machine

theorem Desk.readSetting_some {d : Desk} {setting index : Byte} {n : Nat} (h : d.settingValue setting.toNat index.toNat = some n) :
    d.readSetting setting index = ⟨d, .ok, bytesOf 4 n⟩ := by
  simp only [readSetting, h, answerData]

theorem Desk.readSetting_none {d : Desk} {setting index : Byte} (h : d.settingValue setting.toNat index.toNat = none) :
    d.readSetting setting index = d.answer .badArg := by
  simp only [readSetting, h]

theorem TimeSource.number_eq (x : TimeSource) : x.number = if x = .marks then 1 else 2 := by
  cases x <;> rfl

theorem Failover.number_eq (x : Failover) : x.number = if x = .automatic then 1 else 2 := by
  cases x <;> rfl

theorem PrinterId.number_eq (p : PrinterId) : p.number = if p = .p0 then 0 else 1 := by
  cases p <;> rfl

theorem bit_eq_mul (b : Bool) (n : Nat) : bit b n = 2 ^ n * boolNumber b := by
  cases b <;> simp [bit, boolNumber]

theorem LevelMasks.bits_eq_sum (m : LevelMasks) :
    m.bits = boolNumber m.urgent + 2 * boolNumber m.refusal + 4 * boolNumber m.action + 8 * boolNumber m.info := by
  simp [bits, bit_eq_mul]

theorem Settings.value_unknown (x : Settings) {n : Nat} (h : n = 0 ∨ 26 < n) : x.value n = none := by
  unfold value
  split <;> first | omega | rfl

theorem StationSettings.value_unknown (x : StationSettings) {n : Nat} (h : n = 0 ∨ 26 < n) : x.value n = none := by
  unfold value
  split <;> first | omega | rfl

/-- A number of no per-printer and no per-notice setting. -/
theorem Desk.settingValue_of_ne (d : Desk) {n : Nat} (index : Nat) (h20 : n ≠ 20) (h26 : n ≠ 26) :
    d.settingValue n index = (d.settings.value n).or ((StationId.ofNumber index).bind fun st => (d.stationSettings.get st).value n) := by
  unfold settingValue
  split
  · exact absurd rfl h20
  · exact absurd rfl h26
  · cases d.settings.value n <;> rfl

theorem Desk.settingValue_unknown (d : Desk) {n : Nat} (index : Nat) (h : n = 0 ∨ 26 < n) : d.settingValue n index = none := by
  rw [d.settingValue_of_ne index (by omega) (by omega), d.settings.value_unknown h]
  cases StationId.ofNumber index with
  | none => rfl
  | some st => exact (d.stationSettings.get st).value_unknown h

/-- A per-station setting. -/
theorem Desk.settingValue_station (d : Desk) {n : Nat} (index : Nat) (h : n ∈ [1, 2, 3, 8, 9, 10, 11, 16, 18, 19]) :
    d.settingValue n index = (StationId.ofNumber index).bind fun st => (d.stationSettings.get st).value n := by
  simp only [List.mem_cons, List.not_mem_nil, or_false] at h
  rcases h with rfl | rfl | rfl | rfl | rfl | rfl | rfl | rfl | rfl | rfl <;> rfl

end Sys2Proof.Machine

namespace Sys2Proof.Proofs
open Sys2Proof.Machine

/-- Settles O42: the stored value by the setting's number, and the numbers and indices that name nothing. -/
theorem settingsAreRead : Obligations.SettingsAreRead := by
  unfold Obligations.SettingsAreRead
  intro s tag index hs d x returns refuses bool
  have hread {setting : Byte} {n : Nat} (h : d.settingValue setting.toNat index.toNat = some n) : returns setting n :=
    exec_answered (decide := fun d => d.readSetting setting index) rfl hs (Desk.readSetting_some h)
  have hrefuse {setting : Byte} (h : d.settingValue setting.toNat index.toNat = none) : refuses setting :=
    exec_answered (decide := fun d => d.readSetting setting index) rfl hs (Desk.readSetting_none h)
  have hminute : x.uploadMinute.getD 0xffffffff = match x.uploadMinute with | some m => m | none => 0xffffffff := by
    cases x.uploadMinute <;> rfl
  refine ⟨hread (congrArg some x.timeSource.number_eq), hread rfl, hread rfl, hread rfl, hread rfl, hread rfl, hread rfl, hread rfl,
    hread rfl, hread rfl, hread rfl, hread (congrArg some hminute), hread rfl, hread rfl, fun p hp => hread ?printer,
    fun k hk => hread ?routing, fun st hst => ?station, fun setting h => hrefuse ?unknown,
    fun hnone => hrefuse ?noPrinter, fun hnone => hrefuse ?noKind, fun hnone setting hsetting => hrefuse ?noStation⟩
  case printer => exact congrArg (Option.map d.settings.lineTimeout.get) hp
  case routing => exact congrArg (Option.map fun k => boolNumber (d.settings.routing.get k)) hk
  case unknown => exact d.settingValue_unknown _ (h.imp_left fun hzero => by rw [hzero]; rfl)
  case noPrinter => exact congrArg (Option.map d.settings.lineTimeout.get) hnone
  case noKind => exact congrArg (Option.map fun k => boolNumber (d.settings.routing.get k)) hnone
  case noStation =>
    have hmem : setting.toNat ∈ [1, 2, 3, 8, 9, 10, 11, 16, 18, 19] := List.mem_map_of_mem (f := BitVec.toNat) hsetting
    rw [d.settingValue_station _ hmem, hnone]
    rfl
  case station =>
    intro y
    have hstation {setting : Byte} {n : Nat} (hmem : setting.toNat ∈ [1, 2, 3, 8, 9, 10, 11, 16, 18, 19])
        (h : y.value setting.toNat = some n) : returns setting n :=
      hread ((d.settingValue_station _ hmem).trans (by rw [hst]; exact h))
    exact ⟨hstation (by decide) rfl, hstation (by decide) rfl, hstation (by decide) rfl, hstation (by decide) rfl,
      hstation (by decide) rfl, hstation (by decide) rfl, hstation (by decide) rfl,
      hstation (by decide) (congrArg some y.masks.bits_eq_sum), hstation (by decide) (congrArg some (PrinterId.number_eq y.printer)),
      hstation (by decide) (congrArg some y.failover.number_eq)⟩

end Sys2Proof.Proofs
end

section
/-! PROOF. TABLE_READ of the eight tables (R11, R32, R33, R43, R55, R65, R67, R69). -/

namespace Sys2Proof.Machine

section
variable (d : Desk)

theorem Desk.readPrefix_legal {slot : Byte} (h : slot.toNat ≤ 31) :
    d.readPrefix slot = d.answerRead ((Table.find PrefixEntry.key slot.toNat d.tables.prefixes).map fun e => e.wire.bytes) :=
  if_neg (Nat.not_lt.2 h)

theorem Desk.nextPrefix_legal {slot : Byte} (h : slot.toNat ≤ 31) :
    d.nextPrefix slot = d.answerRead ((Table.next PrefixEntry.key slot.toNat d.tables.prefixes).map fun e => e.wire.bytes) :=
  if_neg (Nat.not_lt.2 h)

theorem Desk.readPrefix_bad {slot : Byte} (h : 31 < slot.toNat) : d.readPrefix slot = d.answer .badArg := if_pos h

theorem Desk.nextPrefix_bad {slot : Byte} (h : 31 < slot.toNat) : d.nextPrefix slot = d.answer .badArg := if_pos h

/-! ## Tables whose every place has a value -/

/-- The value that follows the last place is none. -/
theorem ite_lt_eq_ite_eq {α : Type} {n last : Nat} (h : n ≤ last) (x y : α) :
    (if n < last then x else y) = if n = last then y else x := by
  rcases Nat.lt_or_eq_of_le h with hlt | rfl
  · rw [if_pos hlt, if_neg (Nat.ne_of_lt hlt)]
  · rw [if_neg (Nat.lt_irrefl _), if_pos rfl]

theorem Desk.readWeekly_legal {weekday : Byte} (h : weekday.toNat ≤ 6) : d.readWeekly weekday =
    d.answerRead (some (weekdayWire weekday.toNat (d.tables.weekdayHours weekday.toNat)).bytes) := if_pos h

theorem Desk.nextWeekly_legal {weekday : Byte} (h : weekday.toNat ≤ 6) : d.nextWeekly weekday = d.answerRead
    (if weekday.toNat = 6 then none
      else some (weekdayWire (weekday.toNat + 1) (d.tables.weekdayHours (weekday.toNat + 1))).bytes) := by
  rw [← ite_lt_eq_ite_eq h]
  exact if_pos h

theorem Desk.readWeekly_bad {weekday : Byte} (h : 6 < weekday.toNat) : d.readWeekly weekday = d.answer .badArg :=
  if_neg (Nat.not_le.2 h)

theorem Desk.nextWeekly_bad {weekday : Byte} (h : 6 < weekday.toNat) : d.nextWeekly weekday = d.answer .badArg :=
  if_neg (Nat.not_le.2 h)

theorem rulePlace_iff {category itemClass : Byte} : rulePlace category itemClass = true ↔ category.toNat ≤ 15 ∧ itemClass.toNat ≤ 31 := by
  simp [rulePlace]

theorem Desk.readRule_legal {category itemClass : Byte} (hcategory : category.toNat ≤ 15) (hclass : itemClass.toNat ≤ 31) :
    d.readRule category itemClass =
      d.answerRead (some (ruleWire category.toNat itemClass.toNat (d.rule category.toNat itemClass.toNat)).bytes) :=
  if_pos (rulePlace_iff.2 ⟨hcategory, hclass⟩)

theorem Desk.nextRule_legal {category itemClass : Byte} (hcategory : category.toNat ≤ 15) (hclass : itemClass.toNat ≤ 31) :
    d.nextRule category itemClass = d.answerRead
      (if itemClass.toNat < 31 then
          some (ruleWire category.toNat (itemClass.toNat + 1) (d.rule category.toNat (itemClass.toNat + 1))).bytes
        else if category.toNat < 15 then some (ruleWire (category.toNat + 1) 0 (d.rule (category.toNat + 1) 0)).bytes
        else none) := by
  have hnext : d.nextRule category itemClass =
      d.answerRead ((nextPlace category.toNat itemClass.toNat).map fun p => d.ruleBytes p.1 p.2) :=
    if_pos (rulePlace_iff.2 ⟨hcategory, hclass⟩)
  rw [hnext, nextPlace]
  split
  · rfl
  · split <;> rfl

theorem not_rulePlace {category itemClass : Byte} (h : 15 < category.toNat ∨ 31 < itemClass.toNat) :
    ¬ rulePlace category itemClass = true := by
  rw [rulePlace_iff]
  omega

theorem Desk.readRule_bad {category itemClass : Byte} (h : 15 < category.toNat ∨ 31 < itemClass.toNat) :
    d.readRule category itemClass = d.answer .badArg := if_neg (not_rulePlace h)

theorem Desk.nextRule_bad {category itemClass : Byte} (h : 15 < category.toNat ∨ 31 < itemClass.toNat) :
    d.nextRule category itemClass = d.answer .badArg := if_neg (not_rulePlace h)

theorem Desk.readCategory_legal {category : Byte} (h : category.toNat ≤ 15) :
    d.readCategory category = d.answerRead (some (d.category category.toNat).wire.bytes) := if_pos h

theorem Desk.nextCategory_legal {category : Byte} (h : category.toNat ≤ 15) : d.nextCategory category = d.answerRead
    (if category.toNat = 15 then none else some (d.category (category.toNat + 1)).wire.bytes) := by
  rw [← ite_lt_eq_ite_eq h]
  exact if_pos h

theorem Desk.readCategory_bad {category : Byte} (h : 15 < category.toNat) : d.readCategory category = d.answer .badArg :=
  if_neg (Nat.not_le.2 h)

theorem Desk.nextCategory_bad {category : Byte} (h : 15 < category.toNat) : d.nextCategory category = d.answer .badArg :=
  if_neg (Nat.not_le.2 h)

/-! ## Tables with code keys -/

theorem Desk.readBorrower_some {card : CodeField} {c : Code} (h : CodeField.code card = some c) : d.readBorrower card =
    d.answerRead ((Table.find Borrower.key (Code.rank c) d.tables.borrowers).map fun b => b.wire.bytes) := by
  simp only [readBorrower, h]
  rfl

theorem Desk.nextBorrower_some {card : CodeField} {c : Code} (h : CodeField.code card = some c) : d.nextBorrower card =
    d.answerRead ((Table.next Borrower.key (Code.rank c) d.tables.borrowers).map fun b => b.wire.bytes) := by
  simp only [nextBorrower, h]

theorem Desk.readItem_some {code : CodeField} {c : Code} (h : CodeField.code code = some c) : d.readItem code =
    d.answerRead ((Table.find ItemEntry.key (Code.rank c) d.tables.items).map fun b => b.wire.bytes) := by
  simp only [readItem, h]
  rfl

theorem Desk.nextItem_some {code : CodeField} {c : Code} (h : CodeField.code code = some c) : d.nextItem code =
    d.answerRead ((Table.next ItemEntry.key (Code.rank c) d.tables.items).map fun b => b.wire.bytes) := by
  simp only [nextItem, h]

theorem Desk.readBorrower_none {card : CodeField} (h : CodeField.code card = none) : d.readBorrower card = d.answer .badArg := by
  simp only [readBorrower, h]

theorem Desk.nextBorrower_none {card : CodeField} (h : CodeField.code card = none) : d.nextBorrower card = d.answer .badArg := by
  simp only [nextBorrower, h]

theorem Desk.readItem_none {code : CodeField} (h : CodeField.code code = none) : d.readItem code = d.answer .badArg := by
  simp only [readItem, h]

theorem Desk.nextItem_none {code : CodeField} (h : CodeField.code code = none) : d.nextItem code = d.answer .badArg := by
  simp only [nextItem, h]

/-! ## The block list -/

theorem Desk.readBlock_some {w : BlockKeyWire} {k : BlockKey} (h : BlockKeyWire.key w = some k) : d.readBlock w =
    d.answerRead ((Table.find BlockEntry.rank k.rank d.tables.blocks).map fun e => e.wire.bytes) := by
  simp only [readBlock, h]
  rfl

theorem Desk.nextBlock_some {w : BlockKeyWire} {k : BlockKey} (h : BlockKeyWire.key w = some k) : d.nextBlock w =
    d.answerRead ((Table.next BlockEntry.rank k.rank d.tables.blocks).map fun e => e.wire.bytes) := by
  simp only [nextBlock, h]

theorem Desk.readBlock_none {w : BlockKeyWire} (h : BlockKeyWire.key w = none) : d.readBlock w = d.answer .badArg := by
  simp only [readBlock, h]

theorem Desk.nextBlock_none {w : BlockKeyWire} (h : BlockKeyWire.key w = none) : d.nextBlock w = d.answer .badArg := by
  simp only [nextBlock, h]

end

theorem BlockKey.legal_iff (k : BlockKey) : k.legal = true ↔
    6 ≤ k.cardLength ∧ k.cardLength ≤ 16 ∧ k.k ≤ 8 ∧ k.k < k.cardLength ∧ k.pattern.length + k.k = k.cardLength := by
  simp [legal, inRange, and_assoc]

section
variable {w : BlockKeyWire}

theorem BlockKeyWire.key_noDigits (h : CodeField.digits 1 w.pattern = none) : BlockKeyWire.key w = none := by
  simp [key, h]

theorem BlockKeyWire.key_legal {p : List Digit} (h : CodeField.digits 1 w.pattern = some p)
    (hlegal : BlockKey.legal ⟨w.cardLength.toNat, w.k.toNat, p⟩ = true) :
    BlockKeyWire.key w = some ⟨w.cardLength.toNat, w.k.toNat, p⟩ := by
  simp [key, h, hlegal]

theorem BlockKeyWire.key_illegal {p : List Digit} (h : CodeField.digits 1 w.pattern = some p)
    (hlegal : BlockKey.legal ⟨w.cardLength.toNat, w.k.toNat, p⟩ = false) : BlockKeyWire.key w = none := by
  simp [key, h, hlegal]

end

end Sys2Proof.Machine

namespace Sys2Proof.Proofs
open Sys2Proof.Machine

/-- Settles O43: each table's two reads, by the legality of the key. -/
theorem tableReadsReturnEntries : Obligations.TableReadsReturnEntries := by
  unfold Obligations.TableReadsReturnEntries
  intro s tag a b day code key hs d t replies returns bad
  have returned {c : Instr} {decide : Desk → Decision} {entry : Option (List Byte)}
      (hc : exec c s = .next (s.powered fun s => s.deskRequest tag decide)) (h : decide d = d.answerRead entry) : returns c entry := by
    cases entry with
    | some bs => exact exec_answered hc hs h
    | none => exact exec_answered hc hs h
  have refused {c : Instr} {decide : Desk → Decision} (hc : exec c s = .next (s.powered fun s => s.deskRequest tag decide))
      (h : decide d = d.answer .badArg) : bad c := exec_answered hc hs h
  refine ⟨fun h => ⟨?_, ?_⟩, fun h => ⟨?_, ?_⟩, fun h => ⟨?_, ?_⟩, fun h => ⟨?_, ?_⟩, ?exceptionKey, ?exceptionNext,
    fun c hc => ⟨?_, ?_, ?_, ?_⟩, fun hc => ?noCode, fun p hp => ?block, fun hp => ?noPattern, fun hcategory hclass => ⟨?_, ?_⟩,
    fun h => ⟨?_, ?_⟩, fun h => ⟨?_, ?_⟩, fun h => ⟨?_, ?_⟩⟩
  · exact returned (decide := fun d => d.readPrefix a) rfl (d.readPrefix_legal h)
  · exact returned (decide := fun d => d.nextPrefix a) rfl (d.nextPrefix_legal h)
  · exact refused (decide := fun d => d.readPrefix a) rfl (d.readPrefix_bad h)
  · exact refused (decide := fun d => d.nextPrefix a) rfl (d.nextPrefix_bad h)
  · exact returned (decide := fun d => d.readWeekly a) rfl (d.readWeekly_legal h)
  · exact returned (decide := fun d => d.nextWeekly a) rfl (d.nextWeekly_legal h)
  · exact refused (decide := fun d => d.readWeekly a) rfl (d.readWeekly_bad h)
  · exact refused (decide := fun d => d.nextWeekly a) rfl (d.nextWeekly_bad h)
  case exceptionKey => exact returned (decide := fun d => d.readException day) rfl rfl
  case exceptionNext => exact returned (decide := fun d => d.nextException day) rfl rfl
  · exact returned (decide := fun d => d.readBorrower code) rfl (d.readBorrower_some hc)
  · exact returned (decide := fun d => d.nextBorrower code) rfl (d.nextBorrower_some hc)
  · exact returned (decide := fun d => d.readItem code) rfl (d.readItem_some hc)
  · exact returned (decide := fun d => d.nextItem code) rfl (d.nextItem_some hc)
  case noCode =>
    simp only [List.forall_mem_cons]
    exact ⟨refused (decide := fun d => d.readBorrower code) rfl (d.readBorrower_none hc),
      refused (decide := fun d => d.nextBorrower code) rfl (d.nextBorrower_none hc),
      refused (decide := fun d => d.readItem code) rfl (d.readItem_none hc),
      refused (decide := fun d => d.nextItem code) rfl (d.nextItem_none hc), nofun⟩
  case block =>
    intro k legal
    refine ⟨fun h => ?_, fun h => ?_⟩
    · have hkey := BlockKeyWire.key_legal hp (k.legal_iff.2 h)
      exact ⟨returned (decide := fun d => d.readBlock key) rfl (d.readBlock_some hkey),
        returned (decide := fun d => d.nextBlock key) rfl (d.nextBlock_some hkey)⟩
    · have hkey := BlockKeyWire.key_illegal hp (Bool.eq_false_iff.2 (mt k.legal_iff.1 h))
      exact ⟨refused (decide := fun d => d.readBlock key) rfl (d.readBlock_none hkey),
        refused (decide := fun d => d.nextBlock key) rfl (d.nextBlock_none hkey)⟩
  case noPattern =>
    have hkey := BlockKeyWire.key_noDigits hp
    exact ⟨refused (decide := fun d => d.readBlock key) rfl (d.readBlock_none hkey),
      refused (decide := fun d => d.nextBlock key) rfl (d.nextBlock_none hkey)⟩
  · exact returned (decide := fun d => d.readRule a b) rfl (d.readRule_legal hcategory hclass)
  · exact returned (decide := fun d => d.nextRule a b) rfl (d.nextRule_legal hcategory hclass)
  · exact refused (decide := fun d => d.readRule a b) rfl (d.readRule_bad h)
  · exact refused (decide := fun d => d.nextRule a b) rfl (d.nextRule_bad h)
  · exact returned (decide := fun d => d.readCategory a) rfl (d.readCategory_legal h)
  · exact returned (decide := fun d => d.nextCategory a) rfl (d.nextCategory_legal h)
  · exact refused (decide := fun d => d.readCategory a) rfl (d.readCategory_bad h)
  · exact refused (decide := fun d => d.nextCategory a) rfl (d.nextCategory_bad h)

end Sys2Proof.Proofs
end

section
/-! PROOF. TABLE_WRITE with DELETE and CLEAR_ALL (R11, R32, R33, R43, R55, R65, R67, R69). -/

namespace Sys2Proof.Machine

/-! ## Keys that are found -/

theorem Table.find_eq_none_iff {α : Type} {key : α → Nat} {k : Nat} {t : List α} :
    Table.find key k t = none ↔ ∀ e ∈ t, key e ≠ k := by
  simp [Table.find]

theorem Table.find_isSome_eq_false {α : Type} {key : α → Nat} {k : Nat} {t : List α} (h : ∀ e ∈ t, key e ≠ k) :
    (Table.find key k t).isSome = false := by
  rw [Table.find_eq_none_iff.2 h]
  rfl

theorem Code.rank_eq_iff {a b : Code} : Code.rank a = Code.rank b ↔ a = b := ⟨Code.rank_inj, congrArg Code.rank⟩

/-- A table keyed by a code. -/
theorem Table.erase_rank {α : Type} (code : α → Code) (c : Code) (t : List α) :
    Table.erase (fun e => Code.rank (code e)) (Code.rank c) t = t.filter fun e => code e != c := by
  refine List.filter_congr fun e _ => Bool.eq_iff_iff.2 ?_
  simp only [bne_iff_ne, ne_eq, Code.rank_eq_iff]

section
variable {d : Desk}

/-! ## Tables with byte keys -/

theorem Desk.deletePrefix_bad {slot : Byte} (h : 31 < slot.toNat) : d.deletePrefix slot = d.answer .badArg := if_pos h

theorem Desk.deletePrefix_absent {slot : Byte} (hslot : slot.toNat ≤ 31) (h : ∀ e ∈ d.tables.prefixes, e.slot ≠ slot.toNat) :
    d.deletePrefix slot = d.answer .notFound :=
  (if_neg (Nat.not_lt.2 hslot)).trans (if_neg (Bool.eq_false_iff.1 (Table.find_isSome_eq_false h)))

theorem Desk.deletePrefix_found {slot : Byte} (hslot : slot.toNat ≤ 31) (h : ∃ e ∈ d.tables.prefixes, e.slot = slot.toNat) :
    d.deletePrefix slot =
      (d.onTables fun t => { t with prefixes := t.prefixes.filter fun e => e.slot != slot.toNat }).answer .ok :=
  (if_neg (Nat.not_lt.2 hslot)).trans (if_pos (Table.find_isSome_iff.2 h))

theorem Desk.deleteWeekly_bad {weekday : Byte} (h : 6 < weekday.toNat) : d.deleteWeekly weekday = d.answer .badArg :=
  if_neg (Nat.not_le.2 h)

theorem Desk.deleteWeekly_legal {weekday : Byte} (h : weekday.toNat ≤ 6) : d.deleteWeekly weekday =
    (d.onTables fun t => { t with weekly := t.weekly.filter fun e => e.weekday != weekday.toNat }).answer .ok := if_pos h

theorem Desk.deleteException_absent {day : Half} (h : ∀ e ∈ d.tables.exceptions, e.day ≠ day.toNat) :
    d.deleteException day = d.answer .notFound := if_neg (Bool.eq_false_iff.1 (Table.find_isSome_eq_false h))

theorem Desk.deleteException_found {day : Half} (h : ∃ e ∈ d.tables.exceptions, e.day = day.toNat) : d.deleteException day =
    (d.onTables fun t => { t with exceptions := t.exceptions.filter fun e => e.day != day.toNat }).answer .ok :=
  if_pos (Table.find_isSome_iff.2 h)

theorem Desk.deleteRule_bad {category itemClass : Byte} (h : 15 < category.toNat ∨ 31 < itemClass.toNat) :
    d.deleteRule category itemClass = d.answer .badArg := if_neg (not_rulePlace h)

theorem Desk.deleteRule_legal {category itemClass : Byte} (hcategory : category.toNat ≤ 15) (hclass : itemClass.toNat ≤ 31) :
    d.deleteRule category itemClass = (d.onTables fun t =>
      { t with rules := t.rules.filter fun e => LoanRule.key e != category.toNat * 32 + itemClass.toNat }).answer .ok :=
  if_pos (rulePlace_iff.2 ⟨hcategory, hclass⟩)

theorem Desk.setCategory_cold {e : CategoryEntry} (h : e = .cold e.category) : d.setCategory e =
    d.onTables fun t => { t with categories := t.categories.filter fun o => o.category != e.category } := by
  simp only [setCategory, if_pos h]
  rfl

theorem Desk.setCategory_listed {e : CategoryEntry} (h : e ≠ .cold e.category) : d.setCategory e =
    d.onTables fun t => { t with categories := Table.put CategoryEntry.key e t.categories } := by
  simp only [setCategory, if_neg h]

theorem Desk.deleteCategory_bad {category : Byte} (h : 15 < category.toNat) : d.deleteCategory category = d.answer .badArg :=
  if_neg (Nat.not_le.2 h)

theorem Desk.deleteCategory_legal {category : Byte} (h : category.toNat ≤ 15) : d.deleteCategory category =
    (d.onTables fun t => { t with categories := t.categories.filter fun e => e.category != category.toNat }).answer .ok :=
  (if_pos h).trans (congrArg (·.answer .ok) (setCategory_cold rfl))

/-! ## Tables with code keys -/

section
variable {card : CodeField} {c : Code}

theorem Desk.deleteBorrower_bad (h : CodeField.code card = none) : d.deleteBorrower card = d.answer .badArg := by
  simp only [deleteBorrower, h]

theorem Desk.deleteBorrower_inUse (h : CodeField.code card = some c) (huse : d.cardInUse c = true) :
    d.deleteBorrower card = d.answer .inUse := by
  simp only [deleteBorrower, h, huse, if_true]

theorem Desk.deleteBorrower_absent (h : CodeField.code card = some c) (huse : d.cardInUse c = false)
    (habsent : ∀ e ∈ d.tables.borrowers, e.card ≠ c) : d.deleteBorrower card = d.answer .notFound := by
  have hnone : d.borrower c = none := Table.find_eq_none_iff.2 fun e he => mt Code.rank_inj (habsent e he)
  simp only [deleteBorrower, h, huse, hnone, Bool.false_eq_true, if_false, Option.isNone_none, if_true]

theorem Desk.deleteBorrower_found (h : CodeField.code card = some c) (huse : d.cardInUse c = false)
    (hfound : ∃ e ∈ d.tables.borrowers, e.card = c) : d.deleteBorrower card =
      (d.onTables fun t => { t with borrowers := t.borrowers.filter fun e => e.card != c }).answer .ok := by
  obtain ⟨e, he, rfl⟩ := hfound
  have hsome : (d.borrower e.card).isNone = false := by
    rw [← Option.not_isSome, Bool.not_eq_false']
    exact Table.find_isSome_iff.2 ⟨e, he, rfl⟩
  simp only [deleteBorrower, h, huse, hsome, Bool.false_eq_true, if_false, eraseBorrower]
  exact congrArg (fun l => (d.onTables fun t => { t with borrowers := l }).answer .ok) (Table.erase_rank Borrower.card _ _)

theorem Desk.deleteItem_bad (h : CodeField.code card = none) : d.deleteItem card = d.answer .badArg := by
  simp only [deleteItem, h]

theorem Desk.deleteItem_inUse (h : CodeField.code card = some c) (huse : d.itemListed c = true) :
    d.deleteItem card = d.answer .inUse := by
  simp only [deleteItem, h, huse, if_true]

theorem Desk.deleteItem_absent (h : CodeField.code card = some c) (huse : d.itemListed c = false)
    (habsent : ∀ e ∈ d.tables.items, e.code ≠ c) : d.deleteItem card = d.answer .notFound := by
  have hnone : d.item c = none := Table.find_eq_none_iff.2 fun e he => mt Code.rank_inj (habsent e he)
  simp only [deleteItem, h, huse, hnone, Bool.false_eq_true, if_false, Option.isNone_none, if_true]

theorem Desk.deleteItem_found (h : CodeField.code card = some c) (huse : d.itemListed c = false)
    (hfound : ∃ e ∈ d.tables.items, e.code = c) : d.deleteItem card =
      (d.onTables fun t => { t with items := t.items.filter fun e => e.code != c }).answer .ok := by
  obtain ⟨e, he, rfl⟩ := hfound
  have hsome : (d.item e.code).isNone = false := by
    rw [← Option.not_isSome, Bool.not_eq_false']
    exact Table.find_isSome_iff.2 ⟨e, he, rfl⟩
  simp only [deleteItem, h, huse, hsome, Bool.false_eq_true, if_false, eraseItem]
  exact congrArg (fun l => (d.onTables fun t => { t with items := l }).answer .ok) (Table.erase_rank ItemEntry.code _ _)

end

theorem Desk.clearBorrowers_closed (h : d.mode = .closed) :
    d.clearBorrowers = (d.onTables fun t => { t with borrowers := [] }).answer .ok := if_pos (by simp [h])

theorem Desk.clearBorrowers_bad (h : d.mode ≠ .closed) : d.clearBorrowers = d.answer .badState := if_neg (by simp [h])

theorem Desk.clearItems_closed (h : d.mode = .closed) :
    d.clearItems = (d.onTables fun t => { t with items := [] }).answer .ok := if_pos (by simp [h])

theorem Desk.clearItems_bad (h : d.mode ≠ .closed) : d.clearItems = d.answer .badState := if_neg (by simp [h])

/-! ## The block list -/

section
variable {w : BlockKeyWire} {k : BlockKey}

theorem Desk.deleteBlock_bad (h : BlockKeyWire.key w = none) : d.deleteBlock w = d.answer .badArg := by
  simp only [deleteBlock, h]

theorem Desk.deleteBlock_absent (h : BlockKeyWire.key w = some k) (hnone : Table.find BlockEntry.rank k.rank d.tables.blocks = none) :
    d.deleteBlock w = d.answer .notFound := by
  simp only [deleteBlock, h, findBlock, hnone, Option.isSome_none, Bool.false_eq_true, if_false]

theorem Desk.deleteBlock_found (h : BlockKeyWire.key w = some k) (hsome : Table.find BlockEntry.rank k.rank d.tables.blocks ≠ none) :
    d.deleteBlock w = (d.onTables fun t => { t with blocks := t.blocks.filter fun e => e.rank != k.rank }).answer .ok := by
  simp only [deleteBlock, h, findBlock, Option.isSome_iff_ne_none.2 hsome, if_true]
  rfl

end

end

end Sys2Proof.Machine

namespace Sys2Proof.Proofs
open Sys2Proof.Machine

/-- Settles O44: each table's DELETE by its key, and its CLEAR_ALL. -/
theorem tableDeletesAndClears : Obligations.TableDeletesAndClears := by
  unfold Obligations.TableDeletesAndClears
  intro s tag a b day code key hs d t ok refuses
  have hprefix {x : Decision} (h : d.deletePrefix a = x) : exec (.tableWritePrefixDelete tag a) s = .next (s.afterReply tag x) :=
    exec_answered (decide := fun d => d.deletePrefix a) rfl hs h
  have hweekly {x : Decision} (h : d.deleteWeekly a = x) : exec (.tableWriteWeeklyHoursDelete tag a) s = .next (s.afterReply tag x) :=
    exec_answered (decide := fun d => d.deleteWeekly a) rfl hs h
  have hexception {x : Decision} (h : d.deleteException day = x) :
      exec (.tableWriteExceptionDelete tag day) s = .next (s.afterReply tag x) :=
    exec_answered (decide := fun d => d.deleteException day) rfl hs h
  have hborrower {x : Decision} (h : d.deleteBorrower code = x) : exec (.tableWriteBorrowerDelete tag code) s = .next (s.afterReply tag x) :=
    exec_answered (decide := fun d => d.deleteBorrower code) rfl hs h
  have hitem {x : Decision} (h : d.deleteItem code = x) : exec (.tableWriteItemDelete tag code) s = .next (s.afterReply tag x) :=
    exec_answered (decide := fun d => d.deleteItem code) rfl hs h
  have hblock {x : Decision} (h : d.deleteBlock key = x) : exec (.tableWriteBlockDelete tag key) s = .next (s.afterReply tag x) :=
    exec_answered (decide := fun d => d.deleteBlock key) rfl hs h
  have hrule {x : Decision} (h : d.deleteRule a b = x) : exec (.tableWriteLoanRuleDelete tag a b) s = .next (s.afterReply tag x) :=
    exec_answered (decide := fun d => d.deleteRule a b) rfl hs h
  have hcategory {x : Decision} (h : d.deleteCategory a = x) : exec (.tableWriteCategoryDelete tag a) s = .next (s.afterReply tag x) :=
    exec_answered (decide := fun d => d.deleteCategory a) rfl hs h
  have hborrowers {x : Decision} (h : d.clearBorrowers = x) : exec (.tableWriteBorrowerClearAll tag) s = .next (s.afterReply tag x) :=
    exec_answered (decide := fun d => d.clearBorrowers) rfl hs h
  have hitems {x : Decision} (h : d.clearItems = x) : exec (.tableWriteItemClearAll tag) s = .next (s.afterReply tag x) :=
    exec_answered (decide := fun d => d.clearItems) rfl hs h
  refine ⟨exec_answered (decide := fun d => d.clearPrefixes) rfl hs rfl, exec_answered (decide := fun d => d.clearWeekly) rfl hs rfl,
    exec_answered (decide := fun d => d.clearExceptions) rfl hs rfl, exec_answered (decide := fun d => d.clearBlocks) rfl hs rfl,
    exec_answered (decide := fun d => d.clearRules) rfl hs rfl, exec_answered (decide := fun d => d.clearCategories) rfl hs rfl,
    fun h => ⟨hborrowers (Desk.clearBorrowers_closed h), hitems (Desk.clearItems_closed h)⟩,
    fun h => ⟨hborrowers (Desk.clearBorrowers_bad h), hitems (Desk.clearItems_bad h)⟩, fun h => hprefix (Desk.deletePrefix_bad h),
    fun hslot h => hprefix (Desk.deletePrefix_absent hslot h), fun hslot h => hprefix (Desk.deletePrefix_found hslot h),
    fun h => hweekly (Desk.deleteWeekly_bad h), fun h => hweekly (Desk.deleteWeekly_legal h),
    fun h => hexception (Desk.deleteException_absent h), fun h => hexception (Desk.deleteException_found h),
    fun h => ⟨hborrower (Desk.deleteBorrower_bad h), hitem (Desk.deleteItem_bad h)⟩, fun c hc => ?codes,
    fun h => hblock (Desk.deleteBlock_bad h), fun k hk => ⟨fun h => hblock (Desk.deleteBlock_absent hk h),
      fun h => hblock (Desk.deleteBlock_found hk h)⟩,
    fun h => hrule (Desk.deleteRule_bad h), fun hcat hclass => hrule (Desk.deleteRule_legal hcat hclass),
    fun h => hcategory (Desk.deleteCategory_bad h), fun h => hcategory (Desk.deleteCategory_legal h)⟩
  case codes =>
    exact ⟨fun h => hborrower (Desk.deleteBorrower_inUse hc h), fun h hn => hborrower (Desk.deleteBorrower_absent hc h hn),
      fun h he => hborrower (Desk.deleteBorrower_found hc h he), fun h => hitem (Desk.deleteItem_inUse hc h),
      fun h hn => hitem (Desk.deleteItem_absent hc h hn), fun h he => hitem (Desk.deleteItem_found hc h he)⟩

end Sys2Proof.Proofs
end

section
/-! PROOF. TABLE_WRITE with PUT (R10, R32, R33, R42, R54, R58, R63, R64, R67, R69). -/

namespace Sys2Proof.Machine

section
variable {d : Desk}

/-! ## Prefixes, weekly hours and exceptions -/

theorem PrefixEntry.any_duplicates_iff (e : PrefixEntry) (t : List PrefixEntry) : t.any e.duplicates = true ↔
    ∃ o ∈ t, o.slot ≠ e.slot ∧ o.lead = e.lead ∧ o.minLength = e.minLength ∧ o.maxLength = e.maxLength := by
  simp [duplicates, and_assoc]

section
variable {w : PrefixWire}

theorem Desk.putPrefix_bad (h : PrefixWire.entry w = none) : d.putPrefix w = d.answer .badArg := by
  simp only [putPrefix, h]

theorem Desk.putPrefix_some {e : PrefixEntry} (h : PrefixWire.entry w = some e) : d.putPrefix w =
    if d.tables.prefixes.any e.duplicates then d.answer .duplicate
    else (d.onTables fun t => { t with prefixes := Table.put PrefixEntry.key e t.prefixes }).answer .ok := by
  simp only [putPrefix, h]

end

section
variable {w : WeeklyWire}

theorem Desk.putWeekly_bad (h : 6 < w.weekday.toNat ∨ WeeklyWire.hours w = none) : d.putWeekly w = d.answer .badArg := by
  unfold putWeekly
  split
  · next hday =>
    rw [h.resolve_left (Nat.not_lt.2 hday)]
  · rfl

theorem Desk.putWeekly_hours (hday : w.weekday.toNat ≤ 6) {h : Hours} (hw : WeeklyWire.hours w = some (some h)) : d.putWeekly w =
    (d.onTables fun t => { t with weekly := Table.put WeekdayHours.key ⟨w.weekday.toNat, h⟩ t.weekly }).answer .ok := by
  simp only [putWeekly, if_pos hday, hw]

theorem Desk.putWeekly_closed (hday : w.weekday.toNat ≤ 6) (hw : WeeklyWire.hours w = some none) : d.putWeekly w =
    (d.onTables fun t => { t with weekly := t.weekly.filter fun e => e.weekday != w.weekday.toNat }).answer .ok := by
  simp only [putWeekly, if_pos hday, hw]
  rfl

end

section
variable {w : ExceptionWire}

theorem Desk.putException_bad (h : ExceptionWire.entry w = none) : d.putException w = d.answer .badArg := by
  simp only [putException, h]

theorem Desk.exceptionRoom_iff {e : ExceptionEntry} : ((d.tables.exceptionFor e.day).isSome || d.tables.exceptions.length < exceptionCapacity) = true ↔
    (∃ o ∈ d.tables.exceptions, o.day = e.day) ∨ d.tables.exceptions.length < 96 := by
  rw [Bool.or_eq_true, decide_eq_true_iff]
  exact or_congr Table.find_isSome_iff Iff.rfl

variable {e : ExceptionEntry} (h : ExceptionWire.entry w = some e)
include h

theorem Desk.putException_room (hroom : (∃ o ∈ d.tables.exceptions, o.day = e.day) ∨ d.tables.exceptions.length < 96) :
    d.putException w = (d.onTables fun t => { t with exceptions := Table.put ExceptionEntry.key e t.exceptions }).answer .ok := by
  simp only [putException, h]
  exact if_pos (exceptionRoom_iff.2 hroom)

theorem Desk.putException_full (hroom : ¬ ((∃ o ∈ d.tables.exceptions, o.day = e.day) ∨ d.tables.exceptions.length < 96)) :
    d.putException w = d.answer .full := by
  simp only [putException, h]
  exact if_neg (mt exceptionRoom_iff.1 hroom)

end

/-! ## Borrowers -/

/-- A new entry finds its table full. -/
theorem isNone_and_full_iff {α : Type} {x : Option α} {length capacity : Nat} :
    (x.isNone && decide (capacity ≤ length)) = true ↔ ¬ (x ≠ none ∨ length < capacity) := by
  rw [Bool.and_eq_true, Option.isNone_iff_eq_none, decide_eq_true_iff, not_or, not_not, Nat.not_lt]

section
variable {w : BorrowerWire}

theorem Desk.putBorrowerEntry_bad (h : BorrowerWire.entry w = none) : d.putBorrowerEntry w = d.answer .badArg := by
  simp only [putBorrowerEntry, h]

variable {b : Borrower} (h : BorrowerWire.entry w = some b)
include h

theorem Desk.putBorrowerEntry_inUse (huse : d.cardInUse b.card = true) : d.putBorrowerEntry w = d.answer .inUse := by
  simp only [putBorrowerEntry, h]
  exact if_pos huse

theorem Desk.putBorrowerEntry_full (huse : d.cardInUse b.card = false)
    (hroom : ¬ (d.borrower b.card ≠ none ∨ d.tables.borrowers.length < 65536)) : d.putBorrowerEntry w = d.answer .full := by
  simp only [putBorrowerEntry, h]
  exact (if_neg (Bool.eq_false_iff.1 huse)).trans (if_pos (isNone_and_full_iff.2 hroom))

theorem Desk.putBorrowerEntry_room (huse : d.cardInUse b.card = false)
    (hroom : d.borrower b.card ≠ none ∨ d.tables.borrowers.length < 65536) : d.putBorrowerEntry w = (d.putBorrower b).answer .ok := by
  simp only [putBorrowerEntry, h]
  exact (if_neg (Bool.eq_false_iff.1 huse)).trans (if_neg fun hfull => isNone_and_full_iff.1 hfull hroom)

end

/-! ## The block list -/

section
variable {w : BlockWire}

theorem Desk.putBlock_bad (h : BlockWire.entry w = none) : d.putBlock w = d.answer .badArg := by
  simp only [putBlock, h]

variable {e : BlockEntry} (h : BlockWire.entry w = some e)
include h

theorem Desk.putBlock_full (hroom : ¬ (Table.find BlockEntry.rank e.rank d.tables.blocks ≠ none ∨ d.tables.blocks.length < 1024)) :
    d.putBlock w = d.answer .full := by
  simp only [putBlock, h]
  exact if_pos (isNone_and_full_iff.2 hroom)

theorem Desk.putBlock_room (hroom : Table.find BlockEntry.rank e.rank d.tables.blocks ≠ none ∨ d.tables.blocks.length < 1024) :
    d.putBlock w = ((d.onTables fun t => { t with blocks := Table.put BlockEntry.rank e t.blocks }).tellBlock e).answer .ok := by
  simp only [putBlock, h]
  exact if_neg fun hfull => isNone_and_full_iff.1 hfull hroom

end

/-! ## Items -/

/-- An entry that is stored as it is: one of no other status than its own, or in place of an entry that is neither lent nor missing. -/
theorem storedItem_new {old : Option ItemEntry} {e : ItemEntry} (h : old = none ∨ (∀ hold, e.status ≠ .holdPending hold) ∨
    ∃ o, old = some o ∧ (∀ h x n y, o.status ≠ .onLoan h x n y) ∧ ∀ y, o.status ≠ .missing y) : storedItem old e = some e := by
  unfold storedItem
  split
  · next code cls holder due n other hold hstatus =>
    rcases h with h | h | ⟨o, ho, hloan, -⟩
    · cases h
    · exact absurd hstatus (h hold)
    · cases ho
      exact absurd rfl (hloan holder due n other)
  · next code cls other hold hstatus =>
    rcases h with h | h | ⟨o, ho, -, hmissing⟩
    · cases h
    · exact absurd hstatus (h hold)
    · cases ho
      exact absurd rfl (hmissing other)
  · rfl

theorem storedItem_lent {code : Code} {cls : Option Nat} {holder : Code} {due : Due} {n : Nat} {other : Option Code} {e : ItemEntry}
    {hold : Code} (he : e.status = .holdPending hold) : storedItem (some ⟨code, cls, .onLoan holder due n other⟩) e =
      if hold = holder then none else some ⟨code, cls, .onLoan holder due n (some hold)⟩ := by
  simp only [storedItem, he]

theorem storedItem_missing {code : Code} {cls : Option Nat} {other : Option Code} {e : ItemEntry} {hold : Code}
    (he : e.status = .holdPending hold) :
    storedItem (some ⟨code, cls, .missing other⟩) e = some ⟨code, cls, .missing (some hold)⟩ := by
  simp only [storedItem, he]

section
variable {w : ItemWire}

theorem Desk.putItemEntry_bad (h : ItemWire.entry w = none) : d.putItemEntry w = d.answer .badArg := by
  simp only [putItemEntry, h]

variable {e : ItemEntry} (h : ItemWire.entry w = some e)
include h

theorem Desk.putItemEntry_inUse (huse : d.itemListed e.code = true) : d.putItemEntry w = d.answer .inUse := by
  simp only [putItemEntry, h]
  exact if_pos huse

variable (huse : d.itemListed e.code = false)
include huse

theorem Desk.putItemEntry_full (hroom : ¬ (d.item e.code ≠ none ∨ d.tables.items.length < 131072)) :
    d.putItemEntry w = d.answer .full := by
  simp only [putItemEntry, h]
  exact (if_neg (Bool.eq_false_iff.1 huse)).trans (if_pos (isNone_and_full_iff.2 hroom))

variable (hroom : d.item e.code ≠ none ∨ d.tables.items.length < 131072)
include hroom

theorem Desk.putItemEntry_stores {stored : ItemEntry} (hstored : storedItem (d.item e.code) e = some stored) :
    d.putItemEntry w = (d.putItem stored).answer .ok := by
  simp only [putItemEntry, h, hstored]
  exact (if_neg (Bool.eq_false_iff.1 huse)).trans (if_neg fun hfull => isNone_and_full_iff.1 hfull hroom)

theorem Desk.putItemEntry_refused (hstored : storedItem (d.item e.code) e = none) : d.putItemEntry w = d.answer .badArg := by
  simp only [putItemEntry, h, hstored]
  exact (if_neg (Bool.eq_false_iff.1 huse)).trans (if_neg fun hfull => isNone_and_full_iff.1 hfull hroom)

end

/-! ## Loan rules and categories -/

theorem Desk.putRule_bad {w : RuleWire} (h : RuleWire.rule w = none) : d.putRule w = d.answer .badArg := by
  simp only [putRule, h]

theorem Desk.putRule_some {w : RuleWire} {r : LoanRule} (h : RuleWire.rule w = some (some r)) :
    d.putRule w = (d.onTables fun t => { t with rules := Table.put LoanRule.key r t.rules }).answer .ok := by
  simp only [putRule, h, setRule]

theorem Desk.putRule_none {w : RuleWire} (h : RuleWire.rule w = some none) : d.putRule w = (d.onTables fun t =>
    { t with rules := t.rules.filter fun e => LoanRule.key e != w.category.toNat * 32 + w.itemClass.toNat }).answer .ok := by
  simp only [putRule, h, setRule]
  rfl

theorem Desk.putCategory_bad {w : CategoryWire} (h : CategoryWire.entry w = none) : d.putCategory w = d.answer .badArg := by
  simp only [putCategory, h]

theorem Desk.putCategory_some {w : CategoryWire} {e : CategoryEntry} (h : CategoryWire.entry w = some e) :
    d.putCategory w = (d.setCategory e).answer .ok := by
  simp only [putCategory, h]

end

end Sys2Proof.Machine

namespace Sys2Proof.Proofs
open Sys2Proof.Machine

/-- Settles O45: each table's PUT, by the entry that its wire form gives. -/
theorem tablePuts : Obligations.TablePuts := by
  unfold Obligations.TablePuts
  intro s tag px wk ex bo bl it ru ca hs d t answers ok refuses
  have hprefix {x : Decision} (h : d.putPrefix px = x) : exec (.tableWritePrefixPut tag px) s = .next (s.afterReply tag x) :=
    exec_answered (decide := fun d => d.putPrefix px) rfl hs h
  have hweekly {x : Decision} (h : d.putWeekly wk = x) : exec (.tableWriteWeeklyHoursPut tag wk) s = .next (s.afterReply tag x) :=
    exec_answered (decide := fun d => d.putWeekly wk) rfl hs h
  have hexception {x : Decision} (h : d.putException ex = x) : exec (.tableWriteExceptionPut tag ex) s = .next (s.afterReply tag x) :=
    exec_answered (decide := fun d => d.putException ex) rfl hs h
  have hborrower {x : Decision} (h : d.putBorrowerEntry bo = x) : exec (.tableWriteBorrowerPut tag bo) s = .next (s.afterReply tag x) :=
    exec_answered (decide := fun d => d.putBorrowerEntry bo) rfl hs h
  have hblock {x : Decision} (h : d.putBlock bl = x) : exec (.tableWriteBlockPut tag bl) s = .next (s.afterReply tag x) :=
    exec_answered (decide := fun d => d.putBlock bl) rfl hs h
  have hitem {x : Decision} (h : d.putItemEntry it = x) : exec (.tableWriteItemPut tag it) s = .next (s.afterReply tag x) :=
    exec_answered (decide := fun d => d.putItemEntry it) rfl hs h
  have hrule {x : Decision} (h : d.putRule ru = x) : exec (.tableWriteLoanRulePut tag ru) s = .next (s.afterReply tag x) :=
    exec_answered (decide := fun d => d.putRule ru) rfl hs h
  have hcategory {x : Decision} (h : d.putCategory ca = x) : exec (.tableWriteCategoryPut tag ca) s = .next (s.afterReply tag x) :=
    exec_answered (decide := fun d => d.putCategory ca) rfl hs h
  refine ⟨fun h => hprefix (Desk.putPrefix_bad h), fun e he => ?slot, fun h => hweekly (Desk.putWeekly_bad h),
    fun hday => ⟨fun h hh => hweekly (Desk.putWeekly_hours hday hh), fun hh => hweekly (Desk.putWeekly_closed hday hh)⟩,
    fun h => hexception (Desk.putException_bad h), fun e he => ?exception, fun h => hborrower (Desk.putBorrowerEntry_bad h),
    fun e he => ?borrower, fun h => hblock (Desk.putBlock_bad h), fun e he => ?block, fun h => hitem (Desk.putItemEntry_bad h),
    fun e he => ?item, fun h => hrule (Desk.putRule_bad h), fun r hr => hrule (Desk.putRule_some hr), fun h => hrule (Desk.putRule_none h),
    fun h => hcategory (Desk.putCategory_bad h), fun e he => ?category⟩
  case slot =>
    intro twin
    refine ⟨fun h => hprefix ?_, fun h => hprefix ?_⟩
    · rw [Desk.putPrefix_some he, if_pos ((e.any_duplicates_iff _).2 h)]
      rfl
    · rw [Desk.putPrefix_some he, if_neg (mt (e.any_duplicates_iff _).1 h)]
      rfl
  case exception =>
    intro room
    exact ⟨fun h => hexception (Desk.putException_room he h), fun h => hexception (Desk.putException_full he h)⟩
  case borrower =>
    intro room
    exact ⟨fun h => hborrower (Desk.putBorrowerEntry_inUse he h), fun h hroom => hborrower (Desk.putBorrowerEntry_full he h hroom),
      fun h hroom => hborrower (Desk.putBorrowerEntry_room he h hroom)⟩
  case block =>
    intro room stored
    refine ⟨fun h => hblock (Desk.putBlock_full he h), fun h => hblock ?_⟩
    rw [Desk.putBlock_room he h, Desk.tellBlock, Desk.eachStation]
    refine congrArg (Desk.answer · .ok) (congrArg (List.foldl · stored StationId.list) (funext fun d => funext fun st => ?_))
    unfold Desk.postBlock
    cases d.context st with
    | opened x => cases e.action <;> rfl
    | disabled | idle | lookup => rfl
  case item =>
    intro old room stores
    refine ⟨fun h => hitem (Desk.putItemEntry_inUse he h), fun h hroom => hitem (Desk.putItemEntry_full he h hroom),
      fun h hroom => ⟨fun code cls holder due n other hold hold' hstatus => ?_, fun code cls other hold hold' hstatus => ?_,
        fun hnew => hitem (Desk.putItemEntry_stores he h hroom (storedItem_new hnew))⟩⟩
    · have hlent := storedItem_lent (code := code) (cls := cls) (holder := holder) (due := due) (n := n) (other := other) hstatus
      rw [← hold'] at hlent
      exact ⟨fun hsame => hitem (Desk.putItemEntry_refused he h hroom (hlent.trans (if_pos hsame))),
        fun hother => hitem (Desk.putItemEntry_stores he h hroom (hlent.trans (if_neg hother)))⟩
    · have hmissing := storedItem_missing (code := code) (cls := cls) (other := other) hstatus
      rw [← hold'] at hmissing
      exact hitem (Desk.putItemEntry_stores he h hroom hmissing)
  case category =>
    refine ⟨fun h => hcategory ?_, fun h => hcategory ?_⟩
    · rw [Desk.putCategory_some he, Desk.setCategory_cold h]
      rfl
    · rw [Desk.putCategory_some he, Desk.setCategory_listed h]
      rfl

end Sys2Proof.Proofs
end

section
/-! PROOF. The Due-Date Unit's dues and pickup-by days (R107 to R115). -/

namespace Sys2Proof.Machine

theorem Tables.closureSearch_eq (t : Tables) (day : Nat) : t.closureSearch day =
    ((t.forwardSearch day (day + 21)).getD day, (t.forwardSearch day (day + 21)).isNone) := by
  unfold closureSearch
  cases t.forwardSearch day (day + 21) <;> rfl

section
variable {q : DueQuestion} {r : LoanRule}

theorem DueQuestion.loanDue_days (h : r.kind = .days) : q.loanDue r = q.dayLoan r.period := by
  simp only [loanDue, h]

theorem DueQuestion.loanDue_hours (h : r.kind = .hours) : q.loanDue r = q.hourlyLoan r.period := by
  simp only [loanDue, h]

theorem DueQuestion.renewalDue_later {current : Due} (h : current.earlier (q.loanDue r).due = true) :
    q.renewalDue r current = q.loanDue r := if_pos h

theorem DueQuestion.renewalDue_stands {current : Due} (h : current.earlier (q.loanDue r).due = false) :
    q.renewalDue r current = ⟨current, false⟩ := if_neg (Bool.eq_false_iff.1 h)

/-! ## Day loans (R108, R109) -/

theorem DueQuestion.dayLoan_eq (q : DueQuestion) (period : Nat) : q.dayLoan period =
    if (q.tables.closureSearch (min (q.today + period) lastDay)).1 ≤ q.capDay
    then ⟨⟨(q.tables.closureSearch (min (q.today + period) lastDay)).1, none⟩,
      (q.tables.closureSearch (min (q.today + period) lastDay)).2⟩
    else ⟨⟨q.cappedDay, none⟩, false⟩ := rfl

/-! ## Hourly loans (R110 to R112) -/

theorem DueQuestion.capHourly_within {a : DueAnswer} (h : a.due.day ≤ q.capDay) : q.capHourly a = a := if_pos h

/-- The last minute of a day on which an hourly loan is capped. -/
def DueQuestion.closingOn (q : DueQuestion) (day : Nat) : Nat := match q.tables.dayHours day with
  | some h => h.closing
  | none => 1439

theorem DueQuestion.capHourly_today {a : DueAnswer} (h : q.capDay < a.due.day) (hcapped : q.cappedDay = q.today) :
    q.capHourly a = ⟨⟨q.cappedDay, some (max (q.closingOn q.cappedDay) q.minute)⟩, false⟩ := by
  have hcap : q.capHourly a = ⟨⟨q.cappedDay, some (if q.cappedDay = q.today then max (q.closingOn q.cappedDay) q.minute
      else q.closingOn q.cappedDay)⟩, false⟩ := if_neg (Nat.not_le.2 h)
  rw [hcap, if_pos hcapped]

theorem DueQuestion.capHourly_later {a : DueAnswer} (h : q.capDay < a.due.day) (hcapped : q.cappedDay ≠ q.today) :
    q.capHourly a = ⟨⟨q.cappedDay, some (q.closingOn q.cappedDay)⟩, false⟩ := by
  have hcap : q.capHourly a = ⟨⟨q.cappedDay, some (if q.cappedDay = q.today then max (q.closingOn q.cappedDay) q.minute
      else q.closingOn q.cappedDay)⟩, false⟩ := if_neg (Nat.not_le.2 h)
  rw [hcap, if_neg hcapped]

theorem DueQuestion.hourlyLoan_fits {h : Hours} {hours : Nat} (hopen : q.tables.dayHours q.today = some h)
    (hfits : q.minute + 60 * hours ≤ h.closing) : q.hourlyLoan hours = ⟨⟨q.today, some (q.minute + 60 * hours)⟩, false⟩ := by
  simp only [hourlyLoan, hopen, if_pos hfits]

theorem DueQuestion.hourlyLoan_cut {h : Hours} {hours : Nat} (hopen : q.tables.dayHours q.today = some h)
    (hlong : h.closing < q.minute + 60 * hours) (hleft : q.minute + q.minimumRemaining ≤ h.closing) :
    q.hourlyLoan hours = ⟨⟨q.today, some h.closing⟩, false⟩ := by
  simp only [hourlyLoan, hopen, if_neg (Nat.not_le.2 hlong), if_pos hleft]

theorem DueQuestion.hourlyLoan_carried {hours : Nat} (h : ∀ h, q.tables.dayHours q.today = some h →
    h.closing < q.minute + 60 * hours ∧ h.closing < q.minute + q.minimumRemaining) :
    q.hourlyLoan hours = q.capHourly (q.carried hours) := by
  cases hopen : q.tables.dayHours q.today with
  | none => simp only [hourlyLoan, hopen]
  | some hours' =>
    obtain ⟨hlong, hleft⟩ := h hours' hopen
    simp only [hourlyLoan, hopen, if_neg (Nat.not_le.2 hlong), if_neg (Nat.not_le.2 hleft)]

theorem DueQuestion.carried_open {hours n : Nat} {h : Hours} (htoday : q.today < lastDay)
    (hn : q.tables.forwardSearch (q.today + 1) (q.today + 21) = some n) (hopen : q.tables.dayHours n = some h) :
    q.carried hours = ⟨⟨n, some (min (h.opening + 60 * hours) h.closing)⟩, false⟩ := by
  simp only [carried, if_pos htoday, hn, hopen, Option.getD_some]

theorem DueQuestion.carried_missed {hours : Nat} (htoday : q.today < lastDay)
    (hn : q.tables.forwardSearch (q.today + 1) (q.today + 21) = none) :
    q.carried hours = ⟨⟨q.today + 1, some (min (60 * hours) 1439)⟩, true⟩ := by
  simp only [carried, if_pos htoday, hn]

theorem DueQuestion.carried_lastDay {hours : Nat} (htoday : lastDay ≤ q.today) : q.carried hours = ⟨⟨lastDay, some 1439⟩, true⟩ :=
  if_neg (Nat.not_lt.2 htoday)

end

/-! ## Pickup-by days (R115) -/

theorem Desk.shelfDays_eq (d : Desk) (hold : Code) : d.shelfDays hold = match d.borrower hold with
    | some b => (d.category b.category).shelfDays
    | none => match classifyCode d.tables.prefixes hold with
      | some (.borrower category) => (d.category category).shelfDays
      | _ => 7 := by
  unfold shelfDays classifiedCategory
  cases d.borrower hold with
  | some b => rfl
  | none =>
    cases classifyCode d.tables.prefixes hold with
    | none => rfl
    | some c => cases c <;> rfl

end Sys2Proof.Machine

namespace Sys2Proof.Proofs
open Sys2Proof.Machine

/-- Settles O47: the branches of a day loan, of an hourly loan and its cap, of a renewal, and of a pickup-by day. -/
theorem duesAreReckoned : Obligations.DuesAreReckoned := by
  unfold Obligations.DuesAreReckoned
  refine ⟨fun q r => ?dues, fun d expiryDay => rfl, fun d hold => ?pickup⟩
  case dues =>
    intro today capDay capped
    have hcapped : q.cappedDay = capped := by
      change (q.tables.backwardSearch capDay (max today (capDay - 21))).getD capDay = capped
      dsimp only [capped]
      cases q.tables.backwardSearch capDay (max today (capDay - 21)) <;> rfl
    refine ⟨fun hkind => ?days, fun hkind => ?hours, fun current => ⟨DueQuestion.renewalDue_later, DueQuestion.renewalDue_stands⟩⟩
    case days =>
      intro raw found day
      rw [DueQuestion.loanDue_days hkind, DueQuestion.dayLoan_eq, Tables.closureSearch_eq, hcapped]
      exact ⟨fun h => if_pos h, fun h => if_neg (Nat.not_le.2 h)⟩
    case hours =>
      intro minutes carried
      have heq := DueQuestion.loanDue_hours (q := q) hkind
      refine ⟨fun h hopen => ⟨fun hfits => heq.trans (DueQuestion.hourlyLoan_fits hopen hfits),
        fun hlong hleft => heq.trans (DueQuestion.hourlyLoan_cut hopen hlong hleft)⟩, fun hover => ?_⟩
      have hloan : q.loanDue r = q.capHourly (q.carried r.period) :=
        heq.trans (DueQuestion.hourlyLoan_carried hover)
      have hcap {day minute : Nat} {missed : Bool} (h : q.carried r.period = ⟨⟨day, some minute⟩, missed⟩) : carried day minute missed := by
        rw [h] at hloan
        refine ⟨fun hday => hloan.trans (DueQuestion.capHourly_within hday), fun hday hc => hloan.trans ?_, fun hday hc => hloan.trans ?_⟩
        · rw [DueQuestion.capHourly_today (a := ⟨⟨day, some minute⟩, missed⟩) hday (hcapped.trans hc), hcapped]
          rfl
        · rw [DueQuestion.capHourly_later (a := ⟨⟨day, some minute⟩, missed⟩) hday (hcapped ▸ hc), hcapped]
          rfl
      exact ⟨fun htoday => ⟨fun n h hn hopen => hcap (DueQuestion.carried_open htoday hn hopen),
          fun hn => hcap (DueQuestion.carried_missed htoday hn)⟩,
        fun htoday => hcap (DueQuestion.carried_lastDay htoday)⟩
  case pickup =>
    intro shelfDays start
    have hpickup : d.pickupDay hold = d.tables.closureSearch start := by
      have hdays : d.shelfDays hold = shelfDays := d.shelfDays_eq hold
      rw [Desk.pickupDay, hdays]
      rfl
    rw [hpickup]
    exact ⟨fun day h => Tables.closureSearch_of_some h, fun h => Tables.closureSearch_of_none h⟩

end Sys2Proof.Proofs
end

section
/-! PROOF. The checks of a loan and of a renewal (R87, R89, R95), in order and one by one. -/

namespace Sys2Proof.Machine

/-! ## Checks in order -/

/-- None of the checks fails. -/
abbrev Check.AllPass (cs : List Check) : Prop := ∀ c ∈ cs, c.fails = false

section
variable {armed : Bool} {passed : Option RefusalReason}

theorem judge_append {before : List Check} (h : Check.AllPass before) (rest : List Check) :
    judge armed passed (before ++ rest) = judge armed passed rest := by
  induction before with
  | nil => rfl
  | cons c cs ih =>
    have hc : c.fails = false := h c List.mem_cons_self
    rw [List.cons_append, judge, hc]
    exact ih fun c hc => h c (List.mem_cons_of_mem _ hc)

theorem judge_allPass {checks : List Check} (h : Check.AllPass checks) : judge armed passed checks = .made passed := by
  have hall := judge_append (armed := armed) (passed := passed) h []
  rwa [List.append_nil] at hall

theorem judge_refused {c : Check} {cs : List Check} (hc : c.fails = true)
    (h : armed = false ∨ c.overridable = false ∨ passed.isSome = true) : judge armed passed (c :: cs) = .refused c.reason := by
  have hno : (armed && c.overridable && passed.isNone) = false := by
    rcases h with h | h | h
    · rw [h]
      rfl
    · rw [h, Bool.and_false, Bool.false_and]
    · rw [← Option.not_isSome, h, Bool.not_true, Bool.and_false]
  simp only [judge, hc, hno, Bool.not_true, Bool.false_eq_true, if_false]

theorem judge_passedOver {c : Check} {cs : List Check} (hc : c.fails = true) (h : c.overridable = true) :
    judge true none (c :: cs) = judge true (some c.reason) cs := by
  simp only [judge, hc, h, Option.isNone_none, Bool.not_true, Bool.false_eq_true, if_false, Bool.and_self, if_true]

end

/-! ## What a check asks -/

theorem blockWinnerIs_iff {winner : Option BlockEntry} {a : BlockAction} :
    blockWinnerIs winner a = true ↔ ∃ e, winner = some e ∧ e.action = a := by
  cases winner <;> simp [blockWinnerIs]

theorem not_loanRoom_iff (d : Desk) : (!d.loanRoom) = true ↔ 16384 - d.journal.held.length ≤ d.settings.returnReserve := by
  rw [Bool.not_eq_true', ← Bool.not_eq_true, d.loanRoom_iff, Nat.not_lt]

theorem limit_reached_iff {limit n : Nat} : (limit != 0 && decide (limit ≤ n)) = true ↔ limit ≠ 0 ∧ limit ≤ n := by
  simp

theorem optionalLimit_reached_iff {α : Type} {rule : Option α} {limit : α → Nat} {n : Nat} :
    ((rule.map limit).getD 0 != 0 && decide ((rule.map limit).getD 0 ≤ n)) = true ↔ ∃ r, rule = some r ∧ limit r ≠ 0 ∧ limit r ≤ n := by
  cases rule <;> simp

theorem Session.lists_iff {x : Session} {item : Code} : x.lists item = true ↔ ∃ e ∈ x.items, e.code = item := by
  simp [lists]

theorem Desk.lentClass_eq (d : Desk) (code : Code) : d.lentClass code =
    match (d.item code).bind ItemEntry.itemClass with
      | some n => some n
      | none => match classifyCode d.tables.prefixes code with
        | some (.item n) => some n
        | _ => none := by
  unfold lentClass classifiedItemClass
  cases (d.item code).bind ItemEntry.itemClass with
  | some n => rfl
  | none =>
    cases classifyCode d.tables.prefixes code with
    | none => rfl
    | some c => cases c <;> rfl

section
variable {entry : Option ItemEntry} {borrower : Code}

theorem notLendable_iff : (entry.map ItemEntry.status == some .reference || entry.map ItemEntry.status == some .withdrawn) = true ↔
    ∃ e, entry = some e ∧ (e.status = .reference ∨ e.status = .withdrawn) := by
  cases entry <;> simp

theorem statusCheck_iff : (match entry.map ItemEntry.status with | some (.missing _) => true | _ => false) = true ↔
    ∃ e hold, entry = some e ∧ e.status = .missing hold := by
  rcases entry with - | ⟨code, cls, status⟩
  · simp
  · cases status <;> simp

theorem onLoanOther_iff :
    (match entry.map ItemEntry.status with | some (.onLoan holder _ _ _) => holder != borrower | _ => false) = true ↔
      ∃ e holder due n hold, entry = some e ∧ e.status = .onLoan holder due n hold ∧ holder ≠ borrower := by
  rcases entry with - | ⟨code, cls, status⟩
  · simp
  · cases status <;> simp

theorem alreadyOnLoan_iff :
    (match entry.map ItemEntry.status with | some (.onLoan holder _ _ _) => holder == borrower | _ => false) = true ↔
      ∃ e due n hold, entry = some e ∧ e.status = .onLoan borrower due n hold := by
  rcases entry with - | ⟨code, cls, status⟩
  · simp
  · cases status <;> simp

theorem heldForOther_iff : (match entry.map ItemEntry.status with
      | some (.holdPending hold) => hold != borrower
      | some (.onHoldShelf hold _) => hold != borrower
      | _ => false) = true ↔
    ∃ e hold, entry = some e ∧ hold ≠ borrower ∧ (e.status = .holdPending hold ∨ ∃ day, e.status = .onHoldShelf hold day) := by
  rcases entry with - | ⟨code, cls, status⟩
  · simp
  · cases status <;> simp

theorem notOnLoanToBorrower_iff : (((entry.map ItemEntry.status).getD .reference).holder != some borrower) = true ↔
    ¬ ∃ e due n hold, entry = some e ∧ e.status = .onLoan borrower due n hold := by
  rcases entry with - | ⟨code, cls, status⟩
  · simp [ItemStatus.holder]
  · cases status <;> simp [ItemStatus.holder]

theorem renewLimit_iff {rule : Option LoanRule} :
    decide ((rule.map LoanRule.renewalsAllowed).getD 0 ≤ ((entry.map ItemEntry.status).getD .reference).renewalsUsed) = true ↔
      ∀ r, rule = some r → r.renewalsAllowed ≤ (entry.map fun e => e.status.renewalsUsed).getD 0 := by
  have hused : ((entry.map ItemEntry.status).getD .reference).renewalsUsed = (entry.map fun e => e.status.renewalsUsed).getD 0 := by
    cases entry <;> rfl
  rw [hused]
  cases rule <;> simp

theorem statusHold_iff : ((entry.map ItemEntry.status).getD .reference).hold.isSome = true ↔
    ∃ e hold, entry = some e ∧ e.status.hold = some hold := by
  cases entry <;> simp [Option.isSome_iff_exists, ItemStatus.hold]

end

end Sys2Proof.Machine

namespace Sys2Proof.Proofs
open Sys2Proof.Machine

/-- Settles O48: the judgement by the first failures, and each check's question. -/
theorem checksRunInOrder : Obligations.ChecksRunInOrder := by
  unfold Obligations.ChecksRunInOrder
  refine ⟨fun armed checks => ?order, fun d x item scanned => ?questions⟩
  case order =>
    intro passed
    refine ⟨judge_allPass, fun before c after hchecks hbefore hc => ⟨fun h => ?_, fun harmed hover => ⟨fun hafter => ?_,
      fun between o rest hafter hbetween ho => ?_⟩⟩⟩
    · rw [hchecks, judge_append hbefore, judge_refused hc (h.imp_right .inl)]
    · rw [hchecks, judge_append hbefore, harmed, judge_passedOver hc hover, judge_allPass hafter]
    · rw [hchecks, judge_append hbefore, harmed, judge_passedOver hc hover, hafter, judge_append hbetween,
        judge_refused ho (.inr (.inr rfl))]
  case questions =>
    intro b c entry itemClass rule blocked noRoom fines classOf lent lentOfClass are
    have hclass : d.lentClass = classOf := funext d.lentClass_eq
    have hclasses : d.lentOfClass x itemClass = lentOfClass := by rw [Desk.lentOfClass, hclass]
    refine ⟨.cons ⟨not_loanRoom_iff d, rfl, rfl⟩ <| .cons ⟨blockWinnerIs_iff, rfl, rfl⟩ <| .cons ⟨blockWinnerIs_iff, rfl, rfl⟩ <|
      .cons ⟨decide_eq_true_iff, rfl, rfl⟩ <| .cons ⟨notLendable_iff, rfl, rfl⟩ <| .cons ⟨statusCheck_iff, rfl, rfl⟩ <|
      .cons ⟨onLoanOther_iff, rfl, rfl⟩ <| .cons ⟨alreadyOnLoan_iff, rfl, rfl⟩ <| .cons ⟨heldForOther_iff, rfl, rfl⟩ <|
      .cons ⟨Option.isNone_iff_eq_none, rfl, rfl⟩ <| .cons ⟨decide_eq_true_iff, rfl, rfl⟩ <| .cons ⟨?_, rfl, rfl⟩ <|
      .cons ⟨limit_reached_iff, rfl, rfl⟩ <| .cons ⟨?_, rfl, rfl⟩ <| .cons ⟨?_, rfl, rfl⟩ .nil,
      .cons ⟨Session.lists_iff, rfl, rfl⟩ <| .cons ⟨decide_eq_true_iff, rfl, rfl⟩ <| .cons ⟨notOnLoanToBorrower_iff, rfl, rfl⟩ <|
      .cons ⟨Option.isNone_iff_eq_none, rfl, rfl⟩ <| .cons ⟨renewLimit_iff, rfl, rfl⟩ <| .cons ⟨statusHold_iff, rfl, rfl⟩ <|
      .cons ⟨blockWinnerIs_iff, rfl, rfl⟩ <| .cons ⟨blockWinnerIs_iff, rfl, rfl⟩ <| .cons ⟨limit_reached_iff, rfl, rfl⟩ <|
      .cons ⟨not_loanRoom_iff d, rfl, rfl⟩ .nil⟩
    · rw [← hclasses]
      exact optionalLimit_reached_iff
    · exact Bool.and_eq_true_iff.trans (and_congr_right fun _ => decide_eq_true_iff)
    · exact Bool.and_eq_true_iff.trans (and_congr Option.isNone_iff_eq_none decide_eq_true_iff)

end Sys2Proof.Proofs
end

section
/-! PROOF. What loans, renewals and returns read back after their writes: entries, borrowers, records and prompts (R41, R90, R93,
R122, R155). -/

namespace Sys2Proof.Machine

/-! ## Prompts that stay pending -/

theorem Table.mem_put_self {α : Type} {key : α → Nat} (e : α) (t : List α) : e ∈ Table.put key e t := by
  obtain ⟨hmem, -⟩ := Table.find_some (Table.find_put_same (key := key) e t)
  exact hmem

theorem Table.mem_put_of_ne {α : Type} {key : α → Nat} {e x : α} {t : List α} (hx : x ∈ t) (hne : key x ≠ key e) :
    x ∈ Table.put key e t := by
  induction t with
  | nil => cases hx
  | cons a as ih =>
    rw [Table.put]
    split
    · exact List.mem_cons_of_mem _ hx
    · split
      · next heq =>
        rcases List.mem_cons.1 hx with rfl | hx
        · exact absurd heq.symm hne
        · exact List.mem_cons_of_mem _ hx
      · rcases List.mem_cons.1 hx with rfl | hx
        · exact List.mem_cons_self
        · exact List.mem_cons_of_mem _ (ih hx)

/-- The prompt is pending at the station. -/
abbrev Desk.Pending (d : Desk) (st : StationId) (p : Prompt) : Prop := p ∈ (d.arbiters.get st).pending

theorem Desk.pending_of_arbiters {a b : Desk} (h : b.arbiters = a.arbiters) {st : StationId} {p : Prompt} (hp : a.Pending st p) :
    b.Pending st p := by rwa [Pending, h]

theorem Desk.post_pending_same (d : Desk) (st : StationId) (p : Prompt) : (d.post st p).Pending st p := by
  simp only [Pending, post, onArbiter, PerStation.get_set_same, Arbiter.post, Arbiter.reselect_pending]
  exact Table.mem_put_self p _

section
variable {d : Desk} {st : StationId} {p : Prompt}

theorem Desk.Pending.post (h : d.Pending st p) (o : StationId) {q : Prompt} (hq : p.source ≠ q.source) : (d.post o q).Pending st p := by
  simp only [Pending, Desk.post, onArbiter, PerStation.get_set]
  split
  · next heq =>
    rw [Arbiter.post, Arbiter.reselect_pending]
    exact Table.mem_put_of_ne (heq ▸ h) (Prompt.key_ne_iff.2 hq)
  · exact h

theorem Desk.Pending.removePrompt (h : d.Pending st p) (o : StationId) {s : Source} (hs : p.source ≠ s) :
    (d.removePrompt o s).Pending st p := by
  simp only [Pending, Desk.removePrompt, onArbiter, PerStation.get_set]
  split
  · next heq =>
    rw [Arbiter.remove, Arbiter.reselect_pending]
    refine List.mem_filter.2 ⟨heq ▸ h, ?_⟩
    simpa [Prompt.key] using Source.number_ne_iff.2 hs
  · exact h

/-- A report of JOURNAL_FULL leaves the prompts of the other sources. -/
theorem Desk.Pending.tellJournalFull (h : d.Pending st p) (hp : p.source ≠ .journalFull) (before now : Bool) :
    (d.tellJournalFull before now).Pending st p := by
  unfold Desk.tellJournalFull
  split
  · refine eachStation_induct (P := fun d => d.Pending st p) (fun d o hd => ?_) h
    split
    · exact hd.post o hp
    · exact hd
  · split
    · refine eachStation_induct (P := fun d => d.Pending st p) (fun d o hd => ?_) h
      split
      · exact hd.removePrompt o hp
      · exact hd
    · exact h

theorem Desk.Pending.append (h : d.Pending st p) (hp : p.source ≠ .journalFull) (station : Option StationId) (flags : RecordFlags)
    (body : RecordBody) : (d.append station flags body).Pending st p := by
  have hevaluate {e : Desk} (he : e.Pending st p) : e.evaluateJournal.Pending st p :=
    (pending_of_arbiters (by simp) he).tellJournalFull hp _ _
  have hwritten : (d.written station flags body).Pending st p := h
  cases hreserved : body.reservedRoom
  · rw [append_plain hreserved]
    split
    · exact hevaluate hwritten
    · exact pending_of_arbiters (by simp) h
  · rw [append_reserved hreserved]
    split
    · exact hevaluate hwritten
    · exact h

end

/-! ## Entries of the item and borrower tables -/

theorem Desk.item_of_items {a b : Desk} (h : b.tables.items = a.tables.items) (code : Code) : b.item code = a.item code := by
  simp only [item, h]

theorem Desk.item_putItem (d : Desk) (e : ItemEntry) (code : Code) :
    (d.putItem e).item code = if code = e.code then some e else d.item code := by
  split
  · next h =>
    subst h
    exact Table.find_put_same e _
  · next h => exact Table.find_put_other e _ fun hrank => h (Code.rank_inj hrank)

theorem Desk.item_eraseItem (d : Desk) (code other : Code) :
    (d.eraseItem code).item other = if other = code then none else d.item other := by
  split
  · next h =>
    subst h
    exact Table.find_erase_same _ _
  · next h => exact Table.find_erase_other _ fun hrank => h (Code.rank_inj hrank)

theorem Desk.item_code {d : Desk} {code : Code} {e : ItemEntry} (h : d.item code = some e) : e.code = code :=
  Code.rank_inj (Table.find_some h).2

theorem Desk.borrower_card {d : Desk} {card : Code} {b : Borrower} (h : d.borrower card = some b) : b.card = card :=
  Code.rank_inj (Table.find_some h).2

theorem Desk.borrower_of_borrowers {a b : Desk} (h : b.tables.borrowers = a.tables.borrowers) (card : Code) :
    b.borrower card = a.borrower card := by
  simp only [borrower, h]

/-- R41: a change of one borrower's entry, read back. -/
theorem Desk.borrower_changeBorrower (d : Desk) (card : Code) {f : Borrower → Borrower} (hf : ∀ b, (f b).card = b.card) (other : Code) :
    (d.changeBorrower card f).borrower other = (d.borrower other).map fun b => if other = card then f b else b := by
  unfold changeBorrower
  split
  · next b hb =>
    have hcard : (f b).card = card := (hf b).trans (borrower_card hb)
    by_cases h : other = card
    · subst h
      have hput : (d.putBorrower (f b)).borrower other = some (f b) := hcard ▸ d.borrower_putBorrower (f b)
      rw [hput, hb]
      simp
    · have hput : (d.putBorrower (f b)).borrower other = d.borrower other :=
        Table.find_put_other _ _ fun hrank => h ((Code.rank_inj hrank).trans hcard)
      rw [hput]
      simp [h]
  · next hb =>
    by_cases h : other = card
    · subst h
      rw [hb]
      rfl
    · simp [h]

theorem Desk.changeBorrower_tables (d : Desk) (card : Code) (f : Borrower → Borrower) :
    (d.changeBorrower card f).tables = { d.tables with borrowers := (d.changeBorrower card f).tables.borrowers } := by
  unfold changeBorrower
  split <;> rfl

theorem Desk.changeBorrower_items (d : Desk) (card : Code) (f : Borrower → Borrower) :
    (d.changeBorrower card f).tables.items = d.tables.items := by
  rw [changeBorrower_tables]

/-! ## Records -/

theorem Desk.recordFor_congr {a b : Desk} (hjournal : b.journal = a.journal) (hclock : b.clock = a.clock) (hlink : b.link = a.link)
    (hsettings : b.settings = a.settings) (station : Option StationId) (flags : RecordFlags) (body : RecordBody) :
    b.recordFor station flags body = a.recordFor station flags body := by
  simp only [recordFor, isOffline, syncState, hjournal, hclock, hlink, hsettings]

/-- A record that has room is the newest of the journal. -/
theorem Desk.append_journal_of_room {d : Desk} (hroom : d.loanRoom = true) (station : Option StationId) (flags : RecordFlags)
    (body : RecordBody) : (d.append station flags body).journal = d.journal.add (d.recordFor station flags body) := by
  have hany : d.anyRoom = true := by
    have hloan := d.loanRoom_iff.1 hroom
    exact d.anyRoom_iff.2 (by omega)
  have hwritten : (d.written station flags body).evaluateJournal.journal = d.journal.add (d.recordFor station flags body) := by
    simp only [evaluateJournal_keeps, written]
  cases hreserved : body.reservedRoom
  · rw [append_plain hreserved, if_pos hany, hwritten]
  · rw [append_reserved hreserved, if_pos hroom, hwritten]

theorem Desk.loanRoom_congr {a b : Desk} (hjournal : b.journal = a.journal) (hsettings : b.settings = a.settings) :
    b.loanRoom = a.loanRoom := by
  simp only [loanRoom, hjournal, hsettings]

/-! ## The judgement and its checks -/

theorem judge_refused_mem {armed : Bool} {passed : Option RefusalReason} {checks : List Check} {r : RefusalReason}
    (h : judge armed passed checks = .refused r) : ∃ c ∈ checks, c.reason = r := by
  induction checks generalizing passed with
  | nil => cases h
  | cons c cs ih =>
    rw [judge] at h
    split at h
    · obtain ⟨o, ho, hr⟩ := ih h
      exact ⟨o, List.mem_cons_of_mem _ ho, hr⟩
    · split at h
      · obtain ⟨o, ho, hr⟩ := ih h
        exact ⟨o, List.mem_cons_of_mem _ ho, hr⟩
      · exact ⟨c, List.mem_cons_self, by injection h⟩

/-- A check that no override passes over holds when the decision is made. -/
theorem judge_made_mem {armed : Bool} {passed made : Option RefusalReason} {checks : List Check}
    (h : judge armed passed checks = .made made) {c : Check} (hc : c ∈ checks) (hover : c.overridable = false) : c.fails = false := by
  induction checks generalizing passed with
  | nil => cases hc
  | cons o os ih =>
    rcases List.mem_cons.1 hc with rfl | hmem
    · exact (judge_made_cons h hover).1
    · rw [judge] at h
      split at h
      · exact ih h hmem
      · split at h
        · exact ih h hmem
        · cases h

end Sys2Proof.Machine
end

section
/-! PROOF. Loans (R87 to R90). -/

namespace Sys2Proof.Machine

/-! ## Refusals (R88) -/

section
variable {d : Desk} {st : StationId} {x : Session} {item : Code} {act : RefusedAct}

theorem Desk.refuseItem_alreadyInSession :
    d.refuseItem st x item .alreadyInSession act = d.post st (.loanRefused .alreadyInSession none) := rfl

theorem Desk.refuseItem_tableFull : d.refuseItem st x item .tableFull act =
    ((d.raiseAlarm .tableFull).post st (.loanRefused .tableFull none)).append (some st)
      { RecordFlags.none with provisional := x.provisional } (.refusal x.borrower item .tableFull act) := rfl

theorem Desk.refuseItem_other {r : RefusalReason} (hfull : r ≠ .tableFull) (hlisted : r ≠ .alreadyInSession) :
    d.refuseItem st x item r act = (d.post st (.loanRefused r (d.refusalBlockReason x.borrower r))).append (some st)
      { RecordFlags.none with provisional := x.provisional } (.refusal x.borrower item r act) := by
  simp only [refuseItem, beq_iff_eq, if_neg hfull, if_neg hlisted]
  rfl

theorem Desk.refusalBlockReason_eq (d : Desk) (card : Code) (r : RefusalReason) : d.refusalBlockReason card r =
    if r = .blocked ∨ r = .refer then (d.blockCheck card).map BlockEntry.reason else none := by
  simp only [refusalBlockReason, Bool.or_eq_true, beq_iff_eq]

/-- A refusal other than ALREADY_IN_SESSION: the prompt with the block's reason, and the record. -/
theorem Desk.refuseItem_eq {r : RefusalReason} (hlisted : r ≠ .alreadyInSession) : d.refuseItem st x item r act =
    ((if r = .tableFull then d.raiseAlarm .tableFull else d).post st (.loanRefused r (d.refusalBlockReason x.borrower r))).append
      (some st) { RecordFlags.none with provisional := x.provisional } (.refusal x.borrower item r act) := by
  by_cases hfull : r = .tableFull
  · subst hfull
    exact refuseItem_tableFull
  · rw [refuseItem_other hfull hlisted, if_neg hfull]

theorem Desk.refuseItem_tables (r : RefusalReason) : (d.refuseItem st x item r act).tables = d.tables := by
  unfold refuseItem
  dsimp only
  split <;> split <;> simp

theorem Desk.refuseItem_stations (r : RefusalReason) : (d.refuseItem st x item r act).stations = d.stations := by
  unfold refuseItem
  dsimp only
  split <;> split <;> simp

theorem Desk.refuseItem_pending {r : RefusalReason} (hlisted : r ≠ .alreadyInSession) :
    (d.refuseItem st x item r act).Pending st (.loanRefused r (d.refusalBlockReason x.borrower r)) := by
  rw [refuseItem_eq hlisted]
  exact (post_pending_same _ st _).append (by simp [Prompt.source]) _ _ _

end

/-! ## The checks of a loan that come first (R87) -/

theorem Desk.listedElsewhere_iff (d : Desk) (st : StationId) (code : Code) :
    d.listedElsewhere st code = true ↔ ∃ o, o ≠ st ∧ (d.context o).lists code = true := by
  rw [listedElsewhere, List.any_eq_true]
  constructor
  · rintro ⟨o, -, ho⟩
    rw [Bool.and_eq_true, bne_iff_ne] at ho
    exact ⟨o, ho⟩
  · rintro ⟨o, ho⟩
    refine ⟨o, by cases o <;> decide, ?_⟩
    rwa [Bool.and_eq_true, bne_iff_ne]

theorem Desk.takeItem_loan {d : Desk} {st : StationId} {x : Session} (hx : d.context st = .opened x)
    (hmode : (d.stations.get st).mode = .loan) (item : Code) (scanned : Nat) : d.takeItem st item scanned = d.loan st x item scanned := by
  rw [takeItem_opened hx, takeItemOpen, hmode]

section
variable {d : Desk} {st : StationId} {x : Session} {item : Code} {scanned : Nat}

theorem Desk.loan_sessionFull (h : 24 ≤ x.items.length) : d.loan st x item scanned = d.refuseItem st x item .sessionFull .loan :=
  if_pos h

theorem Desk.loan_listed (hroom : x.items.length < 24) (h : ∃ e ∈ x.items, e.code = item) :
    d.loan st x item scanned = d.refuseItem st x item .alreadyInSession .loan :=
  (if_neg (Nat.not_le.2 hroom)).trans (if_pos (Session.lists_iff.2 h))

theorem Desk.loan_elsewhere (hroom : x.items.length < 24) (hlisted : ¬ ∃ e ∈ x.items, e.code = item)
    (h : ∃ o, o ≠ st ∧ (d.context o).lists item = true) : d.loan st x item scanned = d.refuseItem st x item .inUse .loan :=
  (if_neg (Nat.not_le.2 hroom)).trans ((if_neg (mt Session.lists_iff.1 hlisted)).trans (if_pos ((d.listedElsewhere_iff st item).2 h)))

/-- The checks that follow the lapse decide. -/
theorem Desk.loan_judged (hroom : x.items.length < 24) (hlisted : ¬ ∃ e ∈ x.items, e.code = item)
    (h : ¬ ∃ o, o ≠ st ∧ (d.context o).lists item = true) : d.loan st x item scanned =
      match judge x.arm.isSome none ((d.lapseAtRead st item).loanChecks x item scanned) with
      | .refused r => (d.lapseAtRead st item).refuseItem st x item r .loan
      | .made passed => (d.lapseAtRead st item).lend st x item scanned passed :=
  (if_neg (Nat.not_le.2 hroom)).trans ((if_neg (mt Session.lists_iff.1 hlisted)).trans (if_neg (mt (d.listedElsewhere_iff st item).1 h)))

end

theorem Desk.loanChecks_reason {d : Desk} {x : Session} {item : Code} {scanned : Nat} {c : Check} (h : c ∈ d.loanChecks x item scanned) :
    c.reason ≠ .alreadyInSession := by
  have hall : ∀ c ∈ d.loanChecks x item scanned, c.reason ≠ .alreadyInSession := by
    unfold loanChecks
    simp only [List.forall_mem_cons]
    decide
  exact hall c h

/-! ## The loan's effects (R90) -/

/-- The desk with the loan in the tables. -/
def Desk.lentTables (d : Desk) (x : Session) (item : Code) (due : Due) : Desk :=
  ((d.putItem ⟨item, (d.item item).bind ItemEntry.itemClass, .onLoan x.borrower due 0 (keptHold (d.item item) x.borrower)⟩).leaveShelf
    (d.item item)).changeBorrower x.borrower Borrower.lendOne

/-- The hold borrower of an item on the hold shelf. -/
def shelfHold (entry : Option ItemEntry) : Option Code := match entry with
  | some ⟨_, _, .onHoldShelf hold _⟩ => some hold
  | _ => none

theorem Desk.leaveShelf_eq (d : Desk) (entry : Option ItemEntry) : d.leaveShelf entry = match shelfHold entry with
    | some hold => d.changeBorrower hold Borrower.holdDown
    | none => d := by
  rcases entry with - | ⟨code, cls, status⟩
  · rfl
  · cases status <;> rfl

section
variable (d : Desk) (x : Session) (item : Code) (due : Due)

theorem Desk.leaveShelf_tables (entry : Option ItemEntry) :
    (d.leaveShelf entry).tables = { d.tables with borrowers := (d.leaveShelf entry).tables.borrowers } := by
  rw [leaveShelf_eq]
  cases shelfHold entry with
  | none => rfl
  | some hold => exact d.changeBorrower_tables hold _

theorem Desk.leaveShelf_items (entry : Option ItemEntry) : (d.leaveShelf entry).tables.items = d.tables.items := by
  rw [leaveShelf_tables]

theorem Desk.lentTables_keeps : (d.lentTables x item due).journal = d.journal ∧ (d.lentTables x item due).clock = d.clock ∧
    (d.lentTables x item due).link = d.link ∧ (d.lentTables x item due).settings = d.settings ∧
    (d.lentTables x item due).stations = d.stations ∧ (d.lentTables x item due).stationSettings = d.stationSettings := by
  unfold lentTables
  rw [leaveShelf_eq]
  cases shelfHold (d.item item) <;> simp

theorem Desk.lentTables_item (code : Code) : (d.lentTables x item due).item code = if code = item
    then some ⟨item, (d.item item).bind ItemEntry.itemClass, .onLoan x.borrower due 0 (keptHold (d.item item) x.borrower)⟩
    else d.item code := by
  rw [lentTables, item_of_items (changeBorrower_items _ _ _),
    item_of_items (leaveShelf_items _ _), item_putItem]

theorem Desk.lentTables_tables : (d.lentTables x item due).tables =
    { d.tables with items := (d.lentTables x item due).tables.items, borrowers := (d.lentTables x item due).tables.borrowers } := by
  unfold lentTables
  rw [changeBorrower_tables, leaveShelf_tables]
  rfl

theorem Desk.lentTables_borrower (card : Code) : (d.lentTables x item due).borrower card = (d.borrower card).map fun b => { b with
      loansHeld := if card = x.borrower then min (b.loansHeld + 1) 99 else b.loansHeld
      holdsReady := if shelfHold (d.item item) = some card then b.holdsReady - 1 else b.holdsReady } := by
  rw [lentTables, borrower_changeBorrower (f := Borrower.lendOne) _ _ (fun _ => rfl), leaveShelf_eq]
  cases hshelf : shelfHold (d.item item) with
  | none =>
    rw [borrower_of_borrowers (a := d) rfl]
    refine congrArg (Option.map · (d.borrower card)) (funext fun b => ?_)
    by_cases hcard : card = x.borrower <;> simp [hcard, Borrower.lendOne]
  | some hold =>
    rw [borrower_changeBorrower (f := Borrower.holdDown) _ _ (fun _ => rfl), borrower_of_borrowers (a := d) rfl, Option.map_map]
    refine congrArg (Option.map · (d.borrower card)) (funext fun b => ?_)
    have hsome : (some hold = some card) = (card = hold) := propext (Option.some_inj.trans eq_comm)
    simp only [Function.comp_apply, hsome]
    split_ifs <;> rfl

end

/-! ## The session after a loan or a renewal (R89, R90) -/

theorem Desk.onSession_context {d : Desk} {st : StationId} {y : Session} (h : d.context st = .opened y) (f : Session → Session) :
    (d.onSession st f).context st = .opened (f y) := by
  rw [onSession_opened h]
  simp [context, onStation]

theorem Desk.desensitise_context (d : Desk) (st o : StationId) : (d.desensitise st).context o = d.context o := by
  by_cases h : o = st
  · subst h
    simp [desensitise, context, onStation]
  · simp [desensitise, context, onStation, PerStation.get_set_other _ _ h]

section
variable (d : Desk) (st : StationId) (card item : Code) (passed : Option RefusalReason)

theorem Desk.useArm_context {y : Session} (h : d.context st = .opened y) :
    (d.useArm st card item passed).context st = .opened { y with arm := if passed = none then y.arm else none } := by
  cases passed with
  | none => exact h
  | some r =>
    exact (context_of_stations (by simp only [useArm, raiseNotice_keeps]) st).trans (onSession_context h fun x => { x with arm := none })

theorem Desk.useArm_keeps : (d.useArm st card item passed).tables = d.tables ∧ (d.useArm st card item passed).journal = d.journal ∧
    (d.useArm st card item passed).stationSettings = d.stationSettings := by
  cases passed <;> simp [useArm]

theorem Desk.useArm_notice {r : RefusalReason} (hr : passed = some r) (hrouting : d.settings.routing.overrideUsed = true) :
    ∃ n ∈ (d.useArm st card item passed).notices, n.body = .overrideUsed st card item r := by
  subst hr
  have hon : (d.onSession st fun x => { x with arm := none }).settings.routing.get
      (NoticeBody.overrideUsed st card item r).kind = true := by
    simp only [onSession_keeps]
    exact hrouting
  rw [useArm, raiseNotice_on hon]
  exact ⟨_, Table.mem_put_self _ _, rfl⟩

end

/-! ## The desk after the loan -/

/-- The desk with the loan in the tables and in the journal. -/
def Desk.lentRecorded (d : Desk) (st : StationId) (x : Session) (item : Code) (passed : Option RefusalReason) (answer : DueAnswer) : Desk :=
  (d.lentTables x item answer.due).append (some st)
    { RecordFlags.none with overridden := passed.isSome, provisional := x.provisional, noOpenDay := answer.noOpenDay }
    (.loan x.borrower item answer.due)

/-- The desk with the loan in the session's list, the arm used. -/
def Desk.lentListed (d : Desk) (st : StationId) (x : Session) (item : Code) (passed : Option RefusalReason) (answer : DueAnswer) : Desk :=
  ((d.lentRecorded st x item passed answer).addEntry st
    (.lent item answer.due (d.lentRecorded st x item passed answer).journal.newest (d.item item))).useArm st x.borrower item passed

section
variable {d : Desk} {st : StationId} {x : Session} {item : Code} {passed : Option RefusalReason}

theorem Desk.lend_eq {scanned : Nat} {rule : LoanRule}
    (hrule : d.rule (d.sessionEntry x.borrower).category (effectiveClass (d.item item) scanned) = some rule) :
    d.lend st x item scanned passed =
      ((d.lentListed st x item passed ((d.dueQuestion (d.sessionEntry x.borrower).expiryDay).loanDue rule)).desensitise st).post st
        (.lent ((d.dueQuestion (d.sessionEntry x.borrower).expiryDay).loanDue rule).due) := by
  simp only [lend, hrule]
  rfl

variable (answer : DueAnswer)

theorem Desk.lentRecorded_stations : (d.lentRecorded st x item passed answer).stations = d.stations := by
  obtain ⟨-, -, -, -, hstations, -⟩ := d.lentTables_keeps x item answer.due
  rw [lentRecorded, ← hstations]
  simp

theorem Desk.lentRecorded_tables : (d.lentRecorded st x item passed answer).tables = (d.lentTables x item answer.due).tables := by
  simp [lentRecorded]

theorem Desk.lentRecorded_journal (hroom : d.loanRoom = true) : (d.lentRecorded st x item passed answer).journal =
    d.journal.add (d.recordFor (some st)
      { RecordFlags.none with overridden := passed.isSome, provisional := x.provisional, noOpenDay := answer.noOpenDay }
      (.loan x.borrower item answer.due)) := by
  obtain ⟨hjournal, hclock, hlink, hsettings, -⟩ := d.lentTables_keeps x item answer.due
  rw [lentRecorded, append_journal_of_room ((loanRoom_congr hjournal hsettings).trans hroom), hjournal,
    recordFor_congr hjournal hclock hlink hsettings]

theorem Desk.lentListed_keeps : (d.lentListed st x item passed answer).tables = (d.lentTables x item answer.due).tables ∧
    (d.lentListed st x item passed answer).journal = (d.lentRecorded st x item passed answer).journal ∧
    (d.lentListed st x item passed answer).stationSettings = d.stationSettings := by
  obtain ⟨htables, hjournal, hsettings⟩ := ((d.lentRecorded st x item passed answer).addEntry st
    (.lent item answer.due (d.lentRecorded st x item passed answer).journal.newest (d.item item))).useArm_keeps st x.borrower item passed
  obtain ⟨-, -, -, -, -, hstation⟩ := d.lentTables_keeps x item answer.due
  rw [lentListed, htables, hjournal, hsettings, ← lentRecorded_tables (st := st) (passed := passed)]
  refine ⟨?_, ?_, ?_⟩
  · simp [addEntry]
  · simp [addEntry]
  · simp [addEntry, lentRecorded, hstation]

theorem Desk.lentListed_context (hx : d.context st = .opened x) : (d.lentListed st x item passed answer).context st = .opened { x with
      items := x.items ++ [.lent item answer.due (d.lentRecorded st x item passed answer).journal.newest (d.item item)]
      arm := if passed = none then x.arm else none } := by
  have hrecorded : (d.lentRecorded st x item passed answer).context st = .opened x :=
    (context_of_stations (lentRecorded_stations answer) st).trans hx
  exact useArm_context _ _ _ _ _ (onSession_context hrecorded _)

theorem Desk.lentListed_notice {r : RefusalReason} (hr : passed = some r) (hrouting : d.settings.routing.overrideUsed = true) :
    ∃ n ∈ (d.lentListed st x item passed answer).notices, n.body = .overrideUsed st x.borrower item r := by
  refine useArm_notice _ _ _ _ _ hr ?_
  obtain ⟨-, -, -, hsettings, -⟩ := d.lentTables_keeps x item answer.due
  rw [← hrouting, ← hsettings]
  simp [addEntry, lentRecorded]

end

end Sys2Proof.Machine

namespace Sys2Proof.Proofs
open Sys2Proof.Machine

/-- Settles O49: the first three checks, the refusals of the others, and the loan's effects, part by part. -/
theorem loanTakesEffect : Obligations.LoanTakesEffect := by
  unfold Obligations.LoanTakesEffect
  intro d st x item scanned hsorted hx hmode a listed elsewhere refused
  have ha : a = d.loan st x item scanned := Desk.takeItem_loan hx hmode item scanned
  refine ⟨fun h => ?full, fun hroom h => ?listed, fun hroom hlisted h => ?elsewhere, fun hroom hlisted helse => ?judged⟩
  case full =>
    rw [ha, Desk.loan_sessionFull h, Desk.refuseItem_eq (by decide)]
    rfl
  case listed => rw [ha, Desk.loan_listed hroom h, Desk.refuseItem_alreadyInSession]
  case elsewhere =>
    rw [ha, Desk.loan_elsewhere hroom hlisted h, Desk.refuseItem_eq (by decide)]
    rfl
  case judged =>
    intro e borrower
    have hjudged := ha.trans (Desk.loan_judged hroom hlisted helse)
    have hstations : e.stations = d.stations := d.lapseAtRead_stations st item
    have hex : e.context st = .opened x := (Desk.context_of_stations hstations st).trans hx
    refine ⟨fun r hr => ?refusal, fun passed hmade => ?made⟩
    case refusal =>
      intro alarmed
      have har : a = e.refuseItem st x item r .loan := by rw [hjudged, hr]
      obtain ⟨c, hc, hreason⟩ := judge_refused_mem hr
      have hnot : r ≠ .alreadyInSession := hreason ▸ Desk.loanChecks_reason hc
      rw [har]
      refine ⟨?_, Desk.refuseItem_tables r, (Desk.context_of_stations (Desk.refuseItem_stations r) st).trans hex,
        Desk.refuseItem_pending hnot⟩
      rw [Desk.refuseItem_eq hnot, Desk.refusalBlockReason_eq]
    case made =>
      have har : a = e.lend st x item scanned passed := by rw [hjudged, hmade]
      have hchecked {c : Check} (hc : c ∈ e.loanChecks x item scanned) (hover : c.overridable = false) : c.fails = false :=
        judge_made_mem hmade hc hover
      have hjournal : e.loanRoom = true := by
        simpa using hchecked (c := ⟨!e.loanRoom, .journalFull, false⟩) (by simp [Desk.loanChecks]) rfl
      have hhas : (e.rule borrower.category (effectiveClass (e.item item) scanned)).isNone = false :=
        hchecked (c := ⟨(e.rule borrower.category (effectiveClass (e.item item) scanned)).isNone, .notLendable, false⟩)
          (by simp [Desk.loanChecks, borrower]) rfl
      obtain ⟨rule, hrule⟩ := Option.isSome_iff_exists.1 (Option.isNone_eq_false_iff.1 hhas)
      refine ⟨rule, hrule, ?_⟩
      intro answer record leaves
      have hlent : a = ((e.lentListed st x item passed answer).desensitise st).post st (.lent answer.due) := har.trans (Desk.lend_eq hrule)
      obtain ⟨htables, hrecorded, hsettings⟩ := Desk.lentListed_keeps (d := e) (st := st) (x := x) (item := item) (passed := passed) answer
      have hatables : a.tables = (e.lentTables x item answer.due).tables := by
        rw [hlent, ← htables]
        simp [Desk.desensitise]
      have hnewest := Desk.lentRecorded_journal (st := st) (x := x) (item := item) (passed := passed) answer hjournal
      have hajournal : a.journal = e.journal.add record := by
        rw [hlent, ← hnewest, ← hrecorded]
        simp [Desk.desensitise]
      have hacontext : a.context st = .opened { x with
          items := x.items ++ [.lent item answer.due record.seq (e.item item)], arm := if passed = none then x.arm else none } := by
        have hlisted := Desk.lentListed_context (item := item) (passed := passed) answer hex
        rw [hnewest] at hlisted
        rw [hlent]
        exact (Desk.context_of_stations (by simp) st).trans ((Desk.desensitise_context _ st st).trans hlisted)
      have hpad : (a.stations.get st).pad = .desensitising (d.stationSettings.get st).padPulse := by
        have hsame : e.stationSettings = d.stationSettings := by simp [e]
        rw [hlent, ← hsame, ← hsettings]
        simp [Desk.desensitise]
      refine ⟨?_, fun other hother => ?_, fun card => ?_, ?_, ?_, hacontext, hpad, ?_, fun r hr hrouting => ?_⟩
      · rw [Desk.item_of_items (congrArg Tables.items hatables), Desk.lentTables_item, if_pos rfl]
      · rw [Desk.item_of_items (congrArg Tables.items hatables), Desk.lentTables_item, if_neg hother]
      · rw [Desk.borrower_of_borrowers (congrArg Tables.borrowers hatables), Desk.lentTables_borrower]
        rfl
      · rw [hatables]
        exact Desk.lentTables_tables e x item answer.due
      · rw [hajournal]
        rfl
      · rw [hlent]
        exact Desk.post_pending_same _ st _
      · obtain ⟨n, hn, hbody⟩ := Desk.lentListed_notice (st := st) (x := x) (item := item) answer hr hrouting
        refine ⟨n, ?_, hbody⟩
        rw [hlent]
        simpa [Desk.desensitise] using hn

end Sys2Proof.Proofs
end

section
/-! PROOF. Renewals (R95, R96). -/

namespace Sys2Proof.Machine

theorem Desk.takeItem_renew {d : Desk} {st : StationId} {x : Session} (hx : d.context st = .opened x)
    (hmode : (d.stations.get st).mode = .renew) (item : Code) (scanned : Nat) :
    d.takeItem st item scanned = d.renewal st x item scanned := by
  rw [takeItem_opened hx, takeItemOpen, hmode]

theorem Desk.renewalChecks_reason {d : Desk} {x : Session} {item : Code} {scanned : Nat} {c : Check}
    (h : c ∈ d.renewalChecks x item scanned) : c.reason ≠ .tableFull := by
  have hall : ∀ c ∈ d.renewalChecks x item scanned, c.reason ≠ .tableFull := by
    unfold renewalChecks
    simp only [List.forall_mem_cons]
    decide
  exact hall c h

theorem Desk.renewalCount_lt (d : Desk) {n : Nat} (h : n < 9) : d.renewalCount n = n + 1 := if_pos h

/-! ## The station's pad -/

theorem Desk.onSession_pad (d : Desk) (st : StationId) (f : Session → Session) (o : StationId) :
    ((d.onSession st f).stations.get o).pad = (d.stations.get o).pad := by
  simp only [onSession, onStation, PerStation.get_set]
  split
  · next h => rw [h]
  · rfl

theorem Desk.useArm_pad (d : Desk) (st : StationId) (card item : Code) (passed : Option RefusalReason) (o : StationId) :
    ((d.useArm st card item passed).stations.get o).pad = (d.stations.get o).pad := by
  cases passed with
  | none => rfl
  | some r =>
    rw [useArm]
    simp only [raiseNotice_keeps]
    exact d.onSession_pad st _ o

/-! ## The desk after the renewal (R96) -/

/-- The desk with the new due in the item's entry. -/
def Desk.renewedTables (d : Desk) (e : ItemEntry) (used : Nat) : Desk := (d.putItem e).spendFree (decide (9 ≤ used))

section
variable (d : Desk) (e : ItemEntry) (used : Nat)

theorem Desk.renewedTables_keeps : (d.renewedTables e used).journal = d.journal ∧ (d.renewedTables e used).clock = d.clock ∧
    (d.renewedTables e used).link = d.link ∧ (d.renewedTables e used).settings = d.settings ∧
    (d.renewedTables e used).stations = d.stations ∧
    (d.renewedTables e used).tables = { d.tables with items := (d.renewedTables e used).tables.items } := by
  unfold renewedTables spendFree
  split <;> exact ⟨rfl, rfl, rfl, rfl, rfl, rfl⟩

theorem Desk.renewedTables_item (code : Code) :
    (d.renewedTables e used).item code = if code = e.code then some e else d.item code := by
  rw [← item_putItem]
  refine item_of_items ?_ code
  unfold renewedTables spendFree
  split <;> rfl

end

/-- The desk with the renewal in the tables and in the journal. -/
def Desk.renewedRecorded (d : Desk) (st : StationId) (x : Session) (e : ItemEntry) (used : Nat) (passed : Option RefusalReason)
    (answer : DueAnswer) : Desk :=
  (d.renewedTables e used).append (some st)
    { RecordFlags.none with overridden := passed.isSome, provisional := x.provisional, noOpenDay := answer.noOpenDay }
    (.renew x.borrower e.code answer.due)

/-- The desk with the renewal in the session's list, the arm used. -/
def Desk.renewedListed (d : Desk) (st : StationId) (x : Session) (e : ItemEntry) (used : Nat) (passed : Option RefusalReason)
    (answer : DueAnswer) : Desk :=
  ((d.renewedRecorded st x e used passed answer).addEntry st (.renewed e.code answer.due)).useArm st x.borrower e.code passed

section
variable {d : Desk} {st : StationId} {x : Session} {passed : Option RefusalReason}

theorem Desk.renew_eq {item : Code} {scanned used : Nat} {itemClass : Option Nat} {due : Due} {hold : Option Code} {rule : LoanRule}
    (hitem : d.item item = some ⟨item, itemClass, .onLoan x.borrower due used hold⟩)
    (hrule : d.rule (d.sessionEntry x.borrower).category (itemClass.getD scanned) = some rule) :
    d.renew st x item scanned passed =
      (d.renewedListed st x ⟨item, itemClass, .onLoan x.borrower ((d.dueQuestion (d.sessionEntry x.borrower).expiryDay).renewalDue rule
        due).due (d.renewalCount used) hold⟩ used passed ((d.dueQuestion (d.sessionEntry x.borrower).expiryDay).renewalDue rule due)).post
        st (.renewed ((d.dueQuestion (d.sessionEntry x.borrower).expiryDay).renewalDue rule due).due) := by
  have hclass : effectiveClass (some ⟨item, itemClass, .onLoan x.borrower due used hold⟩) scanned = itemClass.getD scanned := rfl
  simp only [renew, hitem, hclass, hrule]
  rfl

variable (e : ItemEntry) (used : Nat) (answer : DueAnswer)

theorem Desk.renewedRecorded_keeps : (d.renewedRecorded st x e used passed answer).stations = d.stations ∧
    (d.renewedRecorded st x e used passed answer).tables = (d.renewedTables e used).tables ∧
    (d.renewedRecorded st x e used passed answer).settings = d.settings := by
  obtain ⟨-, -, -, hsettings, hstations, -⟩ := d.renewedTables_keeps e used
  rw [← hstations, ← hsettings]
  simp [renewedRecorded]

theorem Desk.renewedRecorded_journal (hroom : d.loanRoom = true) : (d.renewedRecorded st x e used passed answer).journal =
    d.journal.add (d.recordFor (some st)
      { RecordFlags.none with overridden := passed.isSome, provisional := x.provisional, noOpenDay := answer.noOpenDay }
      (.renew x.borrower e.code answer.due)) := by
  obtain ⟨hjournal, hclock, hlink, hsettings, -⟩ := d.renewedTables_keeps e used
  rw [renewedRecorded, append_journal_of_room ((loanRoom_congr hjournal hsettings).trans hroom), hjournal,
    recordFor_congr hjournal hclock hlink hsettings]

theorem Desk.renewedListed_keeps : (d.renewedListed st x e used passed answer).tables = (d.renewedTables e used).tables ∧
    (d.renewedListed st x e used passed answer).journal = (d.renewedRecorded st x e used passed answer).journal ∧
    ((d.renewedListed st x e used passed answer).stations.get st).pad = (d.stations.get st).pad := by
  obtain ⟨htables, hjournal, -⟩ := ((d.renewedRecorded st x e used passed answer).addEntry st
    (.renewed e.code answer.due)).useArm_keeps st x.borrower e.code passed
  obtain ⟨hstations, hrecorded, -⟩ := renewedRecorded_keeps (d := d) (st := st) (x := x) (passed := passed) e used answer
  rw [renewedListed, htables, hjournal, useArm_pad, ← hrecorded, ← hstations, addEntry, onSession_pad]
  simp

theorem Desk.renewedListed_context (hx : d.context st = .opened x) : (d.renewedListed st x e used passed answer).context st = .opened
    { x with items := x.items ++ [.renewed e.code answer.due], arm := if passed = none then x.arm else none } := by
  obtain ⟨hstations, -, -⟩ := renewedRecorded_keeps (d := d) (st := st) (x := x) (passed := passed) e used answer
  exact useArm_context _ _ _ _ _ (onSession_context ((context_of_stations hstations st).trans hx) _)

theorem Desk.renewedListed_notice {r : RefusalReason} (hr : passed = some r) (hrouting : d.settings.routing.overrideUsed = true) :
    ∃ n ∈ (d.renewedListed st x e used passed answer).notices, n.body = .overrideUsed st x.borrower e.code r := by
  refine useArm_notice _ _ _ _ _ hr ?_
  obtain ⟨-, -, hsettings⟩ := renewedRecorded_keeps (d := d) (st := st) (x := x) (passed := passed) e used answer
  rw [← hrouting, ← hsettings]
  simp [addEntry]

end

end Sys2Proof.Machine

namespace Sys2Proof.Proofs
open Sys2Proof.Machine

/-- Settles O50: the refusals, and the renewal's effects, part by part. -/
theorem renewalTakesEffect : Obligations.RenewalTakesEffect := by
  unfold Obligations.RenewalTakesEffect
  intro d st x item scanned hsorted hx hmode e a borrower
  have ha : a = match judge x.arm.isSome none (e.renewalChecks x item scanned) with
      | .refused r => e.refuseItem st x item r .renew
      | .made passed => e.renew st x item scanned passed := Desk.takeItem_renew hx hmode item scanned
  have hstations : e.stations = d.stations := d.lapseAtRead_stations st item
  have hex : e.context st = .opened x := (Desk.context_of_stations hstations st).trans hx
  refine ⟨fun r hr => ?refusal, fun passed hmade => ?renews⟩
  case refusal =>
    intro told
    have har : a = e.refuseItem st x item r .renew := by rw [ha, hr]
    obtain ⟨c, hc, hreason⟩ := judge_refused_mem hr
    have hfull : r ≠ .tableFull := hreason ▸ Desk.renewalChecks_reason hc
    refine ⟨fun hlisted => ?_, fun hlisted => ?_⟩
    · subst hlisted
      exact har
    · rw [har, Desk.refuseItem_other hfull hlisted, Desk.refusalBlockReason_eq]
  case renews =>
    have har : a = e.renew st x item scanned passed := by rw [ha, hmade]
    have hchecked {c : Check} (hc : c ∈ e.renewalChecks x item scanned) (hover : c.overridable = false) : c.fails = false :=
      judge_made_mem hmade hc hover
    have hjournal : e.loanRoom = true := by
      simpa using hchecked (c := ⟨!e.loanRoom, .journalFull, false⟩) (by simp [Desk.renewalChecks]) rfl
    have hlent := hchecked (c := ⟨((e.item item).map ItemEntry.status |>.getD .reference).holder != some x.borrower,
      .notOnLoanToBorrower, false⟩) (by simp [Desk.renewalChecks]) rfl
    have hhas := hchecked (c := ⟨(e.rule borrower.category (effectiveClass (e.item item) scanned)).isNone, .notLendable, false⟩)
      (by simp [Desk.renewalChecks, borrower]) rfl
    obtain ⟨⟨code, itemClass, status⟩, due, used, hold, hitem, hstatus⟩ :=
      not_not.1 (mt notOnLoanToBorrower_iff.2 (Bool.eq_false_iff.1 hlent))
    obtain rfl : code = item := Desk.item_code hitem
    obtain rfl : status = .onLoan x.borrower due used hold := hstatus
    obtain ⟨rule, hrule⟩ := Option.isSome_iff_exists.1 (Option.isNone_eq_false_iff.1 hhas)
    rw [hitem] at hrule
    refine ⟨itemClass, due, used, hold, rule, hitem, hrule, ?_⟩
    intro answer record
    set entry : ItemEntry := ⟨code, itemClass, .onLoan x.borrower answer.due (e.renewalCount used) hold⟩ with hentry
    have hrenewed : a = (e.renewedListed st x entry used passed answer).post st (.renewed answer.due) :=
      har.trans (Desk.renew_eq hitem hrule)
    obtain ⟨htables, hrecorded, hpad⟩ :=
      Desk.renewedListed_keeps (d := e) (st := st) (x := x) (passed := passed) entry used answer
    have hatables : a.tables = (e.renewedTables entry used).tables := by
      rw [hrenewed, ← htables]
      simp
    refine ⟨⟨e.renewalCount used, ?_, e.renewalCount_lt⟩, fun other hother => ?_, ?_, ?_, ?_, ?_, ?_, fun r hr hrouting => ?_⟩
    · rw [Desk.item_of_items (congrArg Tables.items hatables), Desk.renewedTables_item, if_pos rfl]
    · rw [Desk.item_of_items (congrArg Tables.items hatables), Desk.renewedTables_item, if_neg hother]
    · obtain ⟨-, -, -, -, -, hwhole⟩ := e.renewedTables_keeps entry used
      rw [hatables]
      exact hwhole
    · have hajournal : a.journal = e.journal.add record := by
        rw [hrenewed, ← Desk.renewedRecorded_journal entry used answer hjournal, ← hrecorded]
        simp
      rw [hajournal]
      rfl
    · rw [hrenewed]
      exact (Desk.context_of_stations (by simp) st).trans (Desk.renewedListed_context entry used answer hex)
    · rw [← hstations, ← hpad, hrenewed]
      simp
    · rw [hrenewed]
      exact Desk.post_pending_same _ st _
    · obtain ⟨n, hn, hbody⟩ := Desk.renewedListed_notice (st := st) (x := x) entry used answer hr hrouting
      refine ⟨n, ?_, hbody⟩
      rw [hrenewed]
      simpa using hn

end Sys2Proof.Proofs
end

section
/-! PROOF. Returns (R91 to R94). -/

namespace Sys2Proof.Machine

/-! ## The journal grows at its end (R154) -/

theorem Desk.append_journal_prefix (d : Desk) (station : Option StationId) (flags : RecordFlags) (body : RecordBody) :
    d.journal.held <+: (d.append station flags body).journal.held := by
  have hwritten : d.journal.held <+: (d.written station flags body).evaluateJournal.journal.held := by
    simp [written, Journal.add]
  cases hreserved : body.reservedRoom
  · rw [append_plain hreserved]
    split
    · exact hwritten
    · simp
  · rw [append_reserved hreserved]
    split
    · exact hwritten
    · exact List.prefix_rfl

/-- A record outside the reserved kinds that has a place is the newest of the journal. -/
theorem Desk.append_journal_of_anyRoom {d : Desk} {body : RecordBody} (hroom : d.anyRoom = true) (hbody : body.reservedRoom = false)
    (station : Option StationId) (flags : RecordFlags) :
    (d.append station flags body).journal = d.journal.add (d.recordFor station flags body) := by
  rw [append_plain hbody, if_pos hroom]
  simp [written]

theorem Desk.handOver_journal_prefix (d : Desk) (j : SlipJob) : d.journal.held <+: (d.handOver j).journal.held := by
  unfold handOver
  split
  · exact append_journal_prefix d _ _ _
  · split
    · simp [enqueueJob]
    · split
      · exact append_journal_prefix d _ _ _
      · simp [deferSlip]

theorem Desk.anyRoom_congr {a b : Desk} (h : b.journal = a.journal) : b.anyRoom = a.anyRoom := by
  simp only [anyRoom, h]

/-! ## The end of every return (R94) -/

theorem Desk.listReturn_eq (d : Desk) (st : StationId) (item : Code) : d.listReturn st item =
    match d.context st with
    | .opened x =>
      if x.items.length < 24 then
        d.onStation st fun s => { s with context := .opened { x with items := x.items ++ [.returned item] } }
      else d
    | _ => d := by
  unfold listReturn
  cases hx : d.context st with
  | opened x =>
    simp only [addEntry, onSession_opened hx]
    rfl
  | _ => rfl

theorem Desk.concludeReturn_eq (d : Desk) (st : StationId) (item : Code) (loan : Option ReturnedLoan) :
    d.concludeReturn st item ((loan.map ReturnedLoan.fine).getD 0) =
      Desk.listReturn (match loan with
        | some l => if 0 < l.fine then d.post st (.returned l.fine) else d
        | none => d) st item := by
  cases loan <;> rfl

theorem Desk.isProvisional_of_stations {a b : Desk} (h : b.stations = a.stations) (st : StationId) :
    b.isProvisional st = a.isProvisional st := by
  simp only [isProvisional, context_of_stations h]

section
variable (d : Desk) (st : StationId) (item : Code)

theorem Desk.concludeReturn_keeps (fine : Nat) : (d.concludeReturn st item fine).tables = d.tables ∧
    (d.concludeReturn st item fine).journal = d.journal ∧
    ((d.concludeReturn st item fine).stations.get st).pad = (d.stations.get st).pad := by
  have hlist (d : Desk) : (d.listReturn st item).tables = d.tables ∧ (d.listReturn st item).journal = d.journal ∧
      ((d.listReturn st item).stations.get st).pad = (d.stations.get st).pad := by
    unfold listReturn
    split
    · split
      · exact ⟨by simp [addEntry], by simp [addEntry], onSession_pad d st _ st⟩
      · exact ⟨rfl, rfl, rfl⟩
    · exact ⟨rfl, rfl, rfl⟩
  obtain ⟨htables, hjournal, hpad⟩ := hlist (if 0 < fine then d.post st (.returned fine) else d)
  rw [concludeReturn, htables, hjournal, hpad]
  split <;> simp

/-! ## A return's effects (R93) -/

section
variable (found : Bool) (loan : Option ReturnedLoan)

theorem Desk.recordReturn_keeps : (d.recordReturn st item found loan).tables = d.tables ∧
    (d.recordReturn st item found loan).stationSettings = d.stationSettings := by
  simp [recordReturn]

variable {d} in
theorem Desk.recordReturn_journal (hroom : d.anyRoom = true) : (d.recordReturn st item found loan).journal =
    d.journal.add (d.recordFor (some st) (.given false (d.isProvisional st) found false) (.ret item loan)) :=
  append_journal_of_anyRoom hroom rfl _ _

theorem Desk.resensitise_pad : ((d.resensitise st).stations.get st).pad = .resensitising (d.stationSettings.get st).padPulse := by
  simp [resensitise, onStation]

variable {d} in
theorem Desk.returnPlain_effects (hroom : d.anyRoom = true) : (d.returnPlain st item found loan).tables = d.tables ∧
    d.journal.held ++ [d.recordFor (some st) (.given false (d.isProvisional st) found false) (.ret item loan)] <+:
      (d.returnPlain st item found loan).journal.held ∧
    ((d.returnPlain st item found loan).stations.get st).pad = .resensitising (d.stationSettings.get st).padPulse := by
  obtain ⟨htables, hjournal, hpad⟩ := ((d.recordReturn st item found loan).resensitise st).concludeReturn_keeps st item
    ((loan.map ReturnedLoan.fine).getD 0)
  obtain ⟨hrecorded, hsettings⟩ := d.recordReturn_keeps st item found loan
  refine ⟨htables.trans hrecorded, ?_, ?_⟩
  · rw [returnPlain, hjournal]
    exact (congrArg Journal.held (recordReturn_journal st item found loan hroom)).symm ▸ List.prefix_rfl
  · rw [returnPlain, hpad, resensitise_pad, hsettings]

/-- The desk with the item on the hold shelf. -/
def Desk.shelved (e : ItemEntry) (hold : Code) : Desk :=
  (d.putItem { e with status := .onHoldShelf hold (d.pickupDay hold).1 }).changeBorrower hold Borrower.holdUp

theorem Desk.shelved_keeps (e : ItemEntry) (hold : Code) : (d.shelved e hold).journal = d.journal ∧
    (d.shelved e hold).clock = d.clock ∧ (d.shelved e hold).link = d.link ∧ (d.shelved e hold).settings = d.settings ∧
    (d.shelved e hold).stations = d.stations ∧ (d.shelved e hold).stationSettings = d.stationSettings := by
  simp [shelved]

theorem Desk.shelved_item (e : ItemEntry) (hold code : Code) : (d.shelved e hold).item code =
    if code = e.code then some { e with status := .onHoldShelf hold (d.pickupDay hold).1 } else d.item code := by
  rw [shelved, item_of_items (changeBorrower_items _ _ _), item_putItem]

theorem Desk.shelved_borrower (e : ItemEntry) (hold card : Code) : (d.shelved e hold).borrower card =
    (d.borrower card).map fun b => if card = hold then b.holdUp else b := by
  rw [shelved, borrower_changeBorrower (f := Borrower.holdUp) _ _ (fun _ => rfl)]
  rfl

/-- The desk with the return and the routing in the journal. -/
def Desk.routedRecorded (e : ItemEntry) (hold : Code) : Desk :=
  ((d.shelved e hold).recordReturn st e.code found loan).append (some st) (.given false false false (d.pickupDay hold).2)
    (.holdRouted hold e.code (d.pickupDay hold).1)

/-- The desk with the pad, HOLD_FOR, the notice and the copy of the hold slip. -/
def Desk.routedAnnounced (e : ItemEntry) (hold : Code) : Desk :=
  ((((d.routedRecorded st found loan e hold).resensitise st).post st (.holdFor (Code.shortNumber hold) (d.pickupDay hold).1)).raiseNotice
    (.holdRouted st e.code hold)).keepCopy (holdSlip st hold e.code (d.pickupDay hold).1)

/-- The desk with the hold slip handed over. -/
def Desk.routedTold (e : ItemEntry) (hold : Code) : Desk :=
  (d.routedAnnounced st found loan e hold).handOver (holdSlip st hold e.code (d.pickupDay hold).1)

theorem Desk.returnRouted_eq (e : ItemEntry) (hold : Code) : d.returnRouted st e hold found loan =
    (d.routedTold st found loan e hold).concludeReturn st e.code ((loan.map ReturnedLoan.fine).getD 0) := rfl

theorem Desk.routedTold_keeps (e : ItemEntry) (hold : Code) : (d.routedTold st found loan e hold).tables = (d.shelved e hold).tables ∧
    ((d.routedTold st found loan e hold).stations.get st).pad = .resensitising (d.stationSettings.get st).padPulse := by
  obtain ⟨-, -, -, -, -, hsettings⟩ := d.shelved_keeps e hold
  have hstations : (d.routedTold st found loan e hold).stations = ((d.routedRecorded st found loan e hold).resensitise st).stations := by
    simp [routedTold, routedAnnounced]
  have htold : (d.routedTold st found loan e hold).tables = ((d.routedRecorded st found loan e hold).resensitise st).tables := by
    simp [routedTold, routedAnnounced]
  have hrecorded : (d.routedRecorded st found loan e hold).tables = (d.shelved e hold).tables := by
    simp [routedRecorded, recordReturn]
  have hkept : (d.routedRecorded st found loan e hold).stationSettings = d.stationSettings := by
    simp [routedRecorded, recordReturn, hsettings]
  refine ⟨htold.trans hrecorded, ?_⟩
  rw [hstations, resensitise_pad, hkept]

variable {d} in
theorem Desk.routedTold_journal (hroom : d.anyRoom = true) (e : ItemEntry) (hold : Code) :
    d.journal.held ++ [d.recordFor (some st) (.given false (d.isProvisional st) found false) (.ret e.code loan)] <+:
      (d.routedTold st found loan e hold).journal.held := by
  obtain ⟨hjournal, hclock, hlink, hsettings, hstations, -⟩ := d.shelved_keeps e hold
  have hreturned : ((d.shelved e hold).recordReturn st e.code found loan).journal.held =
      d.journal.held ++ [d.recordFor (some st) (.given false (d.isProvisional st) found false) (.ret e.code loan)] := by
    rw [recordReturn_journal st e.code found loan ((anyRoom_congr hjournal).trans hroom), recordFor_congr hjournal hclock hlink hsettings,
      isProvisional_of_stations hstations, hjournal]
    rfl
  have hrouted : ((d.shelved e hold).recordReturn st e.code found loan).journal.held <+:
      (d.routedRecorded st found loan e hold).journal.held := append_journal_prefix _ _ _ _
  have hannounced : (d.routedAnnounced st found loan e hold).journal = (d.routedRecorded st found loan e hold).journal := by
    simp [routedAnnounced, resensitise]
  rw [hreturned, ← hannounced] at hrouted
  exact hrouted.trans (handOver_journal_prefix _ _)

variable {d} in
theorem Desk.returnRouted_effects (hroom : d.anyRoom = true) (e : ItemEntry) (hold : Code) :
    (d.returnRouted st e hold found loan).tables = (d.shelved e hold).tables ∧
    d.journal.held ++ [d.recordFor (some st) (.given false (d.isProvisional st) found false) (.ret e.code loan)] <+:
      (d.returnRouted st e hold found loan).journal.held ∧
    ((d.returnRouted st e hold found loan).stations.get st).pad = .resensitising (d.stationSettings.get st).padPulse := by
  obtain ⟨htables, hjournal, hpad⟩ :=
    (d.routedTold st found loan e hold).concludeReturn_keeps st e.code ((loan.map ReturnedLoan.fine).getD 0)
  obtain ⟨htold, htoldPad⟩ := d.routedTold_keeps st found loan e hold
  rw [returnRouted_eq, htables, hjournal, hpad]
  exact ⟨htold, routedTold_journal st found loan hroom e hold, htoldPad⟩

end

end

theorem Desk.settleLoan_keeps (d : Desk) (l : ReturnedLoan) : (d.settleLoan l).journal = d.journal ∧
    (d.settleLoan l).clock = d.clock ∧ (d.settleLoan l).link = d.link ∧ (d.settleLoan l).settings = d.settings ∧
    (d.settleLoan l).stations = d.stations ∧ (d.settleLoan l).stationSettings = d.stationSettings ∧
    (d.settleLoan l).tables.items = d.tables.items := by
  refine ⟨?_, ?_, ?_, ?_, ?_, ?_, changeBorrower_items _ _ _⟩ <;> simp [settleLoan]

theorem Desk.settleLoan_borrower (d : Desk) (l : ReturnedLoan) (card : Code) : (d.settleLoan l).borrower card =
    (d.borrower card).map fun b => if card = l.holder then b.returnOne.fine l.fine else b := by
  rw [settleLoan, borrower_changeBorrower (f := fun b => b.returnOne.fine l.fine) _ _ (fun _ => rfl)]

theorem Desk.settleLoan_pickupDay (d : Desk) (l : ReturnedLoan) (hold : Code) :
    (d.settleLoan l).pickupDay hold = d.pickupDay hold := by
  have htables : (d.settleLoan l).tables = { d.tables with borrowers := (d.settleLoan l).tables.borrowers } :=
    changeBorrower_tables d l.holder _
  obtain ⟨-, hclock, -, hsettings, -⟩ := d.settleLoan_keeps l
  have hcategory (category : Nat) : (d.settleLoan l).category category = d.category category := by
    rw [Desk.category, htables]
    rfl
  have hclassified : (d.settleLoan l).classifiedCategory hold = d.classifiedCategory hold := by
    rw [classifiedCategory, htables]
    rfl
  have hdays : (d.settleLoan l).shelfDays hold = d.shelfDays hold := by
    unfold shelfDays
    rw [settleLoan_borrower, hclassified]
    cases d.borrower hold with
    | none => simp only [Option.map_none, hcategory]
    | some b =>
      simp only [Option.map_some, hcategory]
      split_ifs <;> rfl
  rw [pickupDay, hdays, hclock, htables]
  rfl

/-! ## A return by the item's entry (R92, R93) -/

section
variable {d : Desk} (st : StationId) {item : Code} (scanned : Nat)

theorem Desk.returnItem_listed (h : d.itemListed item = true) :
    d.returnItem st item scanned = d.post st (.loanRefused .inUse none) := by
  rw [returnItem, if_pos h]
  rfl

theorem Desk.returnItem_full (h : d.itemListed item = false) (hroom : (d.lapseAtRead st item).anyRoom = false) :
    d.returnItem st item scanned = (d.lapseAtRead st item).post st (.loanRefused .journalFull none) := by
  simp only [returnItem, h, hroom]
  rfl

theorem Desk.returnItem_taken (h : d.itemListed item = false) (hroom : (d.lapseAtRead st item).anyRoom = true) :
    d.returnItem st item scanned = (d.lapseAtRead st item).returnEntry st item scanned := by
  simp only [returnItem, h, hroom]
  rfl

theorem Desk.returnEntry_unknown (h : d.item item = none) : d.returnEntry st item scanned = d.returnPlain st item false none := by
  rw [returnEntry, h]

theorem Desk.returnEntry_known {e : ItemEntry} (h : d.item item = some e) : d.returnEntry st item scanned =
    match e.status with
    | .onLoan holder due _ none =>
      ((d.settleLoan (d.returnedLoan e scanned holder due)).eraseItem item).returnPlain st item false
        (some (d.returnedLoan e scanned holder due))
    | .onLoan holder due _ (some h) =>
      (d.settleLoan (d.returnedLoan e scanned holder due)).returnRouted st e h false (some (d.returnedLoan e scanned holder due))
    | .missing none => (d.eraseItem item).returnPlain st item true none
    | .missing (some h) => d.returnRouted st e h true none
    | .holdPending h => d.returnRouted st e h false none
    | .onHoldShelf h pickup => d.post st (.holdFor (Code.shortNumber h) pickup)
    | .reference => d.returnPlain st item false none
    | .withdrawn => d.returnPlain st item false none := by
  rw [returnEntry, h]
  obtain ⟨code, itemClass, status⟩ := e
  cases status with
  | onLoan holder due n hold => cases hold <;> rfl
  | missing hold => cases hold <;> rfl
  | _ => rfl

end

/-- What the return of a lent item leaves: the entry, the holder, the record and the pad (R93). -/
structure Desk.LoanReturned (d a : Desk) (st : StationId) (item : Code) (itemClass : Option Nat) (hold : Option Code)
    (l : ReturnedLoan) : Prop where
  absent : hold = none → a.item item = none
  shelved : ∀ h, hold = some h → a.item item = some ⟨item, itemClass, .onHoldShelf h (d.pickupDay h).1⟩
  others : ∀ other, other ≠ item → a.item other = d.item other
  borrowers : ∀ card, a.borrower card = (d.borrower card).map fun b => { b with
    loansHeld := if card = l.holder then b.loansHeld - 1 else b.loansHeld
    finesOwed := if card = l.holder then min (b.finesOwed + l.fine) 65535 else b.finesOwed
    holdsReady := if hold = some card then min (b.holdsReady + 1) 15 else b.holdsReady }
  recorded : d.journal.held ++ [d.recordFor (some st) (.given false (d.isProvisional st) false false) (.ret item (some l))] <+:
    a.journal.held
  pad : (a.stations.get st).pad = .resensitising (d.stationSettings.get st).padPulse

section
variable {d : Desk} (hroom : d.anyRoom = true) (st : StationId) (item : Code) (l : ReturnedLoan)
include hroom

theorem Desk.returnPlain_loanReturned (itemClass : Option Nat) :
    d.LoanReturned (((d.settleLoan l).eraseItem item).returnPlain st item false (some l)) st item itemClass none l := by
  obtain ⟨hjournal, hclock, hlink, hsettings, hstations, hstationSettings, hitems⟩ := d.settleLoan_keeps l
  obtain ⟨htables, hrecorded, hpad⟩ :=
    returnPlain_effects (d := (d.settleLoan l).eraseItem item) st item false (some l) ((anyRoom_congr hjournal).trans hroom)
  have hcode (code : Code) : (((d.settleLoan l).eraseItem item).returnPlain st item false (some l)).item code =
      if code = item then none else d.item code := by
    rw [item_of_items (congrArg Tables.items htables), item_eraseItem, item_of_items hitems]
  refine ⟨fun _ => ?_, nofun, fun other hother => ?_, fun card => ?_, ?_, ?_⟩
  · rw [hcode, if_pos rfl]
  · rw [hcode, if_neg hother]
  · have hborrowers := borrower_of_borrowers (a := (d.settleLoan l).eraseItem item) (congrArg Tables.borrowers htables) card
    have herased : ((d.settleLoan l).eraseItem item).borrower card = (d.settleLoan l).borrower card := rfl
    rw [hborrowers, herased, settleLoan_borrower]
    congr 1
    funext b
    split_ifs <;> simp_all [Borrower.returnOne, Borrower.fine]
  · rw [← hjournal, ← recordFor_congr hjournal hclock hlink hsettings, ← isProvisional_of_stations hstations]
    exact hrecorded
  · rw [hpad, ← hstationSettings]
    rfl

theorem Desk.returnRouted_loanReturned (itemClass : Option Nat) (status : ItemStatus) (hold : Code)
    (hpickup : (d.settleLoan l).pickupDay hold = d.pickupDay hold) :
    d.LoanReturned ((d.settleLoan l).returnRouted st ⟨item, itemClass, status⟩ hold false (some l)) st item itemClass (some hold) l := by
  obtain ⟨hjournal, hclock, hlink, hsettings, hstations, hstationSettings, hitems⟩ := d.settleLoan_keeps l
  obtain ⟨htables, hrecorded, hpad⟩ :=
    returnRouted_effects (d := d.settleLoan l) st false (some l) ((anyRoom_congr hjournal).trans hroom) ⟨item, itemClass, status⟩ hold
  have hcode (code : Code) : ((d.settleLoan l).returnRouted st ⟨item, itemClass, status⟩ hold false (some l)).item code =
      if code = item then some ⟨item, itemClass, .onHoldShelf hold (d.pickupDay hold).1⟩ else d.item code := by
    rw [item_of_items (congrArg Tables.items htables), shelved_item, item_of_items hitems, hpickup]
  refine ⟨nofun, fun h hh => ?_, fun other hother => ?_, fun card => ?_, ?_, ?_⟩
  · obtain rfl : hold = h := Option.some.inj hh
    rw [hcode, if_pos rfl]
  · rw [hcode, if_neg hother]
  · rw [borrower_of_borrowers (congrArg Tables.borrowers htables), shelved_borrower, settleLoan_borrower, Option.map_map]
    congr 1
    funext b
    simp only [Function.comp, Borrower.returnOne, Borrower.fine, Borrower.holdUp, Option.some.injEq, eq_comm (a := hold)]
    split_ifs <;> rfl
  · rw [← hjournal, ← recordFor_congr hjournal hclock hlink hsettings, ← isProvisional_of_stations hstations]
    exact hrecorded
  · rw [hpad, hstationSettings]

end

end Sys2Proof.Machine

namespace Sys2Proof.Proofs
open Sys2Proof.Machine

/-- Settles O51: the return row by row, and what the return of a lent item leaves. -/
theorem returnTakesEffect : Obligations.ReturnTakesEffect := by
  unfold Obligations.ReturnTakesEffect
  intro d st item scanned hsorted a e provisional recorded pulsed concluded plain routed
  have hstations : e.stations = d.stations := d.lapseAtRead_stations st item
  have hsettings : e.stationSettings = d.stationSettings := by simp [e]
  have hprovisional {b : Desk} (hb : b.stations = e.stations) : provisional = b.isProvisional st :=
    (Desk.isProvisional_of_stations (hb.trans hstations) st).symm
  have hrecorded {b : Desk} (hb : b.stations = e.stations) (found : Bool) (loan : Option ReturnedLoan) :
      recorded b found loan = b.recordReturn st item found loan := by
    simp only [recorded, hprovisional hb]
    rfl
  have hconcluded (b : Desk) (loan : Option ReturnedLoan) :
      concluded b loan = b.concludeReturn st item ((loan.map ReturnedLoan.fine).getD 0) :=
    ((b.concludeReturn_eq st item loan).trans (Desk.listReturn_eq _ st item)).symm
  have hplain {b : Desk} (hb : b.stations = e.stations) (found : Bool) (loan : Option ReturnedLoan) :
      plain b found loan = b.returnPlain st item found loan := by
    simp only [plain, hconcluded, hrecorded hb]
    rfl
  have hrouted {b : Desk} (hb : b.stations = e.stations) (itemClass : Option Nat) (status : ItemStatus) (hold : Code) (found : Bool)
      (loan : Option ReturnedLoan) :
      b.returnRouted st ⟨item, itemClass, status⟩ hold found loan = routed b itemClass hold found loan := by
    obtain ⟨-, -, -, -, hshelved, -⟩ := b.shelved_keeps ⟨item, itemClass, status⟩ hold
    have hwritten := hrecorded (hshelved.trans hb) found loan
    simp only [routed, hconcluded]
    rw [Desk.returnRouted_eq, Desk.routedTold, Desk.routedAnnounced, Desk.routedRecorded, ← hwritten]
    rfl
  refine ⟨Desk.returnItem_listed st scanned, Desk.returnItem_full st scanned, fun hlisted hroom => ?_⟩
  have ha : a = e.returnEntry st item scanned := Desk.returnItem_taken st scanned hlisted hroom
  refine ⟨fun hitem => ha.trans ((Desk.returnEntry_unknown st scanned hitem).trans (hplain rfl _ _).symm),
    fun itemClass status hitem => ?_⟩
  have hknown := ha.trans (Desk.returnEntry_known st scanned hitem)
  refine ⟨?_, ?_, ?_, ?_, ?_, ?_⟩
  · rintro (rfl | rfl)
    · exact hknown.trans (hplain rfl _ _).symm
    · exact hknown.trans (hplain rfl _ _).symm
  · rintro rfl
    exact hknown.trans (hplain (b := e.eraseItem item) rfl _ _).symm
  · rintro h rfl
    exact hknown.trans (hrouted (b := e) rfl itemClass _ h _ none)
  · rintro h rfl
    exact hknown.trans (hrouted (b := e) rfl itemClass _ h _ none)
  · rintro h day rfl
    exact hknown
  · rintro holder due n hold rfl
    intro units loan settled record
    have hsettled : settled.stations = e.stations := by
      obtain ⟨-, -, -, -, hkept, -⟩ := e.settleLoan_keeps loan
      exact hkept
    have hrecord : record = e.recordFor (some st) (.given false (e.isProvisional st) false false) (.ret item (some loan)) := by
      simp only [record, hprovisional (b := e) rfl]
      rfl
    have hreturned : e.LoanReturned a st item itemClass hold loan := by
      cases hold with
      | none => exact hknown ▸ Desk.returnPlain_loanReturned hroom st item loan itemClass
      | some h => exact hknown ▸ Desk.returnRouted_loanReturned hroom st item loan itemClass _ h (e.settleLoan_pickupDay loan h)
    obtain ⟨habsent, hshelved, hothers, hborrowers, hjournal, hpad⟩ := hreturned
    refine ⟨?_, ?_, habsent, hshelved, hothers, hborrowers, hrecord ▸ hjournal, hsettings ▸ hpad⟩
    · rintro rfl
      exact hknown.trans (hplain (b := settled.eraseItem item) hsettled _ _).symm
    · rintro h rfl
      exact hknown.trans (hrouted (b := settled) hsettled itemClass _ h false (some loan))

end Sys2Proof.Proofs
end

section
/-! PROOF. Code fields (R198): the places of a field and the digits it holds. -/

namespace Sys2Proof

/-! ## Places -/

theorem placesOf_reverse (n v : Nat) : (placesOf n v).reverse = (List.range n).map fun i => v / 16 ^ i % 16 := by
  induction n generalizing v with
  | zero => rfl
  | succ n ih =>
    rw [placesOf, List.reverse_append, ih, List.range_succ_eq_map, List.map_cons, List.map_map]
    simp [Function.comp_def, Nat.div_div_eq_div_mul, Nat.pow_succ']

@[simp] theorem placesOf_length (n v : Nat) : (placesOf n v).length = n := by
  rw [← List.length_reverse, placesOf_reverse, List.length_map, List.length_range]

theorem foldl_placesOf (n v : Nat) : (placesOf n v).foldl (fun a x => 16 * a + x) 0 = v % 16 ^ n := by
  induction n generalizing v with
  | zero => simp [placesOf, Nat.mod_one]
  | succ n ih =>
    rw [placesOf, List.foldl_append, ih, Nat.pow_succ', Nat.mod_mul]
    exact Nat.add_comm _ _

theorem placesOf_inj {f g : CodeField} (h : placesOf 16 f.toNat = placesOf 16 g.toNat) : f = g := by
  have hmod : f.toNat % 16 ^ 16 = g.toNat % 16 ^ 16 := by rw [← foldl_placesOf, h, foldl_placesOf]
  refine BitVec.eq_of_toNat_eq ?_
  rwa [Nat.mod_eq_of_lt (show f.toNat < 16 ^ 16 from f.isLt), Nat.mod_eq_of_lt (show g.toNat < 16 ^ 16 from g.isLt)] at hmod

/-! ## Leading Fh places, then digits -/

theorem digitOf_eq_some {n : Nat} {d : Digit} : digitOf n = some d ↔ n = d.val := by
  unfold digitOf
  split
  · next h =>
    rw [Option.some.injEq]
    exact ⟨fun heq => heq ▸ rfl, fun heq => Fin.ext heq⟩
  · next h => exact ⟨nofun, fun heq => absurd (heq ▸ d.isLt) h⟩

theorem mapM_digitOf {l : List Nat} {ds : List Digit} : l.mapM digitOf = some ds ↔ l = ds.map Fin.val := by
  induction l generalizing ds with
  | nil => cases ds <;> simp
  | cons n l ih =>
    rw [List.mapM_cons, Option.bind_eq_bind, Option.bind_eq_some_iff]
    simp only [digitOf_eq_some, Option.bind_eq_bind, Option.bind_eq_some_iff, ih, Option.pure_def, Option.some.injEq]
    constructor
    · rintro ⟨d, rfl, ds, rfl, rfl⟩
      rfl
    · cases ds with
      | nil => nofun
      | cons d ds =>
        intro h
        injection h with hn hl
        exact ⟨d, hn, ds, hl, rfl⟩

theorem dropWhile_replicate_digits (k : Nat) (ds : List Digit) :
    (List.replicate k 15 ++ ds.map Fin.val).dropWhile (· == 15) = ds.map Fin.val := by
  induction k with
  | zero =>
    cases ds with
    | nil => rfl
    | cons d ds =>
      have hd : (d.val == 15) = false := beq_false_of_ne (by omega)
      simp [hd]
  | succ k ih => simpa [List.replicate_succ] using ih

theorem takeWhile_replicate (l : List Nat) : l.takeWhile (· == 15) = List.replicate (l.takeWhile (· == 15)).length 15 :=
  List.eq_replicate_of_mem fun n hn => by simpa using List.mem_takeWhile_imp hn

theorem mapM_digitOf_dropWhile {l : List Nat} {n : Nat} {ds : List Digit} (hlength : l.length = n) :
    (l.dropWhile (· == 15)).mapM digitOf = some ds ↔ ds.length ≤ n ∧ l = List.replicate (n - ds.length) 15 ++ ds.map Fin.val := by
  rw [mapM_digitOf]
  constructor
  · intro h
    have hsplit := List.takeWhile_append_dropWhile (p := (· == 15)) (l := l)
    have hsum := congrArg List.length hsplit
    rw [List.length_append, h, List.length_map, hlength] at hsum
    rw [h, takeWhile_replicate, show (l.takeWhile (· == 15)).length = n - ds.length by omega] at hsplit
    exact ⟨by omega, hsplit.symm⟩
  · rintro ⟨-, rfl⟩
    exact dropWhile_replicate_digits _ ds

/-! ## What a field holds -/

theorem CodeField.holds_iff {f : CodeField} {ds : List Digit} :
    f.Holds ds ↔ ds.length ≤ 16 ∧ placesOf 16 f.toNat = List.replicate (16 - ds.length) 15 ++ ds.map Fin.val := by
  refine and_congr_right fun hlength => ?_
  rw [← List.reverse_inj, placesOf_reverse, List.reverse_append, List.reverse_replicate, ← List.map_reverse]
  have hplace (i : Nat) (hi : i < 16) : (ds.reverse.map Fin.val ++ List.replicate (16 - ds.length) 15)[i]? =
      some (match ds.reverse[i]? with | some d => d.val | none => 15) := by
    by_cases h : i < ds.length
    · rw [List.getElem?_append_left (by simpa using h), List.getElem?_map, List.getElem?_eq_getElem (by simpa using h)]
      rfl
    · rw [List.getElem?_append_right (by simpa using h), List.getElem?_eq_none (l := ds.reverse) (by simpa using h),
        List.getElem?_replicate_of_lt (by simp; omega)]
  constructor
  · intro h
    refine List.ext_getElem? fun i => ?_
    by_cases hi : i < 16
    · rw [hplace i hi, List.getElem?_map, List.getElem?_range hi, Option.map_some]
      exact congrArg some (h i hi)
    · rw [List.getElem?_eq_none (by simpa using hi), List.getElem?_eq_none (by simp; omega)]
  · intro h i hi
    have hi' := hplace i hi
    rw [← h, List.getElem?_map, List.getElem?_range hi, Option.map_some] at hi'
    exact Option.some.inj hi'

theorem CodeField.Holds.length_le {f : CodeField} {ds : List Digit} (h : f.Holds ds) : ds.length ≤ 16 := h.1

/-- The digits that a field holds determine the field. -/
theorem CodeField.Holds.field_eq {f g : CodeField} {ds : List Digit} (hf : f.Holds ds) (hg : g.Holds ds) : f = g :=
  placesOf_inj ((holds_iff.1 hf).2.trans (holds_iff.1 hg).2.symm)

theorem CodeField.digits_iff {least : Nat} {f : CodeField} {ds : List Digit} :
    CodeField.digits least f = some ds ↔ least ≤ ds.length ∧ f.Holds ds := by
  have hread : ((placesOf 16 f.toNat).dropWhile (· == 15)).mapM digitOf = some ds ↔ f.Holds ds :=
    (mapM_digitOf_dropWhile (placesOf_length 16 f.toNat)).trans holds_iff.symm
  unfold digits
  cases hdigits : ((placesOf 16 f.toNat).dropWhile (· == 15)).mapM digitOf with
  | none =>
    rw [hdigits] at hread
    exact ⟨nofun, fun h => absurd (hread.2 h.2) nofun⟩
  | some other =>
    rw [hdigits, Option.some.injEq] at hread
    simp only [Option.ite_none_right_eq_some, Option.some.injEq, ← hread]
    exact and_congr_left fun h => h ▸ Iff.rfl

theorem CodeField.code_iff {f : CodeField} {c : Code} : CodeField.code f = some c ↔ 6 ≤ c.length ∧ f.Holds c := digits_iff

/-! ## The field of a code -/

theorem foldl_place (ds : List Digit) (start i : Nat) : (ds.foldl (fun n d => 16 * n + d.val) start) / 16 ^ i % 16 =
    match ds.reverse[i]? with
    | some d => d.val
    | none => start / 16 ^ (i - ds.length) % 16 := by
  induction ds using List.reverseRecOn generalizing i with
  | nil => simp
  | append_singleton ds d ih =>
    rw [List.foldl_append, List.reverse_append]
    cases i with
    | zero =>
      have hd := d.isLt
      simp only [List.foldl_cons, List.foldl_nil, List.reverse_singleton, List.singleton_append, List.getElem?_cons_zero]
      omega
    | succ i =>
      have hplace : (16 * ds.foldl (fun n d => 16 * n + d.val) start + d.val) / 16 ^ (i + 1) =
          ds.foldl (fun n d => 16 * n + d.val) start / 16 ^ i := by
        rw [Nat.pow_succ', ← Nat.div_div_eq_div_mul]
        congr 1
        omega
      simp only [List.foldl_cons, List.foldl_nil, List.reverse_singleton, List.singleton_append, List.getElem?_cons_succ, hplace, ih,
        List.length_append, List.length_singleton, Nat.add_sub_add_right]

theorem allOnes_place {i : Nat} (h : i < 16) : (2 ^ 64 - 1) / 16 ^ i % 16 = 15 := by
  interval_cases i <;> rfl

theorem CodeField.ofCode_holds {c : Code} (h : c.length ≤ 16) : (CodeField.ofCode c).Holds c := by
  refine ⟨h, fun i hi => ?_⟩
  have hmod (n : Nat) : n % 2 ^ 64 / 16 ^ i % 16 = n / 16 ^ i % 16 := by
    rw [show 2 ^ 64 = 16 ^ i * (16 ^ (15 - i) * 16) by rw [← Nat.pow_succ, ← Nat.pow_add, show i + (15 - i + 1) = 16 by omega]; rfl,
      Nat.mod_mul_right_div_self, Nat.mod_mul_left_mod]
  rw [ofCode, BitVec.toNat_ofNat, hmod, foldl_place]
  cases c.reverse[i]? with
  | some d => rfl
  | none => exact allOnes_place (by omega)

end Sys2Proof
end

section
/-! PROOF. Bytes that lay out flags and numbers, and the calendar, borrower and category entries as they travel (R32, R33, R42, R69). -/

namespace Sys2Proof

/-! ## Flags and numbers -/

theorem boolOf_eq_some {b : Byte} {x : Bool} : boolOf b = some x ↔ b = boolByte x := by
  unfold boolOf
  split
  · next h =>
    subst h
    cases x <;> decide
  · next hzero =>
    split
    · next h =>
      subst h
      cases x <;> decide
    · next hone =>
      cases x
      · exact ⟨nofun, fun h => absurd h hzero⟩
      · exact ⟨nofun, fun h => absurd h hone⟩

theorem boolOf_eq_none {b : Byte} : boolOf b = none ↔ 1 < b.toNat := by
  unfold boolOf
  split
  · next h =>
    subst h
    decide
  · split
    · next h =>
      subst h
      decide
    · exact ⟨fun _ => by bv_omega, fun _ => rfl⟩

namespace Machine

theorem natByte_toNat {n : Nat} (h : n ≤ 255) : (natByte n).toNat = n := by
  rw [natByte, BitVec.toNat_ofNat]
  omega

theorem natHalf_toNat {n : Nat} (h : n ≤ 65535) : (natHalf n).toNat = n := by
  rw [natHalf, BitVec.toNat_ofNat]
  omega

theorem half_le (x : Half) : x.toNat ≤ 65535 := by
  have := x.isLt
  omega

theorem inRange_iff {low high n : Nat} : inRange low high n = true ↔ low ≤ n ∧ n ≤ high := by
  simp [inRange]

/-! ## Hours (R32, R33) -/

theorem hoursOf_eq_some {opening closing : Half} {h : Hours} :
    hoursOf opening closing = some h ↔ opening.toNat = h.opening ∧ closing.toNat = h.closing ∧ h.Legal := by
  obtain ⟨o, c⟩ := h
  simp only [hoursOf, Bool.and_eq_true, decide_eq_true_eq, Option.ite_none_right_eq_some, Option.some.injEq, Hours.mk.injEq, Hours.Legal]
  constructor
  · rintro ⟨hlegal, rfl, rfl⟩
    exact ⟨rfl, rfl, hlegal⟩
  · rintro ⟨rfl, rfl, hlegal⟩
    exact ⟨hlegal, rfl, rfl⟩

theorem hoursOf_eq_none {opening closing : Half} :
    hoursOf opening closing = none ↔ closing.toNat ≤ opening.toNat ∨ 1439 < closing.toNat := by
  simp only [hoursOf, Bool.and_eq_true, decide_eq_true_eq, ite_eq_right_iff, reduceCtorEq, imp_false, not_and_or, Nat.not_lt, Nat.not_le]

/-! ## Weekly hours (R32) -/

section
variable {w : WeeklyWire}

theorem WeeklyWire.hours_closed (hclosed : w.closed = 1) (hhours : w.hasHours = 0) :
    WeeklyWire.hours w = if w.opening = 0 ∧ w.closing = 0 then some none else none := by
  simp [WeeklyWire.hours, boolOf, hclosed, hhours]

theorem WeeklyWire.hours_open (hclosed : w.closed = 0) (hhours : w.hasHours = 1) :
    WeeklyWire.hours w = (hoursOf w.opening w.closing).map some := by
  simp [WeeklyWire.hours, boolOf, hclosed, hhours]

theorem WeeklyWire.hours_same (h : w.closed = w.hasHours) : WeeklyWire.hours w = none := by
  unfold WeeklyWire.hours
  rw [h]
  cases boolOf w.hasHours with
  | none => rfl
  | some x => cases x <;> rfl

theorem WeeklyWire.hours_closedBad (h : 1 < w.closed.toNat) : WeeklyWire.hours w = none := by
  simp [WeeklyWire.hours, boolOf_eq_none.2 h]

theorem WeeklyWire.hours_hoursBad (h : 1 < w.hasHours.toNat) : WeeklyWire.hours w = none := by
  simp [WeeklyWire.hours, boolOf_eq_none.2 h]

theorem WeeklyWire.hours_eq_none : WeeklyWire.hours w = none ↔
    1 < w.closed.toNat ∨ 1 < w.hasHours.toNat ∨ w.closed = w.hasHours ∨
    (w.hasHours = 0 ∧ (w.opening ≠ 0 ∨ w.closing ≠ 0)) ∨
    (w.hasHours = 1 ∧ (w.closing.toNat ≤ w.opening.toNat ∨ 1439 < w.closing.toNat)) := by
  by_cases hclosedBad : 1 < w.closed.toNat
  · simp [hours_closedBad hclosedBad, hclosedBad]
  by_cases hhoursBad : 1 < w.hasHours.toNat
  · simp [hours_hoursBad hhoursBad, hhoursBad]
  by_cases hsame : w.closed = w.hasHours
  · simp [hours_same hsame, hsame]
  have hflags : w.closed = 1 ∧ w.hasHours = 0 ∨ w.closed = 0 ∧ w.hasHours = 1 := by bv_omega
  rcases hflags with ⟨hclosed, hhours⟩ | ⟨hclosed, hhours⟩
  · rw [hours_closed hclosed hhours]
    simp [hclosed, hhours, imp_iff_not_or]
  · rw [hours_open hclosed hhours, Option.map_eq_none_iff, hoursOf_eq_none]
    simp [hclosed, hhours]

theorem WeeklyWire.hours_eq_some {hours : Option Hours} : WeeklyWire.hours w = some hours ↔
    w.LaysOut w.weekday.toNat hours ∧ ∀ h, hours = some h → h.Legal := by
  constructor
  · intro h
    have hflags : w.closed = 1 ∧ w.hasHours = 0 ∨ w.closed = 0 ∧ w.hasHours = 1 := by
      have hgood := mt hours_eq_none.2 (Option.ne_none_iff_exists'.2 ⟨_, h⟩)
      bv_omega
    rcases hflags with ⟨hclosed, hhours⟩ | ⟨hclosed, hhours⟩
    · rw [hours_closed hclosed hhours, Option.ite_none_right_eq_some] at h
      obtain ⟨⟨hopening, hclosing⟩, rfl⟩ := And.imp_right Option.some.inj h
      exact ⟨⟨rfl, hclosed, hhours, hopening, hclosing⟩, nofun⟩
    · rw [hours_open hclosed hhours, Option.map_eq_some_iff] at h
      obtain ⟨given, hgiven, rfl⟩ := h
      obtain ⟨hopening, hclosing, hlegal⟩ := hoursOf_eq_some.1 hgiven
      exact ⟨⟨rfl, hclosed, hhours, hopening, hclosing⟩, fun h heq => Option.some.inj heq ▸ hlegal⟩
  · rintro ⟨⟨-, hlays⟩, hlegal⟩
    cases hours with
    | none =>
      obtain ⟨hclosed, hhours, hopening, hclosing⟩ := hlays
      rw [hours_closed hclosed hhours, if_pos ⟨hopening, hclosing⟩]
    | some h =>
      obtain ⟨hclosed, hhours, hopening, hclosing⟩ := hlays
      rw [hours_open hclosed hhours, hoursOf_eq_some.2 ⟨hopening, hclosing, hlegal h rfl⟩]
      rfl

end

theorem weekdayWire_laysOut {weekday : Nat} {hours : Option Hours} (hweekday : weekday ≤ 6) (hlegal : ∀ h, hours = some h → h.Legal) :
    (weekdayWire weekday hours).LaysOut weekday hours := by
  have hday : (natByte weekday).toNat = weekday := natByte_toNat (by omega)
  cases hours with
  | none => exact ⟨hday, rfl, rfl, rfl, rfl⟩
  | some h =>
    obtain ⟨hless, hlast⟩ := hlegal h rfl
    exact ⟨hday, rfl, rfl, natHalf_toNat (by omega), natHalf_toNat (by omega)⟩

/-! ## Exceptions (R33) -/

section
variable {w : ExceptionWire}

theorem ExceptionWire.entry_closed (hclosed : w.closed = 1) (hhours : w.hasHours = 0) :
    ExceptionWire.entry w = if w.opening = 0 ∧ w.closing = 0 then some ⟨w.day.toNat, .closed⟩ else none := by
  simp [ExceptionWire.entry, boolOf, hclosed, hhours]

theorem ExceptionWire.entry_plain (hclosed : w.closed = 0) (hhours : w.hasHours = 0) :
    ExceptionWire.entry w = if w.opening = 0 ∧ w.closing = 0 then some ⟨w.day.toNat, .openWith none⟩ else none := by
  simp [ExceptionWire.entry, boolOf, hclosed, hhours]

theorem ExceptionWire.entry_open (hclosed : w.closed = 0) (hhours : w.hasHours = 1) :
    ExceptionWire.entry w = (hoursOf w.opening w.closing).map fun h => ⟨w.day.toNat, .openWith (some h)⟩ := by
  simp [ExceptionWire.entry, boolOf, hclosed, hhours]

theorem ExceptionWire.entry_both (hclosed : w.closed = 1) (hhours : w.hasHours = 1) : ExceptionWire.entry w = none := by
  simp [ExceptionWire.entry, boolOf, hclosed, hhours]

theorem ExceptionWire.entry_closedBad (h : 1 < w.closed.toNat) : ExceptionWire.entry w = none := by
  simp [ExceptionWire.entry, boolOf_eq_none.2 h]

theorem ExceptionWire.entry_hoursBad (h : 1 < w.hasHours.toNat) : ExceptionWire.entry w = none := by
  simp [ExceptionWire.entry, boolOf_eq_none.2 h]

theorem ExceptionWire.entry_eq_none : ExceptionWire.entry w = none ↔
    1 < w.closed.toNat ∨ 1 < w.hasHours.toNat ∨ (w.closed = 1 ∧ w.hasHours = 1) ∨
    (w.hasHours = 0 ∧ (w.opening ≠ 0 ∨ w.closing ≠ 0)) ∨
    (w.hasHours = 1 ∧ (w.closing.toNat ≤ w.opening.toNat ∨ 1439 < w.closing.toNat)) := by
  by_cases hclosedBad : 1 < w.closed.toNat
  · simp [entry_closedBad hclosedBad, hclosedBad]
  by_cases hhoursBad : 1 < w.hasHours.toNat
  · simp [entry_hoursBad hhoursBad, hhoursBad]
  have hflags : w.closed = 1 ∧ w.hasHours = 1 ∨ w.closed = 1 ∧ w.hasHours = 0 ∨ w.closed = 0 ∧ w.hasHours = 0 ∨
      w.closed = 0 ∧ w.hasHours = 1 := by bv_omega
  rcases hflags with ⟨hclosed, hhours⟩ | ⟨hclosed, hhours⟩ | ⟨hclosed, hhours⟩ | ⟨hclosed, hhours⟩
  · simp [entry_both hclosed hhours, hclosed, hhours]
  · rw [entry_closed hclosed hhours]
    simp [hclosed, hhours, imp_iff_not_or]
  · rw [entry_plain hclosed hhours]
    simp [hclosed, hhours, imp_iff_not_or]
  · rw [entry_open hclosed hhours, Option.map_eq_none_iff, hoursOf_eq_none]
    simp [hclosed, hhours]

theorem ExceptionWire.entry_eq_some {e : ExceptionEntry} : ExceptionWire.entry w = some e ↔
    w.LaysOut e ∧ ∀ h, e.kind = .openWith (some h) → h.Legal := by
  constructor
  · intro h
    have hflags : w.closed = 1 ∧ w.hasHours = 0 ∨ w.closed = 0 ∧ w.hasHours = 0 ∨ w.closed = 0 ∧ w.hasHours = 1 := by
      have hgood := mt entry_eq_none.2 (Option.ne_none_iff_exists'.2 ⟨_, h⟩)
      bv_omega
    rcases hflags with ⟨hclosed, hhours⟩ | ⟨hclosed, hhours⟩ | ⟨hclosed, hhours⟩
    · rw [entry_closed hclosed hhours, Option.ite_none_right_eq_some] at h
      obtain ⟨⟨hopening, hclosing⟩, rfl⟩ := And.imp_right Option.some.inj h
      exact ⟨⟨rfl, hclosed, hhours, hopening, hclosing⟩, nofun⟩
    · rw [entry_plain hclosed hhours, Option.ite_none_right_eq_some] at h
      obtain ⟨⟨hopening, hclosing⟩, rfl⟩ := And.imp_right Option.some.inj h
      exact ⟨⟨rfl, hclosed, hhours, hopening, hclosing⟩, nofun⟩
    · rw [entry_open hclosed hhours, Option.map_eq_some_iff] at h
      obtain ⟨given, hgiven, rfl⟩ := h
      obtain ⟨hopening, hclosing, hlegal⟩ := hoursOf_eq_some.1 hgiven
      refine ⟨⟨rfl, hclosed, hhours, hopening, hclosing⟩, fun h heq => ?_⟩
      obtain rfl : given = h := by simpa using heq
      exact hlegal
  · obtain ⟨day, kind⟩ := e
    rintro ⟨⟨rfl, hlays⟩, hlegal⟩
    cases kind with
    | closed =>
      obtain ⟨hclosed, hhours, hopening, hclosing⟩ := hlays
      rw [entry_closed hclosed hhours, if_pos ⟨hopening, hclosing⟩]
    | openWith hours =>
      cases hours with
      | none =>
        obtain ⟨hclosed, hhours, hopening, hclosing⟩ := hlays
        rw [entry_plain hclosed hhours, if_pos ⟨hopening, hclosing⟩]
      | some h =>
        obtain ⟨hclosed, hhours, hopening, hclosing⟩ := hlays
        rw [entry_open hclosed hhours, hoursOf_eq_some.2 ⟨hopening, hclosing, hlegal h rfl⟩]
        rfl

end

theorem ExceptionEntry.wire_laysOut {e : ExceptionEntry} (hday : e.day ≤ 65535) (hlegal : ∀ h, e.kind = .openWith (some h) → h.Legal) :
    e.wire.LaysOut e := by
  obtain ⟨day, kind⟩ := e
  have hlaid : (natHalf day).toNat = day := natHalf_toNat hday
  cases kind with
  | closed => exact ⟨hlaid, rfl, rfl, rfl, rfl⟩
  | openWith hours =>
    cases hours with
    | none => exact ⟨hlaid, rfl, rfl, rfl, rfl⟩
    | some h =>
      obtain ⟨hless, hlast⟩ := hlegal h rfl
      exact ⟨hlaid, rfl, rfl, natHalf_toNat (by omega), natHalf_toNat (by omega)⟩

/-! ## Borrowers (R42) -/

section
variable {w : BorrowerWire}

theorem BorrowerWire.entry_eq : BorrowerWire.entry w =
    if w.flags = 0 ∧ w.category.toNat ≤ 15 ∧ w.loansHeld.toNat ≤ 99 ∧ w.holdsReady.toNat ≤ 15 then
      (CodeField.code w.card).map fun c =>
        ⟨c, w.category.toNat, w.loansHeld.toNat, w.holdsReady.toNat, w.finesOwed.toNat, w.expiryDay.toNat, false⟩
    else none := by
  unfold BorrowerWire.entry
  by_cases hflags : w.flags = 0
  · rw [if_pos hflags]
    by_cases hranges : w.category.toNat ≤ 15 ∧ w.loansHeld.toNat ≤ 99 ∧ w.holdsReady.toNat ≤ 15
    · rw [if_pos ⟨hflags, hranges⟩]
      cases hcode : CodeField.code w.card with
      | none => exact borrowerOf_none hcode ..
      | some c => exact borrowerOf_eq hcode hranges ..
    · rw [borrowerOf_out hranges, if_neg (mt And.right hranges)]
  · rw [if_neg hflags, if_neg (mt And.left hflags)]

theorem BorrowerWire.entry_eq_some {b : Borrower} :
    BorrowerWire.entry w = some b ↔ w.LaysOut b ∧ b.Legal ∧ b.provisional = false := by
  rw [entry_eq, Option.ite_none_right_eq_some, Option.map_eq_some_iff]
  constructor
  · rintro ⟨⟨hflags, hcategory, hloans, hholds⟩, c, hc, rfl⟩
    obtain ⟨hshort, hcard⟩ := CodeField.code_iff.1 hc
    exact ⟨⟨hcard, rfl, rfl, rfl, hflags, rfl, rfl⟩,
      ⟨hshort, hcard.length_le, hcategory, hloans, hholds, half_le w.finesOwed, half_le w.expiryDay⟩, rfl⟩
  · obtain ⟨card, category, loansHeld, holdsReady, finesOwed, expiryDay, provisional⟩ := b
    rintro ⟨⟨hcard, rfl, rfl, rfl, hflags, rfl, rfl⟩, ⟨hshort, -, hcategory, hloans, hholds, -⟩, rfl⟩
    exact ⟨⟨hflags, hcategory, hloans, hholds⟩, card, CodeField.code_iff.2 ⟨hshort, hcard⟩, rfl⟩

theorem BorrowerWire.entry_eq_none : BorrowerWire.entry w = none ↔
    CodeField.code w.card = none ∨ 15 < w.category.toNat ∨ 99 < w.loansHeld.toNat ∨ 15 < w.holdsReady.toNat ∨ w.flags ≠ 0 := by
  rw [entry_eq, ite_eq_right_iff, Option.map_eq_none_iff]
  constructor
  · intro h
    by_contra hgood
    simp only [not_or, not_not, Nat.not_lt] at hgood
    obtain ⟨hcard, hcategory, hloans, hholds, hflags⟩ := hgood
    exact hcard (h ⟨hflags, hcategory, hloans, hholds⟩)
  · rintro hbad ⟨hflags, hcategory, hloans, hholds⟩
    rcases hbad with hcard | hbad | hbad | hbad | hbad
    · exact hcard
    · exact absurd hcategory (Nat.not_le.2 hbad)
    · exact absurd hloans (Nat.not_le.2 hbad)
    · exact absurd hholds (Nat.not_le.2 hbad)
    · exact absurd hflags hbad

end

theorem Borrower.wire_laysOut {b : Borrower} (h : b.Legal) : b.wire.LaysOut b := by
  obtain ⟨-, hlong, hcategory, hloans, hholds, hfines, hexpiry⟩ := h
  exact ⟨CodeField.ofCode_holds hlong, natByte_toNat (by omega), natByte_toNat (by omega), natByte_toNat (by omega), rfl,
    natHalf_toNat hfines, natHalf_toNat hexpiry⟩

/-! ## Categories (R69) -/

section
variable {w : CategoryWire}

theorem CategoryWire.entry_eq : CategoryWire.entry w =
    if w.category.toNat ≤ 15 ∧ w.maxLoans.toNat ≤ 99 ∧ w.expiryGrace.toNat ≤ 60 ∧ w.offlineCap.toNat ≤ 24 ∧ 1 ≤ w.shelfDays.toNat ∧
        w.shelfDays.toNat ≤ 30 then
      some ⟨w.category.toNat, w.maxLoans.toNat, w.finesLimit.toNat, w.expiryGrace.toNat, w.offlineCap.toNat, w.shelfDays.toNat⟩
    else none := by
  simp only [CategoryWire.entry, Bool.and_eq_true, decide_eq_true_eq, inRange_iff, and_assoc]

theorem CategoryWire.entry_eq_some {e : CategoryEntry} : CategoryWire.entry w = some e ↔ w.LaysOut e ∧ e.Legal := by
  rw [entry_eq, Option.ite_none_right_eq_some]
  constructor
  · rintro ⟨⟨hcategory, hloans, hgrace, hcap, hshelf⟩, heq⟩
    obtain rfl := Option.some.inj heq
    exact ⟨⟨rfl, rfl, rfl, rfl, rfl, rfl⟩, hcategory, hloans, half_le w.finesLimit, hgrace, hcap, hshelf⟩
  · obtain ⟨category, maxLoans, finesLimit, expiryGrace, offlineCap, shelfDays⟩ := e
    rintro ⟨⟨rfl, rfl, rfl, rfl, rfl, rfl⟩, hcategory, hloans, -, hgrace, hcap, hshelf⟩
    exact ⟨⟨hcategory, hloans, hgrace, hcap, hshelf⟩, rfl⟩

theorem CategoryWire.entry_eq_none : CategoryWire.entry w = none ↔
    15 < w.category.toNat ∨ 99 < w.maxLoans.toNat ∨ 60 < w.expiryGrace.toNat ∨ 24 < w.offlineCap.toNat ∨
    w.shelfDays = 0 ∨ 30 < w.shelfDays.toNat := by
  simp only [entry_eq, ite_eq_right_iff, reduceCtorEq, imp_false]
  bv_omega

end

theorem CategoryEntry.wire_laysOut {e : CategoryEntry} (h : e.Legal) : e.wire.LaysOut e := by
  obtain ⟨hcategory, hloans, hfines, hgrace, hcap, -, hshelf⟩ := h
  exact ⟨natByte_toNat (by omega), natByte_toNat (by omega), natHalf_toNat hfines, natByte_toNat (by omega), natByte_toNat (by omega),
    natByte_toNat (by omega)⟩

end Machine

end Sys2Proof
end

section
/-! PROOF. Classification entries as they travel (R10). -/

namespace Sys2Proof.Machine

section
variable {w : PrefixWire}

/-! ## The class with its default, and the check -/

/-- The class bytes of a wire form lay out a class whose default is within its range. -/
def PrefixWire.LaysClass (w : PrefixWire) : CodeClass → Prop
  | .borrower category => w.cls = 1 ∧ w.hasDefault = 1 ∧ w.default.toNat = category ∧ category ≤ 15
  | .item itemClass => w.cls = 2 ∧ w.hasDefault = 1 ∧ w.default.toNat = itemClass ∧ itemClass ≤ 31
  | .command => w.cls = 3 ∧ w.hasDefault = 0 ∧ w.default = 0
  | .ignore => w.cls = 4 ∧ w.hasDefault = 0 ∧ w.default = 0

theorem byte_eq_of_toNat {b c : Byte} (h : b.toNat = c.toNat) : b = c := BitVec.eq_of_toNat_eq h

theorem PrefixWire.codeClass_eq_some {c : CodeClass} : PrefixWire.codeClass w = some c ↔ PrefixWire.LaysClass w c := by
  constructor
  · unfold PrefixWire.codeClass
    intro h
    split at h
    · next hdefault hcls =>
      obtain ⟨hrange, rfl⟩ := Option.ite_none_right_eq_some.1 h |>.imp_right Option.some.inj
      exact ⟨byte_eq_of_toNat hcls, boolOf_eq_some.1 hdefault, rfl, hrange⟩
    · next hdefault hcls =>
      obtain ⟨hrange, rfl⟩ := Option.ite_none_right_eq_some.1 h |>.imp_right Option.some.inj
      exact ⟨byte_eq_of_toNat hcls, boolOf_eq_some.1 hdefault, rfl, hrange⟩
    · next hdefault hcls =>
      obtain ⟨hzero, rfl⟩ := Option.ite_none_right_eq_some.1 h |>.imp_right Option.some.inj
      exact ⟨byte_eq_of_toNat hcls, boolOf_eq_some.1 hdefault, hzero⟩
    · next hdefault hcls =>
      obtain ⟨hzero, rfl⟩ := Option.ite_none_right_eq_some.1 h |>.imp_right Option.some.inj
      exact ⟨byte_eq_of_toNat hcls, boolOf_eq_some.1 hdefault, hzero⟩
    · cases h
  · intro h
    cases c with
    | borrower category =>
      obtain ⟨hcls, hdefault, rfl, hrange⟩ := h
      simp [PrefixWire.codeClass, boolOf, hcls, hdefault, hrange]
    | item itemClass =>
      obtain ⟨hcls, hdefault, rfl, hrange⟩ := h
      simp [PrefixWire.codeClass, boolOf, hcls, hdefault, hrange]
    | command =>
      obtain ⟨hcls, hdefault, hzero⟩ := h
      simp [PrefixWire.codeClass, boolOf, hcls, hdefault, hzero]
    | ignore =>
      obtain ⟨hcls, hdefault, hzero⟩ := h
      simp [PrefixWire.codeClass, boolOf, hcls, hdefault, hzero]

theorem PrefixWire.codeClass_eq_none : PrefixWire.codeClass w = none ↔
    w.cls = 0 ∨ 4 < w.cls.toNat ∨ (w.cls = 1 ∧ (w.hasDefault ≠ 1 ∨ 15 < w.default.toNat)) ∨
    (w.cls = 2 ∧ (w.hasDefault ≠ 1 ∨ 31 < w.default.toNat)) ∨ ((w.cls = 3 ∨ w.cls = 4) ∧ (w.hasDefault ≠ 0 ∨ w.default ≠ 0)) := by
  have hclasses : PrefixWire.codeClass w = none ↔
      ¬ (w.cls = 1 ∧ w.hasDefault = 1 ∧ w.default.toNat ≤ 15) ∧ ¬ (w.cls = 2 ∧ w.hasDefault = 1 ∧ w.default.toNat ≤ 31) ∧
      ¬ (w.cls = 3 ∧ w.hasDefault = 0 ∧ w.default = 0) ∧ ¬ (w.cls = 4 ∧ w.hasDefault = 0 ∧ w.default = 0) := by
    simp only [Option.eq_none_iff_forall_ne_some, ne_eq, codeClass_eq_some]
    constructor
    · intro h
      exact ⟨fun ⟨hcls, hdefault, hrange⟩ => h (.borrower _) ⟨hcls, hdefault, rfl, hrange⟩,
        fun ⟨hcls, hdefault, hrange⟩ => h (.item _) ⟨hcls, hdefault, rfl, hrange⟩, h .command, h .ignore⟩
    · rintro ⟨hborrower, hitem, hcommand, hignore⟩ c hc
      cases c with
      | borrower category =>
        obtain ⟨hcls, hdefault, rfl, hrange⟩ := hc
        exact hborrower ⟨hcls, hdefault, hrange⟩
      | item itemClass =>
        obtain ⟨hcls, hdefault, rfl, hrange⟩ := hc
        exact hitem ⟨hcls, hdefault, hrange⟩
      | command => exact hcommand hc
      | ignore => exact hignore hc
  rw [hclasses]
  bv_omega

theorem CheckMethod.ofNumber_eq_some {n : Nat} {m : CheckMethod} : CheckMethod.ofNumber n = some m ↔ n = m.number := by
  unfold CheckMethod.ofNumber
  split
  · cases m <;> simp [CheckMethod.number]
  · cases m <;> simp [CheckMethod.number]
  · cases m <;> simp_all [CheckMethod.number]

theorem CheckMethod.ofNumber_eq_none {n : Nat} : CheckMethod.ofNumber n = Option.none ↔ n ≠ 1 ∧ n ≠ 2 := by
  unfold CheckMethod.ofNumber
  split <;> simp_all

/-! ## The entry -/

/-- The numbers of the entry are within the ranges of R10, and a command is not checked. -/
def PrefixWire.InRanges (w : PrefixWire) (lead : List Digit) (cls : CodeClass) (check : CheckMethod) : Prop :=
  w.slot.toNat ≤ 31 ∧ lead.length ≤ 6 ∧ 6 ≤ w.minLength.toNat ∧ w.minLength.toNat ≤ w.maxLength.toNat ∧ w.maxLength.toNat ≤ 16 ∧
  (cls = .command → check = .none)

theorem PrefixWire.inRanges_iff {lead : List Digit} {cls : CodeClass} {check : CheckMethod} :
    (w.slot.toNat ≤ 31 && lead.length ≤ 6 && inRange 6 16 w.minLength.toNat && inRange 6 16 w.maxLength.toNat
      && w.minLength.toNat ≤ w.maxLength.toNat && !(cls == .command && check == .weighted10)) = true ↔
    PrefixWire.InRanges w lead cls check := by
  have hcheck : (!(cls == .command && check == .weighted10)) = true ↔ (cls = .command → check = .none) := by
    cases check <;> simp
  simp only [PrefixWire.InRanges, Bool.and_eq_true, decide_eq_true_eq, inRange_iff, hcheck]
  constructor
  · rintro ⟨⟨⟨⟨⟨hslot, hlead⟩, hshort, -⟩, -, hlong⟩, hordered⟩, hcommand⟩
    exact ⟨hslot, hlead, hshort, hordered, hlong, hcommand⟩
  · rintro ⟨hslot, hlead, hshort, hordered, hlong, hcommand⟩
    exact ⟨⟨⟨⟨⟨hslot, hlead⟩, hshort, hordered.trans hlong⟩, hshort.trans hordered, hlong⟩, hordered⟩, hcommand⟩

/-- A wire form is an entry exactly when its parts are read and the numbers are within their ranges. -/
theorem PrefixWire.entry_iff {e : PrefixEntry} : PrefixWire.entry w = some e ↔
    CodeField.digits 1 w.lead = some e.lead ∧ PrefixWire.codeClass w = some e.cls ∧
    CheckMethod.ofNumber w.check.toNat = some e.check ∧ PrefixWire.InRanges w e.lead e.cls e.check ∧
    w.slot.toNat = e.slot ∧ w.minLength.toNat = e.minLength ∧ w.maxLength.toNat = e.maxLength := by
  constructor
  · intro h
    unfold PrefixWire.entry at h
    split at h
    · next lead cls check hlead hcls hcheck =>
      obtain ⟨hranges, rfl⟩ := Option.ite_none_right_eq_some.1 h |>.imp inRanges_iff.1 Option.some.inj
      exact ⟨hlead, hcls, hcheck, hranges, rfl, rfl, rfl⟩
    · cases h
  · obtain ⟨slot, lead, minLength, maxLength, cls, check⟩ := e
    rintro ⟨hlead, hcls, hcheck, hranges, rfl, rfl, rfl⟩
    simp only [PrefixWire.entry, hlead, hcls, hcheck]
    exact if_pos (inRanges_iff.2 hranges)

/-- The check byte names the check of the entry. -/
theorem CheckMethod.byte_iff {b : Byte} {m : CheckMethod} :
    b.toNat = m.number ↔ b = (match m with | .none => 1 | .weighted10 => 2) := by
  cases m with
  | none => exact ⟨fun h => byte_eq_of_toNat h, fun h => h ▸ rfl⟩
  | weighted10 => exact ⟨fun h => byte_eq_of_toNat h, fun h => h ▸ rfl⟩

theorem PrefixWire.entry_eq_some {e : PrefixEntry} : PrefixWire.entry w = some e ↔ w.LaysOut e ∧ e.Legal := by
  rw [entry_iff, CodeField.digits_iff, codeClass_eq_some, CheckMethod.ofNumber_eq_some, CheckMethod.byte_iff]
  obtain ⟨slot, lead, minLength, maxLength, cls, check⟩ := e
  constructor
  · rintro ⟨⟨hdigits, hlead⟩, hcls, hcheck, ⟨hslot, hsix, hshort, hordered, hlong, hcommand⟩, rfl, rfl, rfl⟩
    cases cls with
    | borrower category =>
      obtain ⟨hclass, hdefault, hlaid, hrange⟩ := hcls
      exact ⟨⟨rfl, hlead, rfl, rfl, hcheck, hclass, hdefault, hlaid⟩, hslot, hdigits, hsix, hshort, hordered, hlong, hrange⟩
    | item itemClass =>
      obtain ⟨hclass, hdefault, hlaid, hrange⟩ := hcls
      exact ⟨⟨rfl, hlead, rfl, rfl, hcheck, hclass, hdefault, hlaid⟩, hslot, hdigits, hsix, hshort, hordered, hlong, hrange⟩
    | command => exact ⟨⟨rfl, hlead, rfl, rfl, hcheck, hcls⟩, hslot, hdigits, hsix, hshort, hordered, hlong, hcommand rfl⟩
    | ignore => exact ⟨⟨rfl, hlead, rfl, rfl, hcheck, hcls⟩, hslot, hdigits, hsix, hshort, hordered, hlong, trivial⟩
  · rintro ⟨⟨rfl, hlead, rfl, rfl, hcheck, hlaid⟩, hslot, hdigits, hsix, hshort, hordered, hlong, hlegal⟩
    cases cls with
    | borrower category =>
      obtain ⟨hclass, hdefault, hlaid⟩ := hlaid
      exact ⟨⟨hdigits, hlead⟩, ⟨hclass, hdefault, hlaid, hlegal⟩, hcheck, ⟨hslot, hsix, hshort, hordered, hlong, nofun⟩, rfl, rfl, rfl⟩
    | item itemClass =>
      obtain ⟨hclass, hdefault, hlaid⟩ := hlaid
      exact ⟨⟨hdigits, hlead⟩, ⟨hclass, hdefault, hlaid, hlegal⟩, hcheck, ⟨hslot, hsix, hshort, hordered, hlong, nofun⟩, rfl, rfl, rfl⟩
    | command => exact ⟨⟨hdigits, hlead⟩, hlaid, hcheck, ⟨hslot, hsix, hshort, hordered, hlong, fun _ => hlegal⟩, rfl, rfl, rfl⟩
    | ignore => exact ⟨⟨hdigits, hlead⟩, hlaid, hcheck, ⟨hslot, hsix, hshort, hordered, hlong, nofun⟩, rfl, rfl, rfl⟩

/-- A wire form is no entry exactly when a part is not read or a number is out of its range. -/
theorem PrefixWire.entry_eq_none_iff : PrefixWire.entry w = none ↔
    (∀ ds, CodeField.digits 1 w.lead = some ds → 6 < ds.length) ∨ PrefixWire.codeClass w = none ∨
    CheckMethod.ofNumber w.check.toNat = none ∨ 31 < w.slot.toNat ∨ w.minLength.toNat < 6 ∨ w.maxLength.toNat < w.minLength.toNat ∨
    16 < w.maxLength.toNat ∨ (PrefixWire.codeClass w = some .command ∧ CheckMethod.ofNumber w.check.toNat = some .weighted10) := by
  rw [← not_iff_not, ← ne_eq, Option.ne_none_iff_exists']
  simp only [not_or, not_forall, Nat.not_lt, ← ne_eq (a := PrefixWire.codeClass w), ← ne_eq (a := CheckMethod.ofNumber _),
    Option.ne_none_iff_exists', entry_iff]
  constructor
  · rintro ⟨e, hlead, hcls, hcheck, ⟨hslot, hsix, hshort, hordered, hlong, hcommand⟩, -⟩
    refine ⟨⟨_, hlead, hsix⟩, ⟨_, hcls⟩, ⟨_, hcheck⟩, hslot, hshort, hordered, hlong, ?_⟩
    rintro ⟨hcommandClass, hweighted⟩
    have hnone := hcommand (Option.some.inj (hcls.symm.trans hcommandClass))
    exact absurd (hnone.symm.trans (Option.some.inj (hcheck.symm.trans hweighted))) nofun
  · rintro ⟨⟨lead, hlead, hsix⟩, ⟨cls, hcls⟩, ⟨check, hcheck⟩, hslot, hshort, hordered, hlong, hcommand⟩
    refine ⟨⟨w.slot.toNat, lead, w.minLength.toNat, w.maxLength.toNat, cls, check⟩, hlead, hcls, hcheck,
      ⟨hslot, hsix, hshort, hordered, hlong, ?_⟩, rfl, rfl, rfl⟩
    rintro rfl
    cases check with
    | none => rfl
    | weighted10 => exact absurd ⟨hcls, hcheck⟩ hcommand

theorem PrefixWire.entry_eq_none : PrefixWire.entry w = none ↔
    31 < w.slot.toNat ∨ (∀ ds, CodeField.digits 1 w.lead = some ds → 6 < ds.length) ∨
    w.minLength.toNat < 6 ∨ 16 < w.minLength.toNat ∨ w.maxLength.toNat < 6 ∨ 16 < w.maxLength.toNat ∨
    w.maxLength.toNat < w.minLength.toNat ∨ w.cls = 0 ∨ 4 < w.cls.toNat ∨ (w.check ≠ 1 ∧ w.check ≠ 2) ∨
    (w.cls = 1 ∧ (w.hasDefault ≠ 1 ∨ 15 < w.default.toNat)) ∨ (w.cls = 2 ∧ (w.hasDefault ≠ 1 ∨ 31 < w.default.toNat)) ∨
    ((w.cls = 3 ∨ w.cls = 4) ∧ (w.hasDefault ≠ 0 ∨ w.default ≠ 0)) ∨ (w.cls = 3 ∧ w.check = 2) := by
  rw [entry_eq_none_iff, codeClass_eq_none, codeClass_eq_some, CheckMethod.ofNumber_eq_none, CheckMethod.ofNumber_eq_some]
  by_cases hlead : ∀ ds, CodeField.digits 1 w.lead = some ds → 6 < ds.length
  · exact ⟨fun _ => .inr (.inl hlead), fun _ => .inl hlead⟩
  · simp only [hlead, false_or, PrefixWire.LaysClass, CheckMethod.number]
    bv_omega

end

theorem PrefixEntry.wire_laysOut {e : PrefixEntry} (h : e.Legal) : e.wire.LaysOut e := by
  obtain ⟨slot, lead, minLength, maxLength, cls, check⟩ := e
  obtain ⟨hslot, -, hsix, hshort, hordered, hlong, hlegal⟩ := h
  have hlead : (CodeField.ofCode lead).Holds lead := CodeField.ofCode_holds (hsix.trans (by omega))
  have hnumbers : (natByte slot).toNat = slot ∧ (natByte minLength).toNat = minLength ∧ (natByte maxLength).toNat = maxLength := by
    simp only at hslot hshort hordered hlong
    exact ⟨natByte_toNat (by omega), natByte_toNat (by omega), natByte_toNat (by omega)⟩
  obtain ⟨hslotByte, hminByte, hmaxByte⟩ := hnumbers
  have hcheck : (natByte check.number).toNat = check.number := by cases check <;> rfl
  refine ⟨hslotByte, hlead, hminByte, hmaxByte, CheckMethod.byte_iff.1 hcheck, ?_⟩
  cases cls with
  | borrower category => exact ⟨rfl, rfl, natByte_toNat (Nat.le_trans hlegal (by decide))⟩
  | item itemClass => exact ⟨rfl, rfl, natByte_toNat (Nat.le_trans hlegal (by decide))⟩
  | command => exact ⟨rfl, rfl, rfl⟩
  | ignore => exact ⟨rfl, rfl, rfl⟩

end Sys2Proof.Machine
end

section
/-! PROOF. Block entries and loan rules as they travel (R54, R55, R67). -/

namespace Sys2Proof.Machine

/-! ## Block keys (R54) -/

section
variable {w : BlockKeyWire}

theorem BlockKeyWire.key_iff {k : BlockKey} : BlockKeyWire.key w = some k ↔
    CodeField.digits 1 w.pattern = some k.pattern ∧ w.k.toNat = k.k ∧ w.cardLength.toNat = k.cardLength ∧ k.Legal := by
  unfold BlockKeyWire.key
  rw [Option.filter_eq_some_iff, Option.map_eq_some_iff, BlockKey.legal_iff]
  constructor
  · rintro ⟨⟨pattern, hpattern, rfl⟩, hlegal⟩
    exact ⟨hpattern, rfl, rfl, hlegal⟩
  · obtain ⟨cardLength, number, pattern⟩ := k
    rintro ⟨hpattern, rfl, rfl, hlegal⟩
    exact ⟨⟨pattern, hpattern, rfl⟩, hlegal⟩

theorem BlockKeyWire.key_eq_some {k : BlockKey} : BlockKeyWire.key w = some k ↔ w.LaysOut k ∧ k.Legal := by
  rw [key_iff, CodeField.digits_iff]
  constructor
  · rintro ⟨⟨-, hpattern⟩, hnumber, hlength, hlegal⟩
    exact ⟨⟨hpattern, hnumber, hlength⟩, hlegal⟩
  · rintro ⟨⟨hpattern, hnumber, hlength⟩, hlegal⟩
    refine ⟨⟨?_, hpattern⟩, hnumber, hlength, hlegal⟩
    obtain ⟨-, -, -, hless, hsum⟩ := hlegal
    omega

theorem BlockKeyWire.key_eq_none : BlockKeyWire.key w = none ↔
    w.cardLength.toNat < 6 ∨ 16 < w.cardLength.toNat ∨ 8 < w.k.toNat ∨ w.cardLength.toNat ≤ w.k.toNat ∨
    ∀ ds, CodeField.digits 1 w.pattern = some ds → ds.length + w.k.toNat ≠ w.cardLength.toNat := by
  rw [← not_iff_not, ← ne_eq, Option.ne_none_iff_exists']
  simp only [not_or, not_forall, Nat.not_lt, Nat.not_le, not_not, key_iff]
  constructor
  · rintro ⟨⟨cardLength, number, pattern⟩, hpattern, rfl, rfl, hshort, hlong, hnumber, hless, hsum⟩
    exact ⟨hshort, hlong, hnumber, hless, pattern, hpattern, hsum⟩
  · rintro ⟨hshort, hlong, hnumber, hless, pattern, hpattern, hsum⟩
    exact ⟨⟨_, _, pattern⟩, hpattern, rfl, rfl, hshort, hlong, hnumber, hless, hsum⟩

end

theorem BlockKey.wire_laysOut {k : BlockKey} (h : k.Legal) : k.wire.LaysOut k := by
  obtain ⟨-, hlong, hnumber, -, hsum⟩ := h
  exact ⟨CodeField.ofCode_holds (by omega), natByte_toNat (by omega), natByte_toNat (by omega)⟩

/-! ## Block entries (R54, R55) -/

theorem BlockAction.ofNumber_eq_some {n : Nat} {a : BlockAction} : BlockAction.ofNumber n = some a ↔ n = a.number := by
  unfold BlockAction.ofNumber
  split
  · cases a <;> simp [BlockAction.number]
  · cases a <;> simp [BlockAction.number]
  · cases a <;> simp [BlockAction.number]
  · cases a <;> simp_all [BlockAction.number]

theorem BlockAction.ofNumber_eq_none {n : Nat} : BlockAction.ofNumber n = none ↔ n = 0 ∨ 3 < n := by
  unfold BlockAction.ofNumber
  split
  case h_4 hone htwo hthree =>
    have hother : n ≠ 1 ∧ n ≠ 2 ∧ n ≠ 3 := ⟨hone, htwo, hthree⟩
    exact ⟨fun _ => by omega, fun _ => rfl⟩
  all_goals simp

theorem BlockAction.byte_iff {b : Byte} {a : BlockAction} :
    b.toNat = a.number ↔ b = (match a with | .refuse => 1 | .refer => 2 | .watch => 3) := by
  cases a with
  | refuse => exact ⟨fun h => byte_eq_of_toNat h, fun h => h ▸ rfl⟩
  | refer => exact ⟨fun h => byte_eq_of_toNat h, fun h => h ▸ rfl⟩
  | watch => exact ⟨fun h => byte_eq_of_toNat h, fun h => h ▸ rfl⟩

section
variable {w : BlockWire}

theorem BlockWire.entry_iff {e : BlockEntry} : BlockWire.entry w = some e ↔
    BlockKeyWire.key w.key = some e.key ∧ BlockAction.ofNumber w.action.toNat = some e.action ∧ w.reason.toNat = e.reason ∧
    w.reason.toNat ≤ 63 ∧ ∃ expires, boolOf w.hasExpiry = some expires ∧ e.expiryDay = if expires then some w.expiryDay.toNat else none := by
  constructor
  · intro h
    unfold BlockWire.entry at h
    split at h
    · next key action expires hkey haction hexpires =>
      obtain ⟨hreason, rfl⟩ := Option.ite_none_right_eq_some.1 h |>.imp_right Option.some.inj
      exact ⟨hkey, haction, rfl, hreason, expires, hexpires, rfl⟩
    · cases h
  · obtain ⟨key, action, reason, expiryDay⟩ := e
    rintro ⟨hkey, haction, rfl, hreason, expires, hexpires, rfl⟩
    simp only [BlockWire.entry, hkey, haction, hexpires]
    exact if_pos hreason

theorem BlockWire.entry_eq_some {e : BlockEntry} : BlockWire.entry w = some e ↔ w.LaysOut e ∧ e.key.Legal ∧ e.reason ≤ 63 := by
  rw [entry_iff, BlockKeyWire.key_eq_some, BlockAction.ofNumber_eq_some, BlockAction.byte_iff]
  obtain ⟨key, action, reason, expiryDay⟩ := e
  constructor
  · rintro ⟨⟨hkey, hlegal⟩, haction, rfl, hreason, expires, hexpires, rfl⟩
    refine ⟨⟨hkey, haction, rfl, ?_⟩, hlegal, hreason⟩
    cases expires with
    | false => exact boolOf_eq_some.1 hexpires
    | true => exact ⟨boolOf_eq_some.1 hexpires, rfl⟩
  · rintro ⟨⟨hkey, haction, rfl, hexpiry⟩, hlegal, hreason⟩
    refine ⟨⟨hkey, hlegal⟩, haction, rfl, hreason, ?_⟩
    cases expiryDay with
    | none => exact ⟨false, boolOf_eq_some.2 hexpiry, rfl⟩
    | some day =>
      obtain ⟨hpresent, rfl⟩ := hexpiry
      exact ⟨true, boolOf_eq_some.2 hpresent, rfl⟩

theorem BlockWire.entry_eq_none : BlockWire.entry w = none ↔
    BlockKeyWire.key w.key = none ∨ w.action = 0 ∨ 3 < w.action.toNat ∨ 63 < w.reason.toNat ∨ 1 < w.hasExpiry.toNat := by
  have haction : BlockAction.ofNumber w.action.toNat = none ↔ w.action = 0 ∨ 3 < w.action.toNat := by
    rw [BlockAction.ofNumber_eq_none]
    bv_omega
  rw [← or_assoc (a := w.action = 0), ← haction, ← boolOf_eq_none, ← not_iff_not, ← ne_eq, Option.ne_none_iff_exists']
  simp only [not_or, Nat.not_lt, ← ne_eq (b := none), Option.ne_none_iff_exists', entry_iff]
  constructor
  · rintro ⟨e, hkey, haction, -, hreason, expires, hexpires, -⟩
    exact ⟨⟨_, hkey⟩, ⟨_, haction⟩, hreason, _, hexpires⟩
  · rintro ⟨⟨key, hkey⟩, ⟨action, haction⟩, hreason, expires, hexpires⟩
    exact ⟨⟨key, action, _, _⟩, hkey, haction, rfl, hreason, expires, hexpires, rfl⟩

end

theorem BlockEntry.wire_laysOut {e : BlockEntry} (hkey : e.key.Legal) (hreason : e.reason ≤ 63)
    (hexpiry : ∀ day, e.expiryDay = some day → day ≤ 65535) : e.wire.LaysOut e := by
  obtain ⟨key, action, reason, expiryDay⟩ := e
  have haction : (natByte action.number).toNat = action.number := by cases action <;> rfl
  refine ⟨BlockKey.wire_laysOut hkey, BlockAction.byte_iff.1 haction, natByte_toNat (Nat.le_trans hreason (by decide)), ?_⟩
  cases expiryDay with
  | none => rfl
  | some day => exact ⟨rfl, natHalf_toNat (hexpiry day rfl)⟩

theorem BlockEntry.wire_expiryDay {e : BlockEntry} (h : e.expiryDay = none) : e.wire.expiryDay = 0 := by
  rw [BlockEntry.wire, h]
  rfl

/-! ## Loan rules (R67) -/

theorem LoanKind.ofNumber_eq_some {n : Nat} {k : LoanKind} : LoanKind.ofNumber n = some k ↔ n = k.number := by
  unfold LoanKind.ofNumber
  split
  · cases k <;> simp [LoanKind.number]
  · cases k <;> simp [LoanKind.number]
  · cases k <;> simp_all [LoanKind.number]

theorem LoanKind.ofNumber_eq_none {n : Nat} : LoanKind.ofNumber n = none ↔ n = 0 ∨ 2 < n := by
  unfold LoanKind.ofNumber
  split
  case h_3 hone htwo =>
    have hother : n ≠ 1 ∧ n ≠ 2 := ⟨hone, htwo⟩
    exact ⟨fun _ => by omega, fun _ => rfl⟩
  all_goals simp

theorem LoanKind.byte_iff {b : Byte} {k : LoanKind} : b.toNat = k.number ↔ b = (match k with | .days => 1 | .hours => 2) := by
  cases k with
  | days => exact ⟨fun h => byte_eq_of_toNat h, fun h => h ▸ rfl⟩
  | hours => exact ⟨fun h => byte_eq_of_toNat h, fun h => h ▸ rfl⟩

section
variable {w : RuleWire}

/-- Every field of a rule but its place and kind is laid out as absent. -/
def RuleWire.Fieldless (w : RuleWire) : Prop :=
  w.presence = 0 ∧ w.period = 0 ∧ w.classLimit = 0 ∧ w.renewalsAllowed = 0 ∧ w.grace = 0 ∧ w.fineRate = 0 ∧ w.fineCap = 0

/-- The fields of a rule of the kind are present and within their ranges. -/
def RuleWire.InRanges (w : RuleWire) (kind : LoanKind) : Prop :=
  w.presence = 0x3f ∧ 1 ≤ w.period.toNat ∧ w.period.toNat ≤ kind.longest ∧ w.classLimit.toNat ≤ 24 ∧ w.renewalsAllowed.toNat ≤ 9 ∧
  w.grace.toNat ≤ 30 ∧ w.fineRate.toNat ≤ 999

/-- The rule of the kind that the fields spell. -/
def RuleWire.spelled (w : RuleWire) (kind : LoanKind) : LoanRule :=
  { category := w.category.toNat, itemClass := w.itemClass.toNat, kind := kind, period := w.period.toNat,
    classLimit := w.classLimit.toNat, renewalsAllowed := w.renewalsAllowed.toNat, grace := w.grace.toNat,
    fineRate := w.fineRate.toNat, fineCap := w.fineCap.toNat }

theorem RuleWire.rule_iff {rule : Option LoanRule} : RuleWire.rule w = some rule ↔
    (w.category.toNat ≤ 15 ∧ w.itemClass.toNat ≤ 31) ∧
    ((w.kind = 0 ∧ RuleWire.Fieldless w ∧ rule = none) ∨
     ∃ kind, LoanKind.ofNumber w.kind.toNat = some kind ∧ RuleWire.InRanges w kind ∧ rule = some (RuleWire.spelled w kind)) := by
  unfold RuleWire.rule
  rw [Option.ite_none_right_eq_some, rulePlace_iff]
  refine and_congr_right fun _ => ?_
  by_cases hkind : w.kind = 0
  · have hnone : LoanKind.ofNumber w.kind.toNat = none := LoanKind.ofNumber_eq_none.2 (.inl (congrArg BitVec.toNat hkind))
    rw [if_pos hkind, hnone, Option.ite_none_right_eq_some]
    simp only [Bool.and_eq_true, decide_eq_true_eq, and_assoc, hkind, true_and, reduceCtorEq, false_and, exists_false, or_false,
      RuleWire.Fieldless, Option.some.injEq, eq_comm (a := rule)]
  · rw [if_neg hkind]
    cases hread : LoanKind.ofNumber w.kind.toNat with
    | none => simp only [hkind, false_and, false_or, reduceCtorEq, exists_false]
    | some kind =>
      simp only [hkind, false_and, false_or, Option.some.injEq, exists_eq_left', Option.ite_none_right_eq_some, Bool.and_eq_true,
        decide_eq_true_eq, inRange_iff, and_assoc, RuleWire.InRanges, eq_comm (a := rule), RuleWire.spelled]

theorem RuleWire.rule_eq_some {rule : Option LoanRule} : RuleWire.rule w = some rule ↔
    w.LaysOut w.category.toNat w.itemClass.toNat rule ∧ w.category.toNat ≤ 15 ∧ w.itemClass.toNat ≤ 31 ∧
    ∀ r, rule = some r → r.Legal ∧ r.category = w.category.toNat ∧ r.itemClass = w.itemClass.toNat := by
  rw [rule_iff]
  constructor
  · rintro ⟨⟨hcategory, hitemClass⟩, ⟨hkind, hfields, rfl⟩ | ⟨kind, hkind, ⟨hpresence, hleast, hlongest, hlimit, hrenewals, hgrace, hrate⟩, rfl⟩⟩
    · exact ⟨⟨rfl, rfl, hkind, hfields⟩, hcategory, hitemClass, nofun⟩
    · have hbyte := LoanKind.byte_iff.1 (LoanKind.ofNumber_eq_some.1 hkind)
      have hlegal : (RuleWire.spelled w kind).Legal := by
        refine ⟨hleast, ?_, hlimit, hrenewals, hgrace, hrate, half_le w.fineCap⟩
        cases kind <;> exact hlongest
      refine ⟨⟨rfl, rfl, hbyte, hpresence, rfl, rfl, rfl, rfl, rfl, rfl⟩, hcategory, hitemClass, fun r hr => ?_⟩
      obtain rfl := Option.some.inj hr
      exact ⟨hlegal, rfl, rfl⟩
  · rintro ⟨⟨-, -, hlaid⟩, hcategory, hitemClass, hlegal⟩
    refine ⟨⟨hcategory, hitemClass⟩, ?_⟩
    cases rule with
    | none =>
      obtain ⟨hkind, hfields⟩ := hlaid
      exact .inl ⟨hkind, hfields, rfl⟩
    | some r =>
      obtain ⟨category, itemClass, kind, period, classLimit, renewalsAllowed, grace, fineRate, fineCap⟩ := r
      obtain ⟨hkind, hpresence, rfl, rfl, rfl, rfl, rfl, rfl⟩ := hlaid
      obtain ⟨⟨hleast, hlongest, hlimit, hrenewals, hgrace, hrate, -⟩, rfl, rfl⟩ := hlegal _ rfl
      refine .inr ⟨kind, LoanKind.ofNumber_eq_some.2 (LoanKind.byte_iff.2 hkind), ⟨hpresence, hleast, ?_, hlimit, hrenewals, hgrace, hrate⟩,
        rfl⟩
      cases kind <;> exact hlongest

theorem RuleWire.rule_eq_none : RuleWire.rule w = none ↔
    15 < w.category.toNat ∨ 31 < w.itemClass.toNat ∨ 2 < w.kind.toNat ∨
    (w.kind = 0 ∧ (w.presence ≠ 0 ∨ w.period ≠ 0 ∨ w.classLimit ≠ 0 ∨ w.renewalsAllowed ≠ 0 ∨ w.grace ≠ 0 ∨ w.fineRate ≠ 0 ∨
      w.fineCap ≠ 0)) ∨
    (w.kind ≠ 0 ∧ (w.presence ≠ 0x3f ∨ w.period = 0 ∨ (w.kind = 1 ∧ 365 < w.period.toNat) ∨
      (w.kind = 2 ∧ 72 < w.period.toNat) ∨ 24 < w.classLimit.toNat ∨ 9 < w.renewalsAllowed.toNat ∨ 30 < w.grace.toNat ∨
      999 < w.fineRate.toNat)) := by
  have hread : (∃ rule, RuleWire.rule w = some rule) ↔ (w.category.toNat ≤ 15 ∧ w.itemClass.toNat ≤ 31) ∧
      ((w.kind = 0 ∧ RuleWire.Fieldless w) ∨ (w.kind = 1 ∧ RuleWire.InRanges w .days) ∨ (w.kind = 2 ∧ RuleWire.InRanges w .hours)) := by
    simp only [rule_iff, LoanKind.ofNumber_eq_some]
    constructor
    · rintro ⟨rule, hplace, ⟨hkind, hfields, -⟩ | ⟨kind, hkind, hranges, -⟩⟩
      · exact ⟨hplace, .inl ⟨hkind, hfields⟩⟩
      · cases kind with
        | days => exact ⟨hplace, .inr (.inl ⟨byte_eq_of_toNat hkind, hranges⟩)⟩
        | hours => exact ⟨hplace, .inr (.inr ⟨byte_eq_of_toNat hkind, hranges⟩)⟩
    · rintro ⟨hplace, ⟨hkind, hfields⟩ | ⟨hkind, hranges⟩ | ⟨hkind, hranges⟩⟩
      · exact ⟨_, hplace, .inl ⟨hkind, hfields, rfl⟩⟩
      · exact ⟨_, hplace, .inr ⟨.days, congrArg BitVec.toNat hkind, hranges, rfl⟩⟩
      · exact ⟨_, hplace, .inr ⟨.hours, congrArg BitVec.toNat hkind, hranges, rfl⟩⟩
  rw [← not_iff_not, ← ne_eq, Option.ne_none_iff_exists', hread]
  simp only [RuleWire.Fieldless, RuleWire.InRanges, LoanKind.longest]
  bv_omega

end

theorem ruleWire_laysOut {category itemClass : Nat} {rule : Option LoanRule} (hcategory : category ≤ 15) (hitemClass : itemClass ≤ 31)
    (hlegal : ∀ r, rule = some r → r.Legal) : (ruleWire category itemClass rule).LaysOut category itemClass rule := by
  have hplace : (natByte category).toNat = category ∧ (natByte itemClass).toNat = itemClass :=
    ⟨natByte_toNat (by omega), natByte_toNat (by omega)⟩
  obtain ⟨hcategoryByte, hitemClassByte⟩ := hplace
  cases rule with
  | none => exact ⟨hcategoryByte, hitemClassByte, rfl, rfl, rfl, rfl, rfl, rfl, rfl, rfl⟩
  | some r =>
    obtain ⟨-, hlongest, hlimit, hrenewals, hgrace, hrate, hcap⟩ := hlegal r rfl
    have hperiod : r.period ≤ 365 := by
      refine hlongest.trans ?_
      cases r.kind <;> decide
    have hkind : (natByte r.kind.number).toNat = r.kind.number := by cases r.kind <;> rfl
    exact ⟨hcategoryByte, hitemClassByte, LoanKind.byte_iff.1 hkind, rfl, natHalf_toNat (by omega), natByte_toNat (by omega),
      natByte_toNat (by omega), natByte_toNat (by omega), natHalf_toNat (by omega), natHalf_toNat hcap⟩

end Sys2Proof.Machine
end

section
/-! PROOF. Item entries as they travel (R61, R63). -/

namespace Sys2Proof.Machine

/-! ## Fields that may be absent -/

section
variable {α : Type} {present absentOk : Bool} {value : Option α}

theorem optional_eq_some {x : Option α} : optional present absentOk value = some x ↔
    (present = true ∧ ∃ y, value = some y ∧ x = some y) ∨ (present = false ∧ absentOk = true ∧ x = none) := by
  cases present with
  | false => simp [optional, eq_comm (a := x)]
  | true => simp [optional, Option.map_eq_some_iff, eq_comm (a := x)]

theorem optional_isSome : (∃ x, optional present absentOk value = some x) ↔
    if present = true then ∃ y, value = some y else absentOk = true := by
  simp only [optional_eq_some]
  cases present with
  | false => simp
  | true => simp

/-- A field is read as present exactly when its presence bit is set. -/
theorem optional_present {x : Option α} (h : optional present absentOk value = some x) : x.isSome = present := by
  rcases optional_eq_some.1 h with ⟨rfl, y, -, rfl⟩ | ⟨rfl, -, rfl⟩
  · rfl
  · rfl

end

theorem bounded_eq_some {high n m : Nat} : bounded high n = some m ↔ n = m ∧ n ≤ high := by
  rw [bounded, Option.ite_none_right_eq_some, Option.some.injEq, and_comm]

/-- A number field read with its range. -/
theorem optional_number {present absentOk : Bool} {field high : Nat} (habsent : absentOk = true ↔ field = 0) {x : Option Nat} :
    optional present absentOk (bounded high field) = some x ↔ laysOptional present field x ∧ ∀ n, x = some n → n ≤ high := by
  rw [optional_eq_some, habsent]
  cases x with
  | none => simp [laysOptional]
  | some n =>
    simp only [bounded_eq_some, Option.some.injEq, exists_eq_right', forall_eq', laysOptional, reduceCtorEq, and_false, or_false]
    constructor
    · rintro ⟨hpresent, rfl, hrange⟩
      exact ⟨⟨hpresent, rfl⟩, hrange⟩
    · rintro ⟨⟨hpresent, rfl⟩, hrange⟩
      exact ⟨hpresent, rfl, hrange⟩

theorem CodeField.isAbsent_iff {f : CodeField} : CodeField.isAbsent f = true ↔ f = BitVec.allOnes 64 := beq_iff_eq

theorem code_iff_legal {f : CodeField} {c : Code} : CodeField.code f = some c ↔ f.Holds c ∧ legalCode c := by
  rw [CodeField.code_iff]
  exact ⟨fun ⟨hshort, hholds⟩ => ⟨hholds, hshort, hholds.length_le⟩, fun ⟨hholds, hshort, _⟩ => ⟨hshort, hholds⟩⟩

/-- A code field read with its length. -/
theorem optional_code {present : Bool} {field : CodeField} {x : Option Code} :
    optional present (CodeField.isAbsent field) (CodeField.code field) = some x ↔
      laysOptionalCode present field x ∧ ∀ c, x = some c → legalCode c := by
  rw [optional_eq_some, CodeField.isAbsent_iff]
  cases x with
  | none => simp [laysOptionalCode]
  | some c => simp [laysOptionalCode, code_iff_legal, and_assoc]

/-- The holder with the due day, read together. -/
theorem optional_holder {present absentOk : Bool} {field : CodeField} {day : Nat}
    (habsent : absentOk = true ↔ field = BitVec.allOnes 64 ∧ day = 0) {x : Option (Code × Nat)} :
    optional present absentOk ((CodeField.code field).map fun c => (c, day)) = some x ↔
      laysOptionalCode present field (x.map Prod.fst) ∧ laysOptional present day (x.map Prod.snd) ∧
      ∀ c, x.map Prod.fst = some c → legalCode c := by
  rw [optional_eq_some, habsent]
  cases x with
  | none =>
    constructor
    · rintro (⟨-, y, -, hnone⟩ | ⟨hpresent, ⟨hfield, hday⟩, -⟩)
      · cases hnone
      · exact ⟨⟨hpresent, hfield⟩, ⟨hpresent, hday⟩, nofun⟩
    · rintro ⟨⟨hpresent, hfield⟩, ⟨-, hday⟩, -⟩
      exact .inr ⟨hpresent, ⟨hfield, hday⟩, rfl⟩
  | some pair =>
    obtain ⟨c, n⟩ := pair
    constructor
    · rintro (⟨hpresent, y, hread, heq⟩ | ⟨-, -, hnone⟩)
      · obtain ⟨read, hcode, rfl⟩ := Option.map_eq_some_iff.1 hread
        obtain ⟨rfl, rfl⟩ := Prod.mk.inj (Option.some.inj heq)
        obtain ⟨hholds, hlegal⟩ := code_iff_legal.1 hcode
        exact ⟨⟨hpresent, hholds⟩, ⟨hpresent, rfl⟩, fun o ho => Option.some.inj ho ▸ hlegal⟩
      · cases hnone
    · rintro ⟨⟨hpresent, hholds⟩, ⟨-, rfl⟩, hlegal⟩
      exact .inl ⟨hpresent, _, Option.map_eq_some_iff.2 ⟨c, code_iff_legal.2 ⟨hholds, hlegal c rfl⟩, rfl⟩, rfl⟩

/-! ## The fields of an entry -/

theorem half_eq_zero {x : Half} : (x == 0) = true ↔ x.toNat = 0 := by
  rw [beq_iff_eq]
  bv_omega

theorem byte_eq_zero {x : Byte} : (x == 0) = true ↔ x.toNat = 0 := by
  rw [beq_iff_eq]
  bv_omega

section
variable {w : ItemWire}

theorem ItemWire.bit_eq (w : ItemWire) : (w.presence.toNat % 2 == 1) = w.bit 0 ∧ (w.presence.toNat / 2 % 2 == 1) = w.bit 1 ∧
    (w.presence.toNat / 4 % 2 == 1) = w.bit 2 ∧ (w.presence.toNat / 8 % 2 == 1) = w.bit 3 ∧
    (w.presence.toNat / 16 % 2 == 1) = w.bit 4 := by
  simp [ItemWire.bit]

/-- The optional fields of a wire form, read one by one. -/
structure ItemWire.Reads (w : ItemWire) (f : ItemFields) : Prop where
  itemClass : optional (w.bit 0) (w.itemClass == 0) (bounded 31 w.itemClass.toNat) = some f.itemClass
  holder : optional (w.bit 1) (CodeField.isAbsent w.holder && w.dueDay == 0)
    ((CodeField.code w.holder).map fun c => (c, w.dueDay.toNat)) = some f.holder
  dueMinute : optional (w.bit 2) (w.dueMinute == 0) (bounded 1439 w.dueMinute.toNat) = some f.dueMinute
  hold : optional (w.bit 3) (CodeField.isAbsent w.holdBorrower) (CodeField.code w.holdBorrower) = some f.hold
  pickup : optional (w.bit 4) (w.pickupDay == 0) (some w.pickupDay.toNat) = some f.pickup
  bits : w.presence.toNat < 32

theorem ItemWire.fields_iff {f : ItemFields} : ItemWire.fields w = some f ↔ ItemWire.Reads w f := by
  obtain ⟨hclassBit, hholderBit, hminuteBit, hholdBit, hpickupBit⟩ := ItemWire.bit_eq w
  constructor
  · intro h
    simp only [ItemWire.fields, hclassBit, hholderBit, hminuteBit, hholdBit, hpickupBit] at h
    split at h
    · next itemClass holder dueMinute hold pickup hitemClass hholder hdueMinute hhold hpickup =>
      obtain ⟨hbits, rfl⟩ := Option.ite_none_right_eq_some.1 h |>.imp_right Option.some.inj
      exact ⟨hitemClass, hholder, hdueMinute, hhold, hpickup, hbits⟩
    · cases h
  · rintro ⟨hitemClass, hholder, hdueMinute, hhold, hpickup, hbits⟩
    simp only [ItemWire.fields, hclassBit, hholderBit, hminuteBit, hholdBit, hpickupBit, hitemClass, hholder, hdueMinute, hhold, hpickup]
    exact if_pos hbits

/-- The optional fields of a wire form, as R198 lays them out, within their ranges. -/
theorem ItemWire.reads_iff {f : ItemFields} : ItemWire.Reads w f ↔
    (laysOptional (w.bit 0) w.itemClass.toNat f.itemClass ∧ ∀ n, f.itemClass = some n → n ≤ 31) ∧
    (laysOptionalCode (w.bit 1) w.holder (f.holder.map Prod.fst) ∧ laysOptional (w.bit 1) w.dueDay.toNat (f.holder.map Prod.snd) ∧
      ∀ c, f.holder.map Prod.fst = some c → legalCode c) ∧
    (laysOptional (w.bit 2) w.dueMinute.toNat f.dueMinute ∧ ∀ n, f.dueMinute = some n → n ≤ 1439) ∧
    (laysOptionalCode (w.bit 3) w.holdBorrower f.hold ∧ ∀ c, f.hold = some c → legalCode c) ∧
    laysOptional (w.bit 4) w.pickupDay.toNat f.pickup ∧ w.presence.toNat < 32 := by
  have hpickup : optional (w.bit 4) (w.pickupDay == 0) (some w.pickupDay.toNat) = some f.pickup ↔
      laysOptional (w.bit 4) w.pickupDay.toNat f.pickup := by
    have hbounded : bounded 65535 w.pickupDay.toNat = some w.pickupDay.toNat := bounded_eq_some.2 ⟨rfl, half_le w.pickupDay⟩
    rw [← hbounded, optional_number half_eq_zero, and_iff_left_iff_imp]
    intro hlaid n hn
    rw [hn] at hlaid
    exact hlaid.2 ▸ half_le w.pickupDay
  have habsent : (CodeField.isAbsent w.holder && w.dueDay == 0) = true ↔ w.holder = BitVec.allOnes 64 ∧ w.dueDay.toNat = 0 := by
    rw [Bool.and_eq_true, CodeField.isAbsent_iff, half_eq_zero]
  rw [← optional_number byte_eq_zero, ← optional_holder habsent, ← optional_number half_eq_zero, ← optional_code, ← hpickup]
  exact ⟨fun ⟨hclass, hholder, hminute, hhold, hday, hbits⟩ => ⟨hclass, hholder, hminute, hhold, hday, hbits⟩,
    fun ⟨hclass, hholder, hminute, hhold, hday, hbits⟩ => ⟨hclass, hholder, hminute, hhold, hday, hbits⟩⟩

end

/-! ## The status and the fields that it carries (R61) -/

/-- The fields that a status gives an entry. -/
def ItemStatus.fields (itemClass : Option Nat) (s : ItemStatus) : ItemFields where
  itemClass := itemClass
  holder := s.holder.bind fun c => s.due.map fun due => (c, due.day)
  dueMinute := s.due.bind Due.minute
  hold := s.hold
  pickup := s.pickup

/-- The rules of R61 that a status does not keep of itself: at most 9 renewals, and a hold of another borrower than the holder. -/
def ItemStatus.Kept (s : ItemStatus) : Prop := s.renewalsUsed ≤ 9 ∧ ∀ c, s.holder = some c → s.hold ≠ some c

theorem statusOf_eq_some {n used : Nat} {f : ItemFields} {s : ItemStatus} :
    statusOf n used f = some s ↔ n = s.number ∧ used = s.renewalsUsed ∧ f = s.fields f.itemClass ∧ s.Kept := by
  obtain ⟨itemClass, holder, dueMinute, hold, pickup⟩ := f
  constructor
  · intro h
    unfold statusOf at h
    split at h
    case h_1 c day hholder hpickup =>
      obtain ⟨rfl, rfl⟩ : holder = some (c, day) ∧ pickup = none := ⟨hholder, hpickup⟩
      obtain ⟨hkept, rfl⟩ := Option.ite_none_right_eq_some.1 h |>.imp_right Option.some.inj
      rw [Bool.and_eq_true, decide_eq_true_eq, bne_iff_ne] at hkept
      exact ⟨rfl, rfl, rfl, hkept.1, fun o ho => Option.some.inj ho ▸ hkept.2⟩
    case h_2 c hholder hminute hhold hpickup =>
      obtain ⟨rfl, rfl, rfl, rfl⟩ : holder = none ∧ dueMinute = none ∧ hold = some c ∧ pickup = none := ⟨hholder, hminute, hhold, hpickup⟩
      obtain ⟨rfl, rfl⟩ := Option.ite_none_right_eq_some.1 h |>.imp_right Option.some.inj
      exact ⟨rfl, rfl, rfl, Nat.zero_le _, nofun⟩
    case h_3 c day hholder hminute hhold hpickup =>
      obtain ⟨rfl, rfl, rfl, rfl⟩ : holder = none ∧ dueMinute = none ∧ hold = some c ∧ pickup = some day :=
        ⟨hholder, hminute, hhold, hpickup⟩
      obtain ⟨rfl, rfl⟩ := Option.ite_none_right_eq_some.1 h |>.imp_right Option.some.inj
      exact ⟨rfl, rfl, rfl, Nat.zero_le _, nofun⟩
    case h_4 hholder hminute hhold hpickup =>
      obtain ⟨rfl, rfl, rfl, rfl⟩ : holder = none ∧ dueMinute = none ∧ hold = none ∧ pickup = none := ⟨hholder, hminute, hhold, hpickup⟩
      obtain ⟨rfl, rfl⟩ := Option.ite_none_right_eq_some.1 h |>.imp_right Option.some.inj
      exact ⟨rfl, rfl, rfl, Nat.zero_le _, nofun⟩
    case h_5 hholder hminute hpickup =>
      obtain ⟨rfl, rfl, rfl⟩ : holder = none ∧ dueMinute = none ∧ pickup = none := ⟨hholder, hminute, hpickup⟩
      obtain ⟨rfl, rfl⟩ := Option.ite_none_right_eq_some.1 h |>.imp_right Option.some.inj
      exact ⟨rfl, rfl, rfl, Nat.zero_le _, nofun⟩
    case h_6 hholder hminute hhold hpickup =>
      obtain ⟨rfl, rfl, rfl, rfl⟩ : holder = none ∧ dueMinute = none ∧ hold = none ∧ pickup = none := ⟨hholder, hminute, hhold, hpickup⟩
      obtain ⟨rfl, rfl⟩ := Option.ite_none_right_eq_some.1 h |>.imp_right Option.some.inj
      exact ⟨rfl, rfl, rfl, Nat.zero_le _, nofun⟩
    case h_7 => cases h
  · rintro ⟨rfl, rfl, hfields, hrenewals, hother⟩
    obtain ⟨-, rfl, rfl, rfl, rfl⟩ := ItemFields.mk.inj hfields
    cases s with
    | onLoan holder due used hold =>
      have hkept : (used ≤ 9 && hold != some holder) = true := by
        rw [Bool.and_eq_true, decide_eq_true_eq, bne_iff_ne]
        exact ⟨hrenewals, hother holder rfl⟩
      exact if_pos hkept
    | _ => rfl

/-! ## The entry -/

section
variable {w : ItemWire}

theorem ItemWire.entry_iff {e : ItemEntry} : ItemWire.entry w = some e ↔
    CodeField.code w.code = some e.code ∧ w.status.toNat = e.status.number ∧ w.renewalsUsed.toNat = e.status.renewalsUsed ∧
    ItemWire.Reads w (e.status.fields e.itemClass) ∧ e.status.Kept := by
  constructor
  · intro h
    unfold ItemWire.entry at h
    split at h
    · next code f hcode hfields =>
      obtain ⟨s, hstatus, rfl⟩ := Option.map_eq_some_iff.1 h
      obtain ⟨hnumber, hused, hcarried, hkept⟩ := statusOf_eq_some.1 hstatus
      exact ⟨hcode, hnumber, hused, hcarried ▸ ItemWire.fields_iff.1 hfields, hkept⟩
    · cases h
  · obtain ⟨code, itemClass, s⟩ := e
    rintro ⟨hcode, hnumber, hused, hreads, hkept⟩
    have hstatus : statusOf w.status.toNat w.renewalsUsed.toNat (s.fields itemClass) = some s :=
      statusOf_eq_some.2 ⟨hnumber, hused, rfl, hkept⟩
    simp only [ItemWire.entry, hcode, ItemWire.fields_iff.2 hreads, hstatus]
    rfl

end

/-- The ranges of an item entry, said once for every status. -/
theorem ItemEntry.legal_iff {e : ItemEntry} : e.Legal ↔ legalCode e.code ∧ (∀ n, e.itemClass = some n → n ≤ 31) ∧
    (∀ c, e.status.holder = some c → legalCode c) ∧ (∀ due, e.status.due = some due → due.day ≤ 65535) ∧
    (∀ m, e.status.due.bind Due.minute = some m → m ≤ 1439) ∧ (∀ c, e.status.hold = some c → legalCode c) ∧
    (∀ day, e.status.pickup = some day → day ≤ 65535) ∧ e.status.Kept := by
  obtain ⟨code, itemClass, s⟩ := e
  refine and_congr_right fun _ => and_congr_right fun _ => ?_
  cases s with
  | onLoan holder due used hold =>
    constructor
    · rintro ⟨hholder, hday, hminute, hused, hhold⟩
      refine ⟨fun c hc => Option.some.inj hc ▸ hholder, fun due hdue => Option.some.inj hdue ▸ hday, hminute, fun c hc => ?_, nofun, hused,
        fun c hc hsame => ?_⟩
      · obtain ⟨hlegal, -⟩ := hhold c hc
        exact hlegal
      · obtain ⟨-, hother⟩ := hhold c hsame
        exact hother (Option.some.inj hc).symm
    · rintro ⟨hholder, hday, hminute, hhold, -, hused, hother⟩
      exact ⟨hholder holder rfl, hday due rfl, hminute, hused, fun h hh => ⟨hhold h hh, fun hsame => hother h (congrArg some hsame.symm) hh⟩⟩
  | _ => simp [ItemStatus.holder, ItemStatus.due, ItemStatus.hold, ItemStatus.pickup, ItemStatus.Kept, ItemStatus.renewalsUsed]

/-- R198's layout of an item entry, said once for every status. -/
theorem ItemWire.laysOut_iff {w : ItemWire} {e : ItemEntry} : w.LaysOut e ↔
    w.code.Holds e.code ∧ w.presence.toNat < 32 ∧ laysOptional (w.bit 0) w.itemClass.toNat e.itemClass ∧
    w.status.toNat = e.status.number ∧ w.renewalsUsed.toNat = e.status.renewalsUsed ∧
    laysOptionalCode (w.bit 1) w.holder e.status.holder ∧ laysOptional (w.bit 1) w.dueDay.toNat (e.status.due.map Due.day) ∧
    laysOptional (w.bit 2) w.dueMinute.toNat (e.status.due.bind Due.minute) ∧
    laysOptionalCode (w.bit 3) w.holdBorrower e.status.hold ∧ laysOptional (w.bit 4) w.pickupDay.toNat e.status.pickup := by
  obtain ⟨code, itemClass, s⟩ := e
  cases s <;> rfl

theorem laysOptional_half_le {present : Bool} {x : Half} {v : Option Nat} (h : laysOptional present x.toNat v) :
    ∀ n, v = some n → n ≤ 65535 := by
  rintro n rfl
  obtain ⟨-, rfl⟩ := h
  exact half_le x

theorem ItemStatus.fields_holder (itemClass : Option Nat) (s : ItemStatus) :
    (s.fields itemClass).holder.map Prod.fst = s.holder ∧ (s.fields itemClass).holder.map Prod.snd = s.due.map Due.day := by
  cases s <;> exact ⟨rfl, rfl⟩

section
variable {w : ItemWire}

theorem ItemWire.entry_eq_some {e : ItemEntry} : ItemWire.entry w = some e ↔ w.LaysOut e ∧ e.Legal := by
  obtain ⟨hholderCode, hholderDay⟩ := e.status.fields_holder e.itemClass
  rw [entry_iff, code_iff_legal, reads_iff, laysOut_iff, ItemEntry.legal_iff, hholderCode, hholderDay]
  constructor
  · rintro ⟨⟨hcode, hlegal⟩, hnumber, hused, ⟨⟨hclass, hclassRange⟩, ⟨hholder, hday, hholderLegal⟩, ⟨hminute, hminuteRange⟩,
      ⟨hhold, hholdLegal⟩, hpickup, hbits⟩, hkept⟩
    refine ⟨⟨hcode, hbits, hclass, hnumber, hused, hholder, hday, hminute, hhold, hpickup⟩, hlegal, hclassRange, hholderLegal,
      fun due hdue => ?_, hminuteRange, hholdLegal, laysOptional_half_le hpickup, hkept⟩
    exact laysOptional_half_le hday due.day (congrArg (Option.map Due.day) hdue)
  · rintro ⟨⟨hcode, hbits, hclass, hnumber, hused, hholder, hday, hminute, hhold, hpickup⟩, hlegal, hclassRange, hholderLegal, -,
      hminuteRange, hholdLegal, -, hkept⟩
    exact ⟨⟨hcode, hlegal⟩, hnumber, hused, ⟨⟨hclass, hclassRange⟩, ⟨hholder, hday, hholderLegal⟩, ⟨hminute, hminuteRange⟩,
      ⟨hhold, hholdLegal⟩, hpickup, hbits⟩, hkept⟩

end

/-! ## The wire form of an entry -/

theorem optionCode_laysOptionalCode {v : Option Code} (h : ∀ c, v = some c → legalCode c) :
    laysOptionalCode v.isSome (optionCode v) v := by
  cases v with
  | none => exact ⟨rfl, rfl⟩
  | some c =>
    obtain ⟨-, hlong⟩ := h c rfl
    exact ⟨rfl, CodeField.ofCode_holds hlong⟩

theorem natByte_laysOptional {v : Option Nat} (h : ∀ n, v = some n → n ≤ 255) : laysOptional v.isSome (natByte (v.getD 0)).toNat v := by
  cases v with
  | none => exact ⟨rfl, rfl⟩
  | some n => exact ⟨rfl, natByte_toNat (h n rfl)⟩

theorem natHalf_laysOptional {v : Option Nat} (h : ∀ n, v = some n → n ≤ 65535) :
    laysOptional v.isSome (natHalf (v.getD 0)).toNat v := by
  cases v with
  | none => exact ⟨rfl, rfl⟩
  | some n => exact ⟨rfl, natHalf_toNat (h n rfl)⟩

/-- The presence bits of five fields, read back. -/
theorem presence_bits (a b c d e : Bool) :
    let p := presenceBit a 0 + presenceBit b 1 + presenceBit c 2 + presenceBit d 3 + presenceBit e 4
    p < 32 ∧ (p / 2 ^ 0 % 2 == 1) = a ∧ (p / 2 ^ 1 % 2 == 1) = b ∧ (p / 2 ^ 2 % 2 == 1) = c ∧ (p / 2 ^ 3 % 2 == 1) = d ∧
      (p / 2 ^ 4 % 2 == 1) = e := by
  revert a b c d e
  decide

/-- The presence bits of an entry's wire form. -/
theorem ItemEntry.wire_bits (e : ItemEntry) : e.wire.presence.toNat < 32 ∧ e.wire.bit 0 = e.itemClass.isSome ∧
    e.wire.bit 1 = e.status.due.isSome ∧ e.wire.bit 2 = (e.status.due.bind Due.minute).isSome ∧ e.wire.bit 3 = e.status.hold.isSome ∧
    e.wire.bit 4 = e.status.pickup.isSome := by
  obtain ⟨hless, hbits⟩ := presence_bits e.itemClass.isSome e.status.due.isSome (e.status.due.bind Due.minute).isSome
    e.status.hold.isSome e.status.pickup.isSome
  have hpresence := natByte_toNat (Nat.le_trans hless.le (by decide))
  refine ⟨(congrArg (· < 32) hpresence).mpr hless, ?_⟩
  simp only [ItemWire.bit, ItemEntry.wire, hpresence]
  exact hbits

theorem ItemEntry.wire_laysOut {e : ItemEntry} (h : e.Legal) : e.wire.LaysOut e := by
  obtain ⟨⟨-, hlong⟩, hclass, hholder, hday, hminute, hhold, hpickup, hused, -⟩ := ItemEntry.legal_iff.1 h
  obtain ⟨hbits, hclassBit, hdueBit, hminuteBit, hholdBit, hpickupBit⟩ := e.wire_bits
  have hholderBit : e.wire.bit 1 = e.status.holder.isSome := by
    rw [hdueBit]
    cases e.status <;> rfl
  have hdayBit : e.wire.bit 1 = (e.status.due.map Due.day).isSome := by rw [hdueBit, Option.isSome_map]
  have hnumber : (natByte e.status.number).toNat = e.status.number := by cases e.status <;> rfl
  rw [ItemWire.laysOut_iff]
  refine ⟨CodeField.ofCode_holds hlong, hbits, hclassBit ▸ natByte_laysOptional fun n hn => (hclass n hn).trans (by decide), hnumber,
    natByte_toNat (hused.trans (by decide)), hholderBit ▸ optionCode_laysOptionalCode hholder,
    hdayBit ▸ natHalf_laysOptional fun n hn => ?_, hminuteBit ▸ natHalf_laysOptional fun n hn => (hminute n hn).trans (by decide),
    hholdBit ▸ optionCode_laysOptionalCode hhold, hpickupBit ▸ natHalf_laysOptional hpickup⟩
  obtain ⟨due, hdue, rfl⟩ := Option.map_eq_some_iff.1 hn
  exact hday due hdue

end Sys2Proof.Machine
end

section
/-! PROOF. Wire forms that are no item entry (R63). -/

namespace Sys2Proof.Machine

/-! ## Statuses that exist -/

/-- The rules of R61 on a status number and the fields that stand beside it. -/
def StatusFits (n used : Nat) (f : ItemFields) : Prop :=
  (f.holder.isSome = true ↔ n = 1) ∧ (f.pickup.isSome = true ↔ n = 3) ∧ (n ≠ 1 → f.dueMinute.isSome = false) ∧ (n ≠ 1 → used = 0) ∧
  (n = 2 ∨ n = 3 → f.hold.isSome = true) ∧ (n = 4 ∨ n = 6 → f.hold.isSome = false) ∧
  (n = 1 → ∀ c, f.holder.map Prod.fst = some c → f.hold ≠ some c)

theorem ItemStatus.fits {s : ItemStatus} (h : s.Kept) (itemClass : Option Nat) :
    (1 ≤ s.number ∧ s.number ≤ 6 ∧ s.renewalsUsed ≤ 9) ∧ StatusFits s.number s.renewalsUsed (s.fields itemClass) := by
  obtain ⟨hused, hother⟩ := h
  have hleast : 1 ≤ s.number := by cases s <;> exact Nat.le_add_left 1 _
  have hmost : s.number ≤ 6 := by cases s <;> simp [ItemStatus.number]
  refine ⟨⟨hleast, hmost, hused⟩, ?_⟩
  cases s with
  | onLoan holder due used hold =>
    exact ⟨⟨fun _ => rfl, fun _ => rfl⟩, ⟨nofun, nofun⟩, fun h => absurd rfl h, fun h => absurd rfl h, nofun, nofun, fun _ => hother⟩
  | _ => simp [StatusFits, ItemStatus.fields, ItemStatus.number, ItemStatus.holder, ItemStatus.due, ItemStatus.hold, ItemStatus.pickup,
      ItemStatus.renewalsUsed]

theorem statusOf_of_fits {n used : Nat} {f : ItemFields} (hleast : 1 ≤ n) (hmost : n ≤ 6) (hused : used ≤ 9) (h : StatusFits n used f) :
    ∃ s, statusOf n used f = some s := by
  obtain ⟨itemClass, holder, dueMinute, hold, pickup⟩ := f
  obtain ⟨hholder, hpickup, hminute, hnone, hhold, hfree, hother⟩ := h
  simp only [Option.isSome_iff_ne_none, ne_eq, Option.isSome_eq_false_iff, Option.isNone_iff_eq_none] at hholder hpickup hminute hhold hfree
  by_cases hone : n = 1
  · obtain ⟨⟨holder, day⟩, rfl⟩ := Option.ne_none_iff_exists'.1 (hholder.2 hone)
    obtain rfl : pickup = none := not_not.1 (mt hpickup.1 (by omega))
    subst hone
    exact ⟨.onLoan holder ⟨day, dueMinute⟩ used hold, statusOf_eq_some.2 ⟨rfl, rfl, rfl, hused, fun c hc => hother rfl c hc⟩⟩
  · obtain rfl : holder = none := not_not.1 (mt hholder.1 hone)
    obtain rfl : dueMinute = none := hminute hone
    obtain rfl : used = 0 := hnone hone
    by_cases hthree : n = 3
    · obtain ⟨pickup, rfl⟩ := Option.ne_none_iff_exists'.1 (hpickup.2 hthree)
      obtain ⟨hold, rfl⟩ := Option.ne_none_iff_exists'.1 (hhold (.inr hthree))
      subst hthree
      exact ⟨.onHoldShelf hold pickup, rfl⟩
    · obtain rfl : pickup = none := not_not.1 (mt hpickup.1 hthree)
      have hrest : n = 2 ∨ n = 4 ∨ n = 5 ∨ n = 6 := by omega
      rcases hrest with rfl | rfl | rfl | rfl
      · obtain ⟨hold, rfl⟩ := Option.ne_none_iff_exists'.1 (hhold (.inl rfl))
        exact ⟨.holdPending hold, rfl⟩
      · obtain rfl : hold = none := hfree (.inl rfl)
        exact ⟨.reference, rfl⟩
      · exact ⟨.missing hold, rfl⟩
      · obtain rfl : hold = none := hfree (.inr rfl)
        exact ⟨.withdrawn, rfl⟩

/-! ## Fields that can be read -/

section
variable {w : ItemWire}

/-- Every optional field is within its range or laid out as absent, by its presence bit. -/
def ItemWire.Readable (w : ItemWire) : Prop :=
  w.presence.toNat ≤ 31 ∧ (if w.bit 0 then w.itemClass.toNat ≤ 31 else w.itemClass = 0) ∧
  (if w.bit 1 then CodeField.code w.holder ≠ none else w.holder = BitVec.allOnes 64 ∧ w.dueDay = 0) ∧
  (if w.bit 2 then w.dueMinute.toNat ≤ 1439 else w.dueMinute = 0) ∧
  (if w.bit 3 then CodeField.code w.holdBorrower ≠ none else w.holdBorrower = BitVec.allOnes 64) ∧
  (w.bit 4 = false → w.pickupDay = 0)

theorem ItemWire.readable_iff : (∃ f, ItemWire.Reads w f) ↔ ItemWire.Readable w := by
  have hreads : (∃ f, ItemWire.Reads w f) ↔ w.presence.toNat ≤ 31 ∧
      (∃ x, optional (w.bit 0) (w.itemClass == 0) (bounded 31 w.itemClass.toNat) = some x) ∧
      (∃ x, optional (w.bit 1) (CodeField.isAbsent w.holder && w.dueDay == 0)
        ((CodeField.code w.holder).map fun c => (c, w.dueDay.toNat)) = some x) ∧
      (∃ x, optional (w.bit 2) (w.dueMinute == 0) (bounded 1439 w.dueMinute.toNat) = some x) ∧
      (∃ x, optional (w.bit 3) (CodeField.isAbsent w.holdBorrower) (CodeField.code w.holdBorrower) = some x) ∧
      (∃ x, optional (w.bit 4) (w.pickupDay == 0) (some w.pickupDay.toNat) = some x) := by
    constructor
    · rintro ⟨f, hclass, hholder, hminute, hhold, hpickup, hbits⟩
      exact ⟨Nat.le_of_lt_succ hbits, ⟨_, hclass⟩, ⟨_, hholder⟩, ⟨_, hminute⟩, ⟨_, hhold⟩, _, hpickup⟩
    · rintro ⟨hbits, ⟨itemClass, hclass⟩, ⟨holder, hholder⟩, ⟨minute, hminute⟩, ⟨hold, hhold⟩, pickup, hpickup⟩
      exact ⟨⟨itemClass, holder, minute, hold, pickup⟩, hclass, hholder, hminute, hhold, hpickup, Nat.lt_succ_of_le hbits⟩
  have hbounded (high n : Nat) : (∃ m, bounded high n = some m) ↔ n ≤ high := by simp [bounded_eq_some]
  have hmapped : (∃ x, ((CodeField.code w.holder).map fun c => (c, w.dueDay.toNat)) = some x) ↔ CodeField.code w.holder ≠ none := by
    rw [← Option.ne_none_iff_exists', ne_eq, Option.map_eq_none_iff]
  have hpickup : (if w.bit 4 = true then ∃ y, some w.pickupDay.toNat = some y else (w.pickupDay == 0) = true) ↔
      (w.bit 4 = false → w.pickupDay = 0) := by
    cases w.bit 4 <;> simp
  rw [hreads]
  simp only [optional_isSome, hpickup, hbounded, hmapped]
  simp only [← Option.ne_none_iff_exists', Bool.and_eq_true, CodeField.isAbsent_iff, beq_iff_eq, ItemWire.Readable]

theorem ItemWire.Reads.present {f : ItemFields} (h : ItemWire.Reads w f) : f.holder.isSome = w.bit 1 ∧ f.dueMinute.isSome = w.bit 2 ∧
    f.hold.isSome = w.bit 3 ∧ f.pickup.isSome = w.bit 4 :=
  ⟨optional_present h.holder, optional_present h.dueMinute, optional_present h.hold, optional_present h.pickup⟩

/-- The hold is the holder's own exactly when the two code fields are the same. -/
theorem ItemWire.Reads.own_iff {f : ItemFields} (h : ItemWire.Reads w f) (hbit : w.bit 1 = true) :
    (∀ c, f.holder.map Prod.fst = some c → f.hold ≠ some c) ↔ (w.bit 3 = true → w.holdBorrower ≠ w.holder) := by
  obtain ⟨hholderBit, -, hholdBit, -⟩ := h.present
  obtain ⟨-, ⟨hholder, -, hholderLegal⟩, -, ⟨hhold, hholdLegal⟩, -⟩ := ItemWire.reads_iff.1 h
  obtain ⟨⟨c, day⟩, hf⟩ := Option.isSome_iff_exists.1 (hholderBit.trans hbit)
  rw [hf] at hholder hholderLegal
  obtain ⟨-, hc⟩ := hholder
  simp only [hf, Option.map_some, Option.some.injEq, forall_eq']
  constructor
  · intro hother hpresent hsame
    obtain ⟨o, ho⟩ := Option.isSome_iff_exists.1 (hholdBit.trans hpresent)
    rw [ho] at hhold
    obtain ⟨-, hholds⟩ := hhold
    have hcode := (code_iff_legal.2 ⟨hholds, hholdLegal o ho⟩).symm.trans (hsame ▸ code_iff_legal.2 ⟨hc, hholderLegal c rfl⟩)
    exact hother (ho.trans hcode)
  · intro hother hown
    rw [hown] at hhold
    obtain ⟨hpresent, hholds⟩ := hhold
    exact hother hpresent (hholds.field_eq hc)

/-! ## The entry -/

/-- The wire form of an item entry breaks none of the first two cases of R63. -/
def ItemWire.IsEntry (w : ItemWire) : Prop :=
  CodeField.code w.code ≠ none ∧ w.presence.toNat ≤ 31 ∧ w.status ≠ 0 ∧ w.status.toNat ≤ 6 ∧ w.renewalsUsed.toNat ≤ 9 ∧
  (if w.bit 0 then w.itemClass.toNat ≤ 31 else w.itemClass = 0) ∧
  (if w.bit 1 then CodeField.code w.holder ≠ none else w.holder = BitVec.allOnes 64 ∧ w.dueDay = 0) ∧
  (if w.bit 2 then w.dueMinute.toNat ≤ 1439 else w.dueMinute = 0) ∧
  (if w.bit 3 then CodeField.code w.holdBorrower ≠ none else w.holdBorrower = BitVec.allOnes 64) ∧
  (w.bit 4 = false → w.pickupDay = 0) ∧
  (w.bit 1 = true ↔ w.status = 1) ∧ (w.bit 4 = true ↔ w.status = 3) ∧ (w.status ≠ 1 → w.bit 2 = false) ∧
  (w.status ≠ 1 → w.renewalsUsed = 0) ∧ (w.status = 2 ∨ w.status = 3 → w.bit 3 = true) ∧
  (w.status = 4 ∨ w.status = 6 → w.bit 3 = false) ∧ (w.status = 1 → w.bit 3 = true → w.holdBorrower ≠ w.holder)

theorem ItemWire.Reads.statusFits_iff {f : ItemFields} (h : ItemWire.Reads w f) : StatusFits w.status.toNat w.renewalsUsed.toNat f ↔
    (w.bit 1 = true ↔ w.status = 1) ∧ (w.bit 4 = true ↔ w.status = 3) ∧ (w.status ≠ 1 → w.bit 2 = false) ∧
    (w.status ≠ 1 → w.renewalsUsed = 0) ∧ (w.status = 2 ∨ w.status = 3 → w.bit 3 = true) ∧
    (w.status = 4 ∨ w.status = 6 → w.bit 3 = false) ∧ (w.status = 1 → w.bit 3 = true → w.holdBorrower ≠ w.holder) := by
  obtain ⟨hholder, hminute, hhold, hpickup⟩ := h.present
  have hbyte (b k : Byte) : b.toNat = k.toNat ↔ b = k := BitVec.toNat_inj
  have hstatus : (w.status.toNat = 1 ↔ w.status = 1) ∧ (w.status.toNat = 2 ↔ w.status = 2) ∧ (w.status.toNat = 3 ↔ w.status = 3) ∧
      (w.status.toNat = 4 ↔ w.status = 4) ∧ (w.status.toNat = 6 ↔ w.status = 6) :=
    ⟨hbyte _ 1, hbyte _ 2, hbyte _ 3, hbyte _ 4, hbyte _ 6⟩
  have hused : w.renewalsUsed.toNat = 0 ↔ w.renewalsUsed = 0 := hbyte _ 0
  simp only [StatusFits, hholder, hminute, hhold, hpickup, hstatus, hused, ne_eq]
  refine and_congr_right fun hlent => and_congr_right fun _ => and_congr_right fun _ => and_congr_right fun _ => and_congr_right fun _ =>
    and_congr_right fun _ => ?_
  exact imp_congr_right fun hone => h.own_iff (hlent.2 hone)

theorem ItemWire.isEntry_iff : (∃ e, ItemWire.entry w = some e) ↔ ItemWire.IsEntry w := by
  have hzero : w.status ≠ 0 ↔ 1 ≤ w.status.toNat := by bv_omega
  constructor
  · rintro ⟨e, he⟩
    obtain ⟨hcode, hnumber, hused, hreads, hkept⟩ := ItemWire.entry_iff.1 he
    obtain ⟨⟨hleast, hmost, hrenewals⟩, hfits⟩ := ItemStatus.fits hkept e.itemClass
    rw [← hnumber, ← hused] at hfits
    rw [← hnumber] at hleast hmost
    rw [← hused] at hrenewals
    obtain ⟨hbits, hclass, hholder, hminute, hhold, hpickup⟩ := ItemWire.readable_iff.1 ⟨_, hreads⟩
    exact ⟨Option.ne_none_iff_exists'.2 ⟨_, hcode⟩, hbits, hzero.2 hleast, hmost, hrenewals, hclass, hholder, hminute, hhold, hpickup,
      hreads.statusFits_iff.1 hfits⟩
  · rintro ⟨hcode, hbits, hleast, hmost, hrenewals, hclass, hholder, hminute, hhold, hpickup, hrules⟩
    obtain ⟨code, hcode⟩ := Option.ne_none_iff_exists'.1 hcode
    obtain ⟨f, hreads⟩ := ItemWire.readable_iff.2 ⟨hbits, hclass, hholder, hminute, hhold, hpickup⟩
    obtain ⟨s, hs⟩ := statusOf_of_fits (hzero.1 hleast) hmost hrenewals (hreads.statusFits_iff.2 hrules)
    obtain ⟨hnumber, hused, hf, hkept⟩ := statusOf_eq_some.1 hs
    exact ⟨⟨code, f.itemClass, s⟩, ItemWire.entry_iff.2 ⟨hcode, hnumber, hused, hf ▸ hreads, hkept⟩⟩

theorem ItemWire.entry_eq_none : ItemWire.entry w = none ↔
    CodeField.code w.code = none ∨ 31 < w.presence.toNat ∨ w.status = 0 ∨ 6 < w.status.toNat ∨ 9 < w.renewalsUsed.toNat ∨
    (if w.bit 0 then 31 < w.itemClass.toNat else w.itemClass ≠ 0) ∨
    (if w.bit 1 then CodeField.code w.holder = none else w.holder ≠ BitVec.allOnes 64 ∨ w.dueDay ≠ 0) ∨
    (if w.bit 2 then 1439 < w.dueMinute.toNat else w.dueMinute ≠ 0) ∨
    (if w.bit 3 then CodeField.code w.holdBorrower = none else w.holdBorrower ≠ BitVec.allOnes 64) ∨
    (w.bit 4 = false ∧ w.pickupDay ≠ 0) ∨
    ¬ (w.bit 1 = true ↔ w.status = 1) ∨ ¬ (w.bit 4 = true ↔ w.status = 3) ∨ (w.status ≠ 1 ∧ w.bit 2 = true) ∨
    (w.status ≠ 1 ∧ w.renewalsUsed ≠ 0) ∨ ((w.status = 2 ∨ w.status = 3) ∧ w.bit 3 = false) ∨
    ((w.status = 4 ∨ w.status = 6) ∧ w.bit 3 = true) ∨ (w.status = 1 ∧ w.bit 3 = true ∧ w.holdBorrower = w.holder) := by
  have hite {b : Bool} {p q : Prop} : ¬ (if b then p else q) ↔ if b then ¬ p else ¬ q := by cases b <;> rfl
  rw [← not_iff_not, ← ne_eq, Option.ne_none_iff_exists', isEntry_iff, ← not_iff_not, not_not]
  simp only [ItemWire.IsEntry, not_and_or, hite, ne_eq, not_not, Nat.not_le, Classical.not_imp, Bool.not_eq_true, Bool.not_eq_false]

end

end Sys2Proof.Machine
end

section
/-! PROOF. The wire forms of the table entries, assembled (R198). -/

namespace Sys2Proof.Machine

theorem borrowerOf_eq_entry (card : CodeField) (category loansHeld holdsReady : Byte) (finesOwed expiryDay : Half) :
    borrowerOf card category loansHeld holdsReady finesOwed expiryDay =
      BorrowerWire.entry ⟨card, category, loansHeld, holdsReady, 0, finesOwed, expiryDay⟩ := (if_pos rfl).symm

/-! ## Bytes of an entry -/

theorem PrefixWire.bytes_eq (w : PrefixWire) : w.bytes = w.slot :: bytesOf 8 w.lead.toNat ++
    [w.minLength, w.maxLength, w.cls, w.check, w.hasDefault, w.default] := rfl

theorem BlockWire.bytes_eq (w : BlockWire) : w.bytes = bytesOf 8 w.key.pattern.toNat ++
    [w.key.k, w.key.cardLength, w.action, w.reason, w.hasExpiry] ++ bytesOf 2 w.expiryDay.toNat := by
  simp [BlockWire.bytes, BlockKeyWire.bytes, codeBytes]

theorem BlockWire.key_bytes (w : BlockWire) : w.key.bytes = w.bytes.take 10 := by
  have hlength : w.key.bytes.length = 10 := by simp [BlockKeyWire.bytes]
  rw [BlockWire.bytes, List.append_assoc, List.take_left' hlength]

end Sys2Proof.Machine

namespace Sys2Proof.Proofs
open Sys2Proof.Machine

/-- Settles O46, table by table. -/
theorem wireFormsAreEntries : Obligations.WireFormsAreEntries := by
  unfold Obligations.WireFormsAreEntries
  refine ⟨⟨fun _ _ _ => CodeField.digits_iff, fun _ => rfl, fun _ => CodeField.ofCode_holds⟩,
    ⟨fun _ _ => PrefixWire.entry_eq_some, fun _ => PrefixEntry.wire_laysOut, fun _ => PrefixWire.entry_eq_none⟩,
    ⟨fun _ _ => WeeklyWire.hours_eq_some, fun _ _ => weekdayWire_laysOut, fun _ => WeeklyWire.hours_eq_none⟩,
    ⟨fun _ _ => ExceptionWire.entry_eq_some, fun _ => ExceptionEntry.wire_laysOut, fun _ => ExceptionWire.entry_eq_none⟩,
    ⟨fun _ _ => BorrowerWire.entry_eq_some, fun _ => Borrower.wire_laysOut, fun _ => BorrowerWire.entry_eq_none, borrowerOf_eq_entry⟩,
    ⟨fun _ _ => BlockKeyWire.key_eq_some, fun _ => BlockKeyWire.key_eq_none, fun _ _ => BlockWire.entry_eq_some,
      fun _ hkey hreason hexpiry => ⟨BlockEntry.wire_laysOut hkey hreason hexpiry, BlockEntry.wire_expiryDay⟩,
      fun _ => BlockWire.entry_eq_none⟩,
    ⟨fun _ _ => ItemWire.entry_eq_some, fun _ => ItemEntry.wire_laysOut, fun _ => ItemWire.entry_eq_none⟩,
    ⟨fun _ _ => RuleWire.rule_eq_some, fun _ _ _ => ruleWire_laysOut, fun _ => RuleWire.rule_eq_none⟩,
    ⟨fun _ _ => CategoryWire.entry_eq_some, fun _ => CategoryEntry.wire_laysOut, fun _ => CategoryWire.entry_eq_none⟩,
    fun w => ⟨PrefixWire.bytes_eq w, w.ofBytes_bytes⟩, ?_⟩
  exact ⟨fun w => ⟨rfl, w.ofBytes_bytes⟩, fun w => ⟨rfl, w.ofBytes_bytes⟩, fun w => ⟨rfl, w.ofBytes_bytes⟩,
    fun w => ⟨BlockWire.bytes_eq w, BlockWire.key_bytes w, w.ofBytes_bytes⟩, fun w => ⟨rfl, w.ofBytes_bytes⟩,
    fun w last => ⟨rfl, rfl, w.ofBytes_fieldBytes last⟩, fun w => ⟨rfl, w.ofBytes_bytes⟩⟩

end Sys2Proof.Proofs
end
